-- ==== Sys2Proof/Word.lean ====
section
/-! DEFINITION. The word types of the FXA-9640 (file 00, R8, R9): bytes, 64-bit words and the wire's other widths. -/

namespace Sys2Proof

/-- One byte (R8, R9). -/
abbrev Byte := BitVec 8

/-- A 16-bit word. -/
abbrev Half := BitVec 16

/-- A 32-bit word: a steward core instruction word, an FP32 value, a fence (R116). -/
abbrev Word32 := BitVec 32

/-- A 64-bit word: a scalar register, a counter, a mailbox word (R15, R131). -/
abbrev Word64 := BitVec 64

/-- A 512-bit vector register (R132). -/
abbrev Vec := BitVec 512

end Sys2Proof
end

