-- ==== Sys2Proof/Machine/Bits.lean ====
section
/-! DEFINITION. Bit fields, sign extension and byte order (R8, R9): little-endian in registers, descriptors and memory,
big-endian in frames on the wire. -/

namespace Sys2Proof.Machine

/-- Bits [hi:lo] of a number (R8). -/
def bits (n hi lo : Nat) : Nat := n / 2 ^ lo % 2 ^ (hi + 1 - lo)

/-- Bit i of a number. -/
def bit (n i : Nat) : Bool := n / 2 ^ i % 2 == 1

/-- A truth value as 0 or 1. -/
def b2n (b : Bool) : Nat := if b then 1 else 0

/-- A number with every bit outside the fields, given by their highest and lowest bits, cleared: a structure whose reserved bits
read zero (R13). -/
def keepBits (fields : List (Nat × Nat)) (n : Nat) : Nat :=
  (fields.map (fun f => bits n f.1 f.2 * 2 ^ f.2)).foldl (· + ·) 0

/-- The number whose low `w` bits read as two's complement. -/
def sext (w n : Nat) : Int :=
  let m := n % 2 ^ w
  if m < 2 ^ (w - 1) then (m : Int) else (m : Int) - (2 ^ w : Nat)

/-- The low `w` bits of an integer. -/
def wrap (w : Nat) (i : Int) : Nat := (i % ((2 ^ w : Nat) : Int)).toNat

/-- The number that little-endian bytes spell (R9). -/
def leNat : List Byte → Nat
  | [] => 0
  | b :: r => b.toNat + 256 * leNat r

/-- `k` little-endian bytes of a number (R9). -/
def leBytes : Nat → Nat → List Byte
  | 0, _ => []
  | k + 1, n => BitVec.ofNat 8 n :: leBytes k (n / 256)

/-- The number that big-endian bytes spell (R9). -/
def beNat (l : List Byte) : Nat := l.foldl (fun a b => a * 256 + b.toNat) 0

/-- `k` big-endian bytes of a number (R9). -/
def beBytes (k n : Nat) : List Byte := (leBytes k n).reverse

/-- The field of bytes [lo+k-1:lo] of a little-endian structure. -/
def leAt (l : List Byte) (lo k : Nat) : Nat := leNat ((l.drop lo).take k)

/-- The field of bytes [lo+k-1:lo] of a big-endian message. -/
def beAt (l : List Byte) (lo k : Nat) : Nat := beNat ((l.drop lo).take k)

/-- The byte at an offset; zero past the end. -/
def byteAt (l : List Byte) (i : Nat) : Byte := l.getD i 0#8

/-- A list cut or filled with zero bytes to length `n`. -/
def padTo (n : Nat) (l : List Byte) : List Byte := l.take n ++ List.replicate (n - l.length) 0#8

/-- `l` with the bytes from offset `o` replaced by `v`. -/
def patch (l : List Byte) (o : Nat) (v : List Byte) : List Byte := l.take o ++ v ++ l.drop (o + v.length)

/-- The greatest multiple of `a` not above `n`. -/
def alignDown (a n : Nat) : Nat := n - n % a

/-- Rounded-up division. -/
def ceilDiv (a b : Nat) : Nat := (a + b - 1) / b

/-- The number of one bits among the low `w` bits. -/
def popc : Nat → Nat → Nat
  | 0, _ => 0
  | w + 1, n => n % 2 + popc w (n / 2)

/-- The list 0 .. n-1, lowest first. -/
def upTo (n : Nat) : List Nat := List.range n

/-- A value put in front of those with a greater or equal key. -/
def insertOn {α : Type} (f : α → Nat) (x : α) : List α → List α
  | [] => [x]
  | y :: r => if f x ≤ f y then x :: y :: r else y :: insertOn f x r

/-- A list in ascending order of a key; values of one key keep their order. -/
def sortOn {α : Type} (f : α → Nat) (l : List α) : List α := l.foldr (insertOn f) []

/-- A count clamped to [lo, hi]. -/
def clampI (lo hi x : Int) : Int := if x < lo then lo else if hi < x then hi else x

/-- The byte-wise AND, OR and XOR of numbers are those of Nat. -/
def xorBytes (a b : List Byte) : List Byte := List.zipWith (fun x y => x ^^^ y) a b

end Sys2Proof.Machine
end

