-- ==== Sys2Proof/Syntax.lean ====
section
/-! DEFINITION. The commands of the block: one constructor per row of the table of operations and events, with the
operands that the row's rule needs. A steward core's instruction is a command that names the core issuing it. -/

namespace Sys2Proof

/-! ### Operands shared by several families -/

/-- What the error correction of a read reports (R199 to R201): how many corrected errors, how many of their
write-backs met a newer write, and the byte addresses, in the space the command reads, at which an uncorrectable error
is met. -/
structure Ecc where
  ce : Nat := 0
  wb : Nat := 0
  ue : List Nat := []
  deriving DecidableEq, Repr

/-- Who makes a register access: a steward core, the host of a partition, or the management controller. -/
inductive Requester where
  | core (k : BitVec 8)
  | host (part : BitVec 2)
  | mc
  deriving DecidableEq, Repr

/-- What a fabric DATA frame carries (Table 10.3): a collective packet as its bytes (Table 9.3), the embedding units'
messages (files 07 and 08) or the re-map's (R292). `part` is the partition, `src` the sending rank. -/
inductive Payload where
  | coll (bytes : List Byte)
  | exch (part table shard slot src : Nat) (grads : List Nat)
  | exchEnd (part table src count : Nat)
  | mirror (part obj shard slot src : Nat) (record : List Byte)
  | mirrorAck (part obj shard slot : Nat)
  | discard (part obj src : Nat)
  | discardAck (part obj : Nat)
  | rowReq (part table shard slot src : Nat)
  | rowReply (part table shard slot : Nat) (row : Option (List Byte))
  | hint (part table shard slot : Nat)
  | replica (part table shard slot src : Nat) (value : List Byte)
  | repairReq (part obj offset len src : Nat)
  | repairCopy (part obj offset : Nat) (bytes : Option (List Byte))
  | report (gen rank : Nat) (leaving : Bool) (named lost : List Nat)
  | confirm (gen rank crc : Nat)
  deriving DecidableEq, Repr

/-- PTYPE of a payload (Table 10.3): 1 collective, 2 embedding traffic, 3 management. -/
def Payload.ptype : Payload → Nat
  | .coll _ => 1
  | .report .. => 3
  | .confirm .. => 3
  | _ => 2

/-- A fabric DATA frame without its link-layer fields (Table 10.3). -/
structure Frame where
  vc   : Nat
  dst  : Nat
  src  : Nat
  hops : Nat
  pay  : Payload
  deriving DecidableEq, Repr

/-! ### Fabric links (file 10) -/

/-- One training of a link (R278, R279): the lanes good at this end and at the partner's, whether the PCS aligned, the
identity the partner reports, and the 16 measured round trips and turnarounds in NCLK. -/
structure LinkTrainOp where
  link    : Fin 48
  good    : BitVec 4
  theirs  : BitVec 4
  aligned : Bool
  dims    : BitVec 32
  coord   : BitVec 32
  dir     : Nat
  delays  : List (Nat × Nat)
  deriving DecidableEq, Repr

/-- A command that names a link only. -/
structure LinkOp where
  link : Fin 48
  deriving DecidableEq, Repr

/-- A write of FAB_RETRAIN (R280). -/
structure RetrainOp where
  mask : BitVec 64
  deriving DecidableEq, Repr

/-- A frame of TYPE 1 or of a reserved TYPE arriving on a link (Table 10.3, R282, R283): its 16 header bytes, what its payload
says, its CRC field, and the codewords corrected in it (R297). -/
structure FabDataOp where
  link : Fin 48
  head : List Byte
  pay  : Payload
  fcs  : List Byte
  corr : Nat
  deriving DecidableEq, Repr

/-- A CTRL frame arriving on a link (Table 10.3, R283, R284): its 16 bytes and the codewords corrected in it (R297). -/
structure FabCtrlOp where
  link  : Fin 48
  bytes : List Byte
  corr  : Nat
  deriving DecidableEq, Repr

/-- A link's turn to send, `nclk` NCLK cycles into the tick (R73, R284). -/
structure FabTxOp where
  link : Fin 48
  nclk : Nat
  deriving DecidableEq, Repr

/-- The channel of a link whose head has been held (R287); `noLink` names instead the frames that wait for the link's
direction, which has no trained link. -/
structure FabStallOp where
  link   : Fin 48
  vc     : BitVec 3
  noLink : Bool
  deriving DecidableEq, Repr

/-- A re-map REPORT arriving on a link (R292). -/
structure ReportOp where
  link    : Fin 48
  gen     : BitVec 32
  rank    : BitVec 16
  leaving : Bool
  named   : List Nat
  lost    : List Nat
  deriving DecidableEq, Repr

/-- A re-map CONFIRM arriving on a link (R292). -/
structure ConfirmOp where
  link : Fin 48
  gen  : BitVec 32
  rank : BitVec 16
  crc  : BitVec 32
  deriving DecidableEq, Repr

/-! ### Memory tiers (file 07) -/

/-- A mailbox command of a partition that carries a descriptor or an index: TAG and payload (R194, R432). -/
structure MbxCmdOp where
  part    : BitVec 2
  tag     : BitVec 32
  payload : List Byte
  deriving DecidableEq, Repr

/-- A repair request from another module (R202): the mirror object, offset and length, and the requesting rank. -/
structure RepairReqOp where
  part   : BitVec 2
  obj    : BitVec 16
  offset : Nat
  len    : Nat
  src    : BitVec 16
  ecc    : Ecc
  deriving DecidableEq, Repr

/-- A repair's end (R202): the granule, the buddy's bytes (none: its copy is uncorrectable too), the time since
detection in ns. -/
structure RepairDoneOp where
  tier  : Nat
  addr  : Nat
  bytes : Option (List Byte)
  ns    : BitVec 32
  deriving DecidableEq, Repr

/-- A granule of a tier. -/
structure GranuleOp where
  tier : Nat
  addr : Nat
  deriving DecidableEq, Repr

/-- One turn of a scrub (R209, R494): what its reads met. -/
structure ScrubOp where
  ecc : Ecc
  deriving DecidableEq, Repr

/-- A CXL link and, where it retrained, its new width (R190). -/
structure CxlOp where
  dev   : BitVec 2
  width : Nat
  deriving DecidableEq, Repr

/-- A lost HBM stack (R190). -/
structure HbmOp where
  stack : BitVec 3
  deriving DecidableEq, Repr

/-- A CXL device's event record (R188, R209): a corrected error, or an uncorrectable one at a T2 address. -/
structure CxlEventOp where
  corrected : Bool
  addr      : Nat
  deriving DecidableEq, Repr

/-! ### Matrix engines (file 04) -/

/-- A push of a 64-byte descriptor or command to engine or EU `unit` (R115, R218). -/
structure PushOp where
  req  : Requester
  unit : BitVec 7
  word : Vec
  deriving DecidableEq, Repr

/-- A FLUSH of engine or EU `unit` (R117, R219). -/
structure FlushOp where
  req  : Requester
  unit : BitVec 7
  deriving DecidableEq, Repr

/-- A write to fence `f` of a tile (R116). -/
structure FenceOp where
  req   : Requester
  tile  : BitVec 1
  f     : BitVec 10
  value : Word32
  deriving DecidableEq, Repr

/-- The start of an engine's or EU's head, with what the error correction of its reads of scratch reports. -/
structure UnitStartOp where
  unit : BitVec 7
  ecc  : Ecc
  deriving DecidableEq, Repr

/-- A command that names an engine or an EU only. -/
structure UnitOp where
  unit : BitVec 7
  deriving DecidableEq, Repr

/-! ### Steward DMA (file 06) -/

/-- A write to register `reg` (0 SRC, 1 DST, 2 LEN, 3 MODE, 4 BURST, 5 REQ_SEL, 6 OP, 7 FILL) of a set of channel `c`
of a tile (2 is NT); `sameEdge`: it falls on the edge of the channel's last hand-over (Table 6.8). -/
structure DmaWriteOp where
  req    : Requester
  tile   : BitVec 2
  c      : BitVec 6
  reg    : BitVec 3
  value  : Word64
  sameEdge : Bool
  deriving DecidableEq, Repr

/-- A CTRL action of a channel (Table 6.5); `sameEdge`: it falls on the edge of the channel's last hand-over or request. -/
structure DmaCtrlOp where
  req    : Requester
  tile   : BitVec 2
  c      : BitVec 6
  sameEdge : Bool
  deriving DecidableEq, Repr

/-- The issue of a channel's next burst at the channel's clock edge `a` of the tick (R173). -/
structure DmaIssueOp where
  tile : BitVec 2
  c    : BitVec 6
  a    : Nat
  deriving DecidableEq, Repr

/-- The completion of a channel's oldest outstanding burst: what the reads of its source and, for COMPARE, its
destination met, at addresses of the region read. -/
structure DmaBurstOp where
  tile : BitVec 2
  c    : BitVec 6
  src  : Ecc
  dst  : Ecc
  deriving DecidableEq, Repr

/-- The completion of a channel's set. -/
structure DmaSetOp where
  tile : BitVec 2
  c    : BitVec 6
  deriving DecidableEq, Repr

/-! ### Steward cores (file 05): the formats of Table 5.4, with the core that issues the instruction -/

/-- Format A. -/
structure OpA where
  core : BitVec 8
  dst  : BitVec 5
  src1 : BitVec 5
  src2 : BitVec 5
  deriving DecidableEq, Repr

/-- Formats I and M without a memory read. For a store `dst` names DATA and `src1` BASE. -/
structure OpI where
  core : BitVec 8
  dst  : BitVec 5
  src1 : BitVec 5
  imm  : Half
  deriving DecidableEq, Repr

/-- Format M of a load, with what the error correction reports at core addresses read (R139): corrected errors of local
memory in `lce`, of scratch in `ecc.ce`. -/
structure OpL where
  core : BitVec 8
  dst  : BitVec 5
  src1 : BitVec 5
  imm  : Half
  lce  : Nat
  ecc  : Ecc
  deriving DecidableEq, Repr

/-- Format A of an atomic (R135), with what its read meets. -/
structure OpAmo where
  core : BitVec 8
  dst  : BitVec 5
  src1 : BitVec 5
  src2 : BitVec 5
  lce  : Nat
  ecc  : Ecc
  deriving DecidableEq, Repr

/-- Format B. -/
structure OpB where
  core : BitVec 8
  src1 : BitVec 5
  src2 : BitVec 5
  imm  : Half
  deriving DecidableEq, Repr

/-- Formats J and U. -/
structure OpJ where
  core : BitVec 8
  dst  : BitVec 5
  imm  : BitVec 21
  deriving DecidableEq, Repr

/-- Format V. -/
structure OpV where
  core : BitVec 8
  dst  : BitVec 5
  src1 : BitVec 5
  src2 : BitVec 5
  et   : BitVec 3
  zm   : Bool
  pred : BitVec 3
  deriving DecidableEq, Repr

/-- Format V of a vector load, with what its reads meet. -/
structure OpVL where
  core : BitVec 8
  dst  : BitVec 5
  src1 : BitVec 5
  src2 : BitVec 5
  et   : BitVec 3
  zm   : Bool
  pred : BitVec 3
  lce  : Nat
  ecc  : Ecc
  deriving DecidableEq, Repr

/-- Format C: bits [31:29], [28:26], [25:21] and [20:16]. For VCVTB the lowest bit of `rnd` is DIR. -/
structure OpC where
  core : BitVec 8
  dst  : BitVec 5
  src1 : BitVec 5
  from_ : BitVec 5
  to_  : BitVec 5
  rnd  : BitVec 3
  part : BitVec 3
  deriving DecidableEq, Repr

/-- VCVT: its fields, and what keys the random values of stochastic rounding (R62): lane 0 of the result is element `elem` of
the object `obj`. -/
structure OpCvt where
  op   : OpC
  obj  : Half
  elem : Nat
  deriving DecidableEq, Repr

/-- A control register access: its number is IMM[11:0]. -/
structure OpCsr where
  core : BitVec 8
  dst  : BitVec 5
  src1 : BitVec 5
  num  : BitVec 12
  deriving DecidableEq, Repr

/-- An instruction without operands, or an event of a core. -/
structure OpK where
  core : BitVec 8
  deriving DecidableEq, Repr

/-- A word that is no valid instruction, met by a core (R141). -/
structure OpIllegal where
  core : BitVec 8
  word : Word32
  deriving DecidableEq, Repr

/-- A write to a core's control block (R156): SC_CTRL's RUN, HALT and SCHED_NOTIFY are in `value`. -/
structure CoreCtlOp where
  req   : Requester
  core  : BitVec 8
  value : Word32
  deriving DecidableEq, Repr

/-- A write to BAR_CNT of barrier `b` of a tile (R153). -/
structure BarOp where
  req   : Requester
  tile  : BitVec 1
  b     : BitVec 6
  value : Word32
  deriving DecidableEq, Repr

/-- Where a register write falls: a register block of a tile at a core address (Table 5.3), BAR0 or BAR2 of the endpoint of
a host's partition (Tables 15.5 and 15.6), or BAR2 of an endpoint while the device holds or has failed (R451, R470). -/
inductive RegSpace where
  | unit (tile : BitVec 1)
  | bar0
  | bar2
  | hold (ep : BitVec 3)
  deriving DecidableEq, Repr

/-- A write of `size` bytes to a register. -/
structure RegWriteOp where
  req   : Requester
  space : RegSpace
  addr  : Word32
  size  : Nat
  value : Vec
  deriving DecidableEq, Repr
/-! ### Embedding units (file 08) -/

/-- The start of an EU's head: what error correction reports on its scratch arrays, on T1 and T2 rows, and the T2
granules whose row-cache line was found uncorrectable (R207). -/
structure EuStartOp where
  unit : BitVec 7
  ecc  : Ecc
  t1   : Ecc
  t2   : Ecc
  bad  : List Nat
  deriving DecidableEq, Repr

/-- A row as a message to this module names it: partition and table are this module's (R215). -/
structure RowOp where
  part  : BitVec 2
  table : BitVec 12
  shard : Nat
  slot  : Nat
  src   : Nat
  t1    : Ecc
  t2    : Ecc
  bad   : List Nat
  deriving DecidableEq, Repr

/-- A remote row's reply: its value part, or none when it is unavailable. -/
structure RowReplyOp where
  part  : BitVec 2
  table : BitVec 12
  shard : Nat
  slot  : Nat
  row   : Option (List Byte)
  deriving DecidableEq, Repr

/-- A remote row request of an EU whose reply is due (R290). -/
structure RowTimeoutOp where
  unit  : BitVec 7
  part  : BitVec 2
  table : BitVec 12
  shard : Nat
  slot  : Nat
  deriving DecidableEq, Repr

/-- A received exchange entry (R225, R228). -/
structure ExchOp where
  part  : BitVec 2
  table : BitVec 12
  shard : Nat
  slot  : Nat
  src   : Nat
  grads : List Word32
  deriving DecidableEq, Repr

/-- A received END record (R227), with the number of entries that its sender sent before it (R228). -/
structure ExchEndOp where
  part  : BitVec 2
  table : BitVec 12
  src   : Nat
  count : Nat
  deriving DecidableEq, Repr

/-- A received mirror record, its acknowledgement or its discard (R230, R232): `obj` is the object index that the record
carries. -/
structure MirrorOp where
  part   : BitVec 2
  obj    : BitVec 16
  shard  : Nat
  slot   : Nat
  src    : Nat
  record : List Byte
  deriving DecidableEq, Repr

/-- A received replica record (R231, R232): the value part of R216. -/
structure ReplicaOp where
  part  : BitVec 2
  table : BitVec 12
  shard : Nat
  slot  : Nat
  src   : Nat
  value : List Byte
  deriving DecidableEq, Repr

/-! ### Collectives (file 09) -/

/-- A slot's opening: what the error correction reports on its reads of T0 and T1. -/
structure CollSlotOp where
  t0 : Ecc
  t1 : Ecc
  deriving DecidableEq, Repr

/-- A received collective packet (Table 9.3): the frame's SRC_RANK, its payload bytes, and for a STATE packet the object
of this module that the sender's BUDDY_INDEX names. -/
structure CollPktOp where
  src   : Nat
  bytes : List Byte
  obj   : BitVec 16
  t0    : Ecc
  t1    : Ecc
  deriving DecidableEq, Repr

/-! ### Ethernet, parser, Shot path and tree engine (files 11 to 14). `at_` is an instant within the tick now open, in
units of 10 ps (one byte at 800 Gbit/s); ports are 0 to 191 and MG is 192. -/

/-- A port, at an instant. -/
structure PortOp where
  port : Nat
  at_  : Nat
  deriving DecidableEq, Repr

/-- A received frame: the instant of its first preamble byte, its bytes from the destination address through the FCS,
whether the PCS reports an error within it, and the codewords corrected and uncorrectable (R300). -/
structure EthRxOp where
  port   : Nat
  at_    : Nat
  bytes  : List Byte
  symErr : Bool
  corr   : Nat
  uncorr : Nat
  deriving DecidableEq, Repr

/-- A traffic class of a port whose pause time ends (R309). -/
structure PauseOp where
  port : Nat
  tc   : BitVec 3
  at_  : Nat
  deriving DecidableEq, Repr

/-- A receive queue whose held lossless frames are served (R310). -/
structure LosslessOp where
  queue : BitVec 12
  at_   : Nat
  deriving DecidableEq, Repr

/-- A port that sends its next frame; `data`: the bytes that the device reads from host memory for a host's transmit
frame (R306, R426). -/
structure EthTxOp where
  port : Nat
  at_  : Nat
  data : List Byte
  deriving DecidableEq, Repr

/-- A tail-word read returns (R314). `queue` counts transmit queues from 4,096; for a queue in host memory `tail` is the
word read and `descs` are the 32-byte descriptors posted since the last read, in ring order. -/
structure TailOp where
  queue : Nat
  at_   : Nat
  tail  : Nat
  descs : List (List Byte)
  deriving DecidableEq, Repr

/-- A parser pipe at an instant; `rangeUe`: the lane's copy of the range tree proves uncorrectable (R412). -/
structure PipeOp where
  pipe    : BitVec 3
  at_     : Nat
  rangeUe : Bool
  deriving DecidableEq, Repr

/-- An instant at which table entries end (R349, R352). -/
structure AgeOp where
  at_ : Nat
  deriving DecidableEq, Repr

/-- A Shot or tree lane at an instant. -/
structure LaneOp where
  lane : BitVec 3
  at_  : Nat
  deriving DecidableEq, Repr

/-- A lookup's response: the row that it names and what its T1 read reports (R370). -/
structure LookupOp where
  lane  : BitVec 3
  at_   : Nat
  table : BitVec 12
  shard : Nat
  slot  : Nat
  ecc   : Ecc
  deriving DecidableEq, Repr

/-- The end of a tree group: corrected errors, and the words of the tree store found uncorrectable (R410). -/
structure TreeEndOp where
  lane : BitVec 3
  at_  : Nat
  ce   : Nat
  ue   : List Nat
  deriving DecidableEq, Repr

/-- The next record of a Shot lane passes the Grind stage, up to its byte `upto`; `bad`: features whose crema cache line proves
uncorrectable. -/
structure GrindOp where
  lane : BitVec 3
  upto : BitVec 14
  at_  : Nat
  bad  : List Nat
  deriving DecidableEq, Repr

/-! ### Host ports and partitions (file 15) -/

/-- A partition. -/
structure PartOp where
  part : BitVec 2
  deriving DecidableEq, Repr


/-- A doorbell of queue `queue` by the host of a partition (R427). -/
structure DoorbellOp where
  part  : BitVec 2
  queue : BitVec 12
  deriving DecidableEq, Repr

/-- A host's write to SC_POST_k (R429). -/
structure ScPostOp where
  part    : BitVec 2
  core    : BitVec 8
  payload : Word32
  deriving DecidableEq, Repr

/-- A host's write to FW_CTRL of watch `w` (R430). -/
structure WatchOp where
  part : BitVec 2
  w    : BitVec 6
  ctrl : Word32
  deriving DecidableEq, Repr

/-- A host's write to HCQ_CTRL of completion queue `m` (Table 15.8). -/
structure HcqOp where
  part : BitVec 2
  m    : BitVec 4
  ctrl : Word32
  deriving DecidableEq, Repr

/-- A source of interrupts whose holdoff ends (R428): a queue (transmit queues from 4,096) or a completion queue (8,192 +
16 × partition + m). -/
structure HoldoffOp where
  source : Nat
  deriving DecidableEq, Repr

/-- A vector of a partition (R428). -/
structure VectorOp where
  part : BitVec 2
  vec  : BitVec 11
  deriving DecidableEq, Repr

/-- A mailbox: 0 to 3 a partition's; 4 + e that of the endpoint whose PT_ENDPOINT code is e (R451). -/
structure MbxOp where
  who : BitVec 4
  deriving DecidableEq, Repr

/-- A host read through BAR4 (R425), with what its reads of T1 meet. -/
structure Bar4ReadOp where
  part : BitVec 2
  off  : Nat
  len  : Nat
  ecc  : Ecc
  deriving DecidableEq, Repr

/-- A host write through BAR4 (R425). -/
structure Bar4WriteOp where
  part  : BitVec 2
  off   : Nat
  bytes : List Byte
  deriving DecidableEq, Repr

/-- A host reset of an endpoint (PT_ENDPOINT code 1 to 4; R435): `lost` when its link goes down. -/
inductive HostResetOp where
  | endpoint (ep : BitVec 3) (lost : Bool)
  | perst (port : BitVec 1) (asserted : Bool)
  deriving DecidableEq, Repr

/-- An endpoint's link up: its rate in GT/s and width, and Bus Master Enable. -/
structure HostLinkOp where
  ep    : BitVec 3
  rate  : Byte
  width : Byte
  bme   : Bool
  deriving DecidableEq, Repr

/-- A queue whose read of host memory timed out (R437): of its tail word or a descriptor, or (`buffer`) of a transmit buffer. -/
structure CplOp where
  queue  : Nat
  buffer : Bool
  deriving DecidableEq, Repr
/-! ### Dictionary, DAP, startup, health (files 16 to 19) -/

/-- A startup from step 1 of Table 17.1: whether the seed is rebuilt from the PUF (R469). -/
structure StartOp where
  puf : Bool
  deriving DecidableEq, Repr

/-- The end of step 4 (R471): the first HBM stack that failed its training, and whether a CXL device did not respond. -/
structure BringupOp where
  hbm : Option (Fin 8)
  cxl : Bool
  deriving DecidableEq, Repr

/-- A rail that did not come up, by its monitor (R510). -/
structure RailOp where
  monitor : Byte
  deriving DecidableEq, Repr

/-- A mailbox command in RECOVERY (R468): TAG and payload. -/
structure RecoveryOp where
  tag     : Word32
  payload : List Byte
  deriving DecidableEq, Repr

/-- FW_BOOT in RECOVERY: TAG, and whether the seed is rebuilt at the restart. -/
structure RecoveryBootOp where
  tag : Word32
  puf : Bool
  deriving DecidableEq, Repr

/-- A value applied to a BOOL entry. -/
structure FlagOp where
  value : Bool
  deriving DecidableEq, Repr

/-- A U8 or U32 value written. -/
structure ValueOp where
  value : Word32
  deriving DecidableEq, Repr

/-- STATS_CLEAR (R460): its value, and the partition whose credential writes it, none for OWNER and OPERATOR. -/
structure StatsOp where
  value : Word32
  part  : Option (BitVec 2)
  deriving DecidableEq, Repr

/-- Bytes written to an entry. -/
structure BytesOp where
  bytes : List Byte
  deriving DecidableEq, Repr

/-- The outcome of a read-back or of checks: whether a save's read-back succeeded, or an uncorrectable error was met. -/
structure OutcomeOp where
  flag : Bool
  deriving DecidableEq, Repr

/-- The end of a bank commit's checks: whether they met an uncorrectable error in the footprint (Table 14.7), and the errors of
the tree store that they corrected (R410). -/
structure BankEndOp where
  flag : Bool
  ce   : Nat
  deriving DecidableEq, Repr

/-- An Ethernet datagram for the MC (R452): the port it arrived on (192 MG), the instant in its tick, the frame with its
FCS, and the traffic class that its pipe gave it (0 on MG). -/
structure DapOp where
  port  : Nat
  at_   : Nat
  tc    : BitVec 3
  bytes : List Byte
  deriving DecidableEq, Repr

/-- A credential by KEY_ID. -/
structure KeyOp where
  keyId : Half
  deriving DecidableEq, Repr

/-- A subscription by its place, oldest first. -/
structure SubOp where
  place : Nat
  deriving DecidableEq, Repr

/-- The sums that a telemetry record takes from the units (Table 18.4), which the commands do not count: thousandths of ME
cycles, and bytes read and written in T1 and T2 (log entry 86). -/
structure TelemetryOp where
  meBusy : Half
  t1     : Word64
  t2     : Word64
  deriving DecidableEq, Repr

/-- A monitor sample (R487): the readings of monitors 0 to 192 in order. -/
structure SampleOp where
  readings : List Int
  deriving DecidableEq, Repr

/-- A failed tile and the tick of its last heartbeat (R499). -/
structure HeartbeatOp where
  tile : BitVec 1
  last : Nat
  deriving DecidableEq, Repr

/-- The level of a conditioned input seen in N samples in a row (R515), and the runs discarded as glitches before it. -/
structure InputOp where
  input    : Fin 5
  active   : Bool
  glitches : Nat
  deriving DecidableEq, Repr

/-- A conditioned input. -/
structure InputNumOp where
  input : Fin 5
  deriving DecidableEq, Repr

/-- A line of a core's local memory scrubbed (R495): corrected errors, and the 8-byte words, by offset, found uncorrectable. -/
structure LmScrubOp where
  core : BitVec 8
  ce   : Nat
  ue   : List (BitVec 15)
  deriving DecidableEq, Repr

/-- A line of the packet buffer scrubbed (R495): corrected errors, whether it was uncorrectable, and the received frame that
holds it (0 none). -/
structure PktScrubOp where
  ce    : Nat
  ue    : Bool
  frame : Nat
  deriving DecidableEq, Repr

/-- A line of the tree store scrubbed (R495, R410): corrected errors and the offset of a word found uncorrectable. -/
structure TreeScrubOp where
  lane : BitVec 3
  ce   : Nat
  ue   : Option (BitVec 26)
  deriving DecidableEq, Repr

/-- A line of the crema cache scrubbed (R207, R495): corrected errors and the place of a line found uncorrectable. -/
structure CremaScrubOp where
  ce : Nat
  ue : Option Nat
  deriving DecidableEq, Repr

/-! ### Ticks and the step schedule (file 03) -/

/-- A tick edge (R72): for each link, the NCLK cycles from the edge to the first byte of its beacon (R285, PHASE). -/
structure TickOp where
  phases : List Nat
  deriving DecidableEq, Repr

/-- A TICK_IN pulse (R75, R513): where its edge falls, in REFCLK cycles from the expected edge. -/
structure TickInOp where
  offset : Int
  deriving DecidableEq, Repr

/-- A BEACON frame arriving (R285, Table 10.5), `at_` NCLK cycles after this module's edge. -/
structure BeaconOp where
  link  : Fin 48
  bytes : List Byte
  at_   : Int
  deriving DecidableEq, Repr

/-- A window's sample (R80): whether the module's own work that precedes it is finished. -/
structure GateOp where
  done : Bool
  deriving DecidableEq, Repr

/-- A decision edge (R81): staged records found uncorrectable when a COMMIT publishes, by place, with the buddy's copy
(R234); and whether the MCs find a module absent when an abort exceeds REPEAT_LIMIT (R93). -/
structure DecisionOp where
  stage  : List (Nat × Option (List Byte))
  absent : Bool
  deriving DecidableEq, Repr

/-! ### The commands -/

/-- The commands: one constructor for each row of the table of operations and events, with its operands. -/
inductive Instr where
  /-- TICK_EDGE (R72). -/
  | tickEdge (o : TickOp)
  /-- TICK_IN_PULSE (R75). -/
  | tickInPulse (o : TickInOp)
  /-- BEACON_RECEIVE (R285). -/
  | beaconReceive (o : BeaconOp)
  /-- HOLDOVER_ENTRY (R78). -/
  | holdoverEntry
  /-- GATE_SAMPLE (R80). -/
  | gateSample (o : GateOp)
  /-- DECISION_EDGE (R81). -/
  | decisionEdge (o : DecisionOp)
  /-- STEP_START (R87). -/
  | stepStart
  /-- PHASE_START (R84). -/
  | phaseStart
  /-- PHASE_OVERRUN (R85). -/
  | phaseOverrun
  /-- REDUCE_DEADLINE (R91). -/
  | reduceDeadline
  /-- DECODE_TICK (R263). -/
  | decodeTick (o : CollSlotOp)
  /-- TAMP_COMMITTED (R95). -/
  | tampCommitted
  /-- SCHED_STOP (R88). -/
  | schedStop
  /-- REMAP_RESUME (R295). -/
  | remapResume
  /-- ME_Q_PUSH (R115). -/
  | meQPush (o : PushOp)
  /-- ME_FLUSH (R117). -/
  | meFlush (o : FlushOp)
  /-- ME_FENCE_ADD (R116). -/
  | meFenceAdd (o : FenceOp)
  /-- ME_FENCE_VAL (R116). -/
  | meFenceVal (o : FenceOp)
  /-- ME_GEMM (R110). -/
  | meGemm (o : UnitStartOp)
  /-- ME_REDUCE_PARTIALS (R111). -/
  | meReducePartials (o : UnitStartOp)
  /-- ME_SYNC (R112). -/
  | meSync (o : UnitOp)
  /-- ME_DESC_COMPLETE (R114). -/
  | meDescComplete (o : UnitOp)
  /-- ADD (R141). -/
  | add (o : OpA)
  /-- SUB (R141). -/
  | sub (o : OpA)
  /-- AND (R141). -/
  | and (o : OpA)
  /-- OR (R141). -/
  | or (o : OpA)
  /-- XOR (R141). -/
  | xor (o : OpA)
  /-- SLL (R141). -/
  | sll (o : OpA)
  /-- SRL (R141). -/
  | srl (o : OpA)
  /-- SRA (R141). -/
  | sra (o : OpA)
  /-- SLT (R141). -/
  | slt (o : OpA)
  /-- SLTU (R141). -/
  | sltu (o : OpA)
  /-- MUL (R141). -/
  | mul (o : OpA)
  /-- MULH (R141). -/
  | mulh (o : OpA)
  /-- MULHU (R141). -/
  | mulhu (o : OpA)
  /-- DIV (R141). -/
  | div (o : OpA)
  /-- DIVU (R141). -/
  | divu (o : OpA)
  /-- REM (R141). -/
  | rem (o : OpA)
  /-- REMU (R141). -/
  | remu (o : OpA)
  /-- MIN (R141). -/
  | min (o : OpA)
  /-- MAX (R141). -/
  | max (o : OpA)
  /-- CLZ (R141). -/
  | clz (o : OpA)
  /-- POPC (R141). -/
  | popc (o : OpA)
  /-- ADDI (R141). -/
  | addi (o : OpI)
  /-- ANDI (R141). -/
  | andi (o : OpI)
  /-- ORI (R141). -/
  | ori (o : OpI)
  /-- XORI (R141). -/
  | xori (o : OpI)
  /-- SLLI (R141). -/
  | slli (o : OpI)
  /-- SRLI (R141). -/
  | srli (o : OpI)
  /-- SRAI (R141). -/
  | srai (o : OpI)
  /-- LUI (R141). -/
  | lui (o : OpJ)
  /-- SLTI (R141). -/
  | slti (o : OpI)
  /-- FADD_D (R141). -/
  | faddD (o : OpA)
  /-- FSUB_D (R141). -/
  | fsubD (o : OpA)
  /-- FMUL_D (R141). -/
  | fmulD (o : OpA)
  /-- FDIV_D (R141). -/
  | fdivD (o : OpA)
  /-- FSQRT_D (R141). -/
  | fsqrtD (o : OpA)
  /-- FMA_D (R141). -/
  | fmaD (o : OpA)
  /-- FMIN_D (R141). -/
  | fminD (o : OpA)
  /-- FMAX_D (R141). -/
  | fmaxD (o : OpA)
  /-- FEQ_D (R141). -/
  | feqD (o : OpA)
  /-- FLT_D (R141). -/
  | fltD (o : OpA)
  /-- FLE_D (R141). -/
  | fleD (o : OpA)
  /-- FCVT_L_D (R141). -/
  | fcvtLD (o : OpA)
  /-- FCVT_D_L (R141). -/
  | fcvtDL (o : OpA)
  /-- FCVT_S_D (R141). -/
  | fcvtSD (o : OpA)
  /-- FCVT_D_S (R141). -/
  | fcvtDS (o : OpA)
  /-- LB (R141). -/
  | lb (o : OpL)
  /-- LBU (R141). -/
  | lbu (o : OpL)
  /-- LH (R141). -/
  | lh (o : OpL)
  /-- LHU (R141). -/
  | lhu (o : OpL)
  /-- LW (R141). -/
  | lw (o : OpL)
  /-- LWU (R141). -/
  | lwu (o : OpL)
  /-- LD (R141). -/
  | ld (o : OpL)
  /-- SB (R141). -/
  | sb (o : OpI)
  /-- SH (R141). -/
  | sh (o : OpI)
  /-- SW (R141). -/
  | sw (o : OpI)
  /-- SD (R141). -/
  | sd (o : OpI)
  /-- AMOADD (R141). -/
  | amoadd (o : OpAmo)
  /-- AMOSWAP (R141). -/
  | amoswap (o : OpAmo)
  /-- AMOCAS (R141). -/
  | amocas (o : OpAmo)
  /-- AMOAND (R141). -/
  | amoand (o : OpAmo)
  /-- AMOOR (R141). -/
  | amoor (o : OpAmo)
  /-- AMOMIN (R141). -/
  | amomin (o : OpAmo)
  /-- AMOMAX (R141). -/
  | amomax (o : OpAmo)
  /-- BEQ (R141). -/
  | beq (o : OpB)
  /-- BNE (R141). -/
  | bne (o : OpB)
  /-- BLT (R141). -/
  | blt (o : OpB)
  /-- BGE (R141). -/
  | bge (o : OpB)
  /-- BLTU (R141). -/
  | bltu (o : OpB)
  /-- BGEU (R141). -/
  | bgeu (o : OpB)
  /-- JAL (R141). -/
  | jal (o : OpJ)
  /-- JALR (R141). -/
  | jalr (o : OpI)
  /-- VLD (R141). -/
  | vld (o : OpL)
  /-- VST (R141). -/
  | vst (o : OpI)
  /-- VLDS (R141). -/
  | vlds (o : OpVL)
  /-- VSTS (R141). -/
  | vsts (o : OpV)
  /-- VGATH (R141). -/
  | vgath (o : OpVL)
  /-- VSCAT (R141). -/
  | vscat (o : OpV)
  /-- VADD (R141). -/
  | vadd (o : OpV)
  /-- VSUB (R141). -/
  | vsub (o : OpV)
  /-- VMUL (R141). -/
  | vmul (o : OpV)
  /-- VMIN (R141). -/
  | vmin (o : OpV)
  /-- VMAX (R141). -/
  | vmax (o : OpV)
  /-- VMINU (R141). -/
  | vminu (o : OpV)
  /-- VMAXU (R141). -/
  | vmaxu (o : OpV)
  /-- VAND (R141). -/
  | vand (o : OpV)
  /-- VOR (R141). -/
  | vor (o : OpV)
  /-- VXOR (R141). -/
  | vxor (o : OpV)
  /-- VSLL (R141). -/
  | vsll (o : OpV)
  /-- VSRL (R141). -/
  | vsrl (o : OpV)
  /-- VSRA (R141). -/
  | vsra (o : OpV)
  /-- VABS (R141). -/
  | vabs (o : OpV)
  /-- VADDS (R141). -/
  | vadds (o : OpV)
  /-- VDOT4 (R141). -/
  | vdot4 (o : OpV)
  /-- VFADD (R141). -/
  | vfadd (o : OpV)
  /-- VFSUB (R141). -/
  | vfsub (o : OpV)
  /-- VFMUL (R141). -/
  | vfmul (o : OpV)
  /-- VFDIV (R141). -/
  | vfdiv (o : OpV)
  /-- VFSQRT (R141). -/
  | vfsqrt (o : OpV)
  /-- VFMIN (R141). -/
  | vfmin (o : OpV)
  /-- VFMAX (R141). -/
  | vfmax (o : OpV)
  /-- VFABS (R141). -/
  | vfabs (o : OpV)
  /-- VFNEG (R141). -/
  | vfneg (o : OpV)
  /-- VFMA (R141). -/
  | vfma (o : OpV)
  /-- VFMS (R141). -/
  | vfms (o : OpV)
  /-- VFNMA (R141). -/
  | vfnma (o : OpV)
  /-- VCVT (R142). -/
  | vcvt (o : OpCvt)
  /-- VCVTB (R143). -/
  | vcvtb (o : OpC)
  /-- VSUM (R144). -/
  | vsum (o : OpV)
  /-- VRMIN (R144). -/
  | vrmin (o : OpV)
  /-- VRMAX (R144). -/
  | vrmax (o : OpV)
  /-- VRAND (R144). -/
  | vrand (o : OpV)
  /-- VROR (R144). -/
  | vror (o : OpV)
  /-- VRMINU (R144). -/
  | vrminu (o : OpV)
  /-- VRMAXU (R144). -/
  | vrmaxu (o : OpV)
  /-- VCEQ (R141). -/
  | vceq (o : OpV)
  /-- VCNE (R141). -/
  | vcne (o : OpV)
  /-- VCLT (R141). -/
  | vclt (o : OpV)
  /-- VCLE (R141). -/
  | vcle (o : OpV)
  /-- VCLTU (R141). -/
  | vcltu (o : OpV)
  /-- VCLEU (R141). -/
  | vcleu (o : OpV)
  /-- VBCAST (R141). -/
  | vbcast (o : OpV)
  /-- VSHUF (R141). -/
  | vshuf (o : OpV)
  /-- VSLUP (R141). -/
  | vslup (o : OpV)
  /-- VSLDN (R141). -/
  | vsldn (o : OpV)
  /-- VINS (R141). -/
  | vins (o : OpV)
  /-- VEXT (R141). -/
  | vext (o : OpV)
  /-- PAND (R141). -/
  | pand (o : OpA)
  /-- POR (R141). -/
  | por (o : OpA)
  /-- PXOR (R141). -/
  | pxor (o : OpA)
  /-- PANDN (R141). -/
  | pandn (o : OpA)
  /-- PFIRST (R141). -/
  | pfirst (o : OpA)
  /-- PCNT (R141). -/
  | pcnt (o : OpA)
  /-- PMOVX (R141). -/
  | pmovx (o : OpA)
  /-- PMOVP (R141). -/
  | pmovp (o : OpA)
  /-- FENCE_LOCAL (R138). -/
  | fenceLocal (o : OpA)
  /-- FENCE_TILE (R138). -/
  | fenceTile (o : OpA)
  /-- FENCE_ALL (R138). -/
  | fenceAll (o : OpA)
  /-- WEDGE (R151). -/
  | wedge (o : OpA)
  /-- WTICK (R151). -/
  | wtick (o : OpA)
  /-- WFENCE (R152). -/
  | wfence (o : OpA)
  /-- BAR (R153). -/
  | bar (o : OpA)
  /-- RECV (R147). -/
  | recv (o : OpA)
  /-- TRYRECV (R147). -/
  | tryrecv (o : OpA)
  /-- SEND (R149). -/
  | send (o : OpA)
  /-- CSRR (R155). -/
  | csrr (o : OpCsr)
  /-- CSRW (R155). -/
  | csrw (o : OpCsr)
  /-- CSRS (R155). -/
  | csrs (o : OpCsr)
  /-- CSRC (R155). -/
  | csrc (o : OpCsr)
  /-- ECALL (R145). -/
  | ecall (o : OpK)
  /-- BREAK (R145). -/
  | brk (o : OpK)
  /-- ERET (R145). -/
  | eret (o : OpK)
  /-- HALT (R155). -/
  | halt (o : OpK)
  /-- WAIT_TIMEOUT (R154). -/
  | waitTimeout (o : OpK)
  /-- SC_CTRL_RUN (R156). -/
  | scCtrlRun (o : CoreCtlOp)
  /-- SC_CTRL_HALT (R156). -/
  | scCtrlHalt (o : CoreCtlOp)
  /-- BAR_CNT_WRITE (R153). -/
  | barCntWrite (o : BarOp)
  /-- REGISTER_WRITE (R11). -/
  | registerWrite (o : RegWriteOp)
  /-- DMA_ACTIVE_WRITE (R164). -/
  | dmaActiveWrite (o : DmaWriteOp)
  /-- DMA_SHADOW_WRITE (R164). -/
  | dmaShadowWrite (o : DmaWriteOp)
  /-- DMA_START (R167). -/
  | dmaStart (o : DmaCtrlOp)
  /-- DMA_ARM (R175). -/
  | dmaArm (o : DmaCtrlOp)
  /-- DMA_ABORT (R171). -/
  | dmaAbort (o : DmaCtrlOp)
  /-- DMA_REQ (R172). -/
  | dmaReq (o : DmaCtrlOp)
  /-- DMA_BURST_ISSUE (R173). -/
  | dmaBurstIssue (o : DmaIssueOp)
  /-- DMA_BURST_COMPLETE (R165). -/
  | dmaBurstComplete (o : DmaBurstOp)
  /-- DMA_SET_COMPLETE (R168). -/
  | dmaSetComplete (o : DmaSetOp)
  /-- OBJ_ALLOC (R194). -/
  | objAlloc (o : MbxCmdOp)
  /-- OBJ_FREE (R196). -/
  | objFree (o : MbxCmdOp)
  /-- OBJ_QUERY (R196). -/
  | objQuery (o : MbxCmdOp)
  /-- REPAIR_REQUEST_SERVE (R202). -/
  | repairRequestServe (o : RepairReqOp)
  /-- MEM_REPAIR_COMPLETE (R202). -/
  | memRepairComplete (o : RepairDoneOp)
  /-- MEM_REPAIR_LATE (R202). -/
  | memRepairLate (o : GranuleOp)
  /-- SCRATCH_SCRUB (R209). -/
  | scratchScrub (o : ScrubOp)
  /-- HBM_PATROL (R209). -/
  | hbmPatrol (o : ScrubOp)
  /-- LOCAL_MEMORY_SCRUB (R494). -/
  | localMemoryScrub (o : LmScrubOp)
  /-- PACKET_BUFFER_SCRUB (R494). -/
  | packetBufferScrub (o : PktScrubOp)
  /-- TREE_STORE_SCRUB (R494). -/
  | treeStoreScrub (o : TreeScrubOp)
  /-- CREMA_CACHE_SCRUB (R494). -/
  | cremaCacheScrub (o : CremaScrubOp)
  /-- BRIDGE_CALIBRATION (R494). -/
  | bridgeCalibration
  /-- TELEMETRY_COLLECTION (R494). -/
  | telemetryCollection
  /-- CXL_LINK_DEGRADED (R190). -/
  | cxlLinkDegraded (o : CxlOp)
  /-- CXL_LINK_DOWN (R190). -/
  | cxlLinkDown (o : CxlOp)
  /-- HBM_STACK_FAIL (R190). -/
  | hbmStackFail (o : HbmOp)
  /-- TBL_DEFINE (R217). -/
  | tblDefine (o : MbxCmdOp)
  /-- TBL_FREE (R218). -/
  | tblFree (o : MbxCmdOp)
  /-- TBL_QUERY (R213). -/
  | tblQuery (o : MbxCmdOp)
  /-- EU_Q_PUSH (R219). -/
  | euQPush (o : PushOp)
  /-- EU_FLUSH (R219). -/
  | euFlush (o : FlushOp)
  /-- EU_GATHER (R222). -/
  | euGather (o : EuStartOp)
  /-- EU_SCATTER_ADD (R226). -/
  | euScatterAdd (o : EuStartOp)
  /-- EU_PREFETCH (R235). -/
  | euPrefetch (o : EuStartOp)
  /-- EU_APPLY (R230). -/
  | euApply (o : EuStartOp)
  /-- EU_SYNC (R220). -/
  | euSync (o : UnitOp)
  /-- EU_CMD_COMPLETE (R221). -/
  | euCmdComplete (o : UnitOp)
  /-- REMOTE_ROW_REQUEST (R222). -/
  | remoteRowRequest (o : RowOp)
  /-- REMOTE_ROW_REPLY (R224). -/
  | remoteRowReply (o : RowReplyOp)
  /-- REMOTE_REQUEST_TIMEOUT (R290). -/
  | remoteRequestTimeout (o : RowTimeoutOp)
  /-- CACHE_HINT (R235). -/
  | cacheHint (o : RowOp)
  /-- EXCH_ENTRY_RECEIVE (R228). -/
  | exchEntryReceive (o : ExchOp)
  /-- EXCH_END_RECEIVE (R228). -/
  | exchEndReceive (o : ExchEndOp)
  /-- MIRROR_RECORD_RECEIVE (R232). -/
  | mirrorRecordReceive (o : MirrorOp)
  /-- MIRROR_ACK_RECEIVE (R232). -/
  | mirrorAckReceive (o : MirrorOp)
  /-- MIRROR_DISCARD_RECEIVE (R230). -/
  | mirrorDiscardReceive (o : MirrorOp)
  /-- DISCARD_ACK_RECEIVE (R230). -/
  | discardAckReceive (o : MirrorOp)
  /-- REPLICA_RECORD_RECEIVE (R232). -/
  | replicaRecordReceive (o : ReplicaOp)
  /-- COLL_DEFINE (R246). -/
  | collDefine (o : MbxCmdOp)
  /-- COLL_FREE (R247). -/
  | collFree (o : MbxCmdOp)
  /-- COLL_QUERY (R245). -/
  | collQuery (o : MbxCmdOp)
  /-- COLL_SLOT_OPEN (R261). -/
  | collSlotOpen (o : CollSlotOp)
  /-- COLL_PACKET_RECEIVE (R254). -/
  | collPacketReceive (o : CollPktOp)
  /-- COLL_SLOT_CLOSE (R262). -/
  | collSlotClose
  /-- STATE_PACKET_RECEIVE (R267). -/
  | statePacketReceive (o : CollPktOp)
  /-- STATE_ACK_RECEIVE (R268). -/
  | stateAckReceive (o : CollPktOp)
  /-- LINK_TRAIN (R278). -/
  | linkTrain (o : LinkTrainOp)
  /-- LINK_TRAIN_RETRY (R278). -/
  | linkTrainRetry (o : LinkOp)
  /-- LANE_LOCK_LOSS (R280). -/
  | laneLockLoss (o : LinkOp)
  /-- FAB_RETRAIN (R280). -/
  | fabRetrain (o : RetrainOp)
  /-- FEC_UNCORR_CODEWORD (R280). -/
  | fecUncorrCodeword (o : LinkOp)
  /-- FAB_DATA_RECEIVE (R283). -/
  | fabDataReceive (o : FabDataOp)
  /-- FAB_ACK_RECEIVE (R283). -/
  | fabAckReceive (o : FabCtrlOp)
  /-- FAB_NAK_RECEIVE (R283). -/
  | fabNakReceive (o : FabCtrlOp)
  /-- FAB_CREDIT_RECEIVE (R284). -/
  | fabCreditReceive (o : FabCtrlOp)
  /-- FAB_IDLE_RECEIVE (R282). -/
  | fabIdleReceive (o : FabCtrlOp)
  /-- FAB_FRAME_TRANSMIT (R284). -/
  | fabFrameTransmit (o : FabTxOp)
  /-- FAB_ACK_TIMER (R283). -/
  | fabAckTimer (o : LinkOp)
  /-- FAB_NAK_REPEAT (R283). -/
  | fabNakRepeat (o : LinkOp)
  /-- FAB_RETRY_TIMEOUT (R283). -/
  | fabRetryTimeout (o : LinkOp)
  /-- FAB_STALL_DROP (R287). -/
  | fabStallDrop (o : FabStallOp)
  /-- REMAP_REPORT_RECEIVE (R292). -/
  | remapReportReceive (o : ReportOp)
  /-- REMAP_COLLECT_END (R292). -/
  | remapCollectEnd
  /-- REMAP_CONFIRM_RECEIVE (R292). -/
  | remapConfirmReceive (o : ConfirmOp)
  /-- REMAP_APPLY (R294). -/
  | remapApply
  /-- ETH_LINK_UP (R299). -/
  | ethLinkUp (o : PortOp)
  /-- ETH_LINK_DOWN (R299). -/
  | ethLinkDown (o : PortOp)
  /-- ETH_FRAME_RECEIVE (R301). -/
  | ethFrameReceive (o : EthRxOp)
  /-- PFC_FRAME_RECEIVE (R309). -/
  | pfcFrameReceive (o : EthRxOp)
  /-- PAUSE_FRAME_RECEIVE (R303). -/
  | pauseFrameReceive (o : EthRxOp)
  /-- LLDP_RECEIVE (R312). -/
  | lldpReceive (o : EthRxOp)
  /-- PFC_PAUSE_EXPIRE (R309). -/
  | pfcPauseExpire (o : PauseOp)
  /-- PFC_XOFF_REPEAT (R308). -/
  | pfcXoffRepeat (o : PortOp)
  /-- LOSSLESS_FRAME_WRITE (R310). -/
  | losslessFrameWrite (o : LosslessOp)
  /-- LOSSLESS_HOLD_TIMEOUT (R310). -/
  | losslessHoldTimeout (o : LosslessOp)
  /-- ETH_FRAME_TRANSMIT (R306). -/
  | ethFrameTransmit (o : EthTxOp)
  /-- TAIL_READ_COMPLETE (R314). -/
  | tailReadComplete (o : TailOp)
  /-- ETHQ_DEFINE (R313). -/
  | ethqDefine (o : MbxCmdOp)
  /-- ETHQ_FREE (R316). -/
  | ethqFree (o : MbxCmdOp)
  /-- ETHQ_QUERY (R313). -/
  | ethqQuery (o : MbxCmdOp)
  /-- LPI_TX_ENTRY (R312). -/
  | lpiTxEntry (o : PortOp)
  /-- LPI_RX_ENTRY (R312). -/
  | lpiRxEntry (o : PortOp)
  /-- PIPE_PARSE (R326). -/
  | pipeParse (o : PipeOp)
  /-- FRAG_AGE_EXPIRE (R349). -/
  | fragAgeExpire (o : AgeOp)
  /-- FLOW_AGE_EXPIRE (R352). -/
  | flowAgeExpire (o : AgeOp)
  /-- BALANCE_INTERVAL_END (R355). -/
  | balanceIntervalEnd
  /-- RULE_SWITCH (R346). -/
  | ruleSwitch
  /-- SHOT_LANE_ADMIT (R325). -/
  | shotLaneAdmit (o : LaneOp)
  /-- GRIND_RECORD (R367). -/
  | grindRecord (o : GrindOp)
  /-- LOOKUP_RESPONSE (R370). -/
  | lookupResponse (o : LookupOp)
  /-- LOOKUP_DEADLINE (R372). -/
  | lookupDeadline (o : LaneOp)
  /-- TREE_GROUP_START (R403). -/
  | treeGroupStart (o : LaneOp)
  /-- TREE_GROUP_COMPLETE (R403). -/
  | treeGroupComplete (o : TreeEndOp)
  /-- REPLY_START (R378). -/
  | replyStart (o : PortOp)
  /-- REPLY_ENTRY_DUE (R379). -/
  | replyEntryDue (o : PortOp)
  /-- REPLY_FCS_DUE (R381). -/
  | replyFcsDue (o : PortOp)
  /-- RECORD_OVERLOAD (R387). -/
  | recordOverload (o : LaneOp)
  /-- BANK_COMMIT (R407). -/
  | bankCommit
  /-- BANK_CHECKS_END (R408). -/
  | bankChecksEnd (o : BankEndOp)
  /-- Q_RX_DOORBELL (R427). -/
  | qRxDoorbell (o : DoorbellOp)
  /-- Q_TX_DOORBELL (R427). -/
  | qTxDoorbell (o : DoorbellOp)
  /-- SC_POST (R429). -/
  | scPost (o : ScPostOp)
  /-- FENCE_WATCH_ARM (R430). -/
  | fenceWatchArm (o : WatchOp)
  /-- HCQ_ENABLE (R431). -/
  | hcqEnable (o : HcqOp)
  /-- MSIX_HOLDOFF_EXPIRE (R428). -/
  | msixHoldoffExpire (o : HoldoffOp)
  /-- MSIX_UNMASK (R428). -/
  | msixUnmask (o : VectorOp)
  /-- MBX_GO (R432). -/
  | mbxGo (o : MbxOp)
  /-- BAR4_READ (R425). -/
  | bar4Read (o : Bar4ReadOp)
  /-- BAR4_WRITE (R425). -/
  | bar4Write (o : Bar4WriteOp)
  /-- HOST_RESET (R436). -/
  | hostReset (o : HostResetOp)
  /-- HOST_LINK_UP (R436). -/
  | hostLinkUp (o : HostLinkOp)
  /-- HOST_CPL_TIMEOUT (R437). -/
  | hostCplTimeout (o : CplOp)
  /-- PT_CLEAR_COMPLETE (R421). -/
  | ptClearComplete (o : PartOp)
  /-- DAP_READ (R443). -/
  | dapRead (o : DapOp)
  /-- DAP_WRITE (R443). -/
  | dapWrite (o : DapOp)
  /-- DAP_STAGE (R444). -/
  | dapStage (o : DapOp)
  /-- DAP_COMMIT (R445). -/
  | dapCommit (o : DapOp)
  /-- DAP_ABORT (R447). -/
  | dapAbort (o : DapOp)
  /-- DAP_SUBSCRIBE (R455). -/
  | dapSubscribe (o : DapOp)
  /-- STAGE_IDLE_EXPIRE (R447). -/
  | stageIdleExpire (o : KeyOp)
  /-- SUBSCRIPTION_LAPSE (R455). -/
  | subscriptionLapse (o : SubOp)
  /-- EVENT_SEND (R455). -/
  | eventSend (o : SubOp)
  /-- TELEMETRY_RECORD (R496). -/
  | telemetryRecord (o : TelemetryOp)
  /-- STATS_CLEAR (R460). -/
  | statsClear (o : StatsOp)
  /-- ARP_REQUEST (R452). -/
  | arpRequest (o : DapOp)
  /-- NEIGHBOR_SOLICITATION (R452). -/
  | neighborSolicitation (o : DapOp)
  /-- POWER_GOOD (R464). -/
  | powerGood (o : StartOp)
  /-- BRINGUP_COMPLETE (R471). -/
  | bringupComplete (o : BringupOp)
  /-- RAIL_TIMEOUT (R510). -/
  | railTimeout (o : RailOp)
  /-- INPUT_DISCONNECT (R505). -/
  | inputDisconnect
  /-- RECOVERY_FW_BLOCK (R468). -/
  | recoveryFwBlock (o : RecoveryOp)
  /-- RECOVERY_FW_BOOT (R468). -/
  | recoveryFwBoot (o : RecoveryBootOp)
  /-- OUTPUT_HOLD (R480). -/
  | outputHold (o : FlagOp)
  /-- CONFIG_SAVE (R476). -/
  | configSave
  /-- CONFIG_SAVE_COMPLETE (R476). -/
  | configSaveComplete (o : OutcomeOp)
  /-- CONFIG_LOAD_SLOT (R481). -/
  | configLoadSlot (o : ValueOp)
  /-- DEVICE_RESET (R482). -/
  | deviceReset (o : ValueOp)
  /-- DEVICE_RESET_START (R482). -/
  | deviceResetStart (o : StartOp)
  /-- FW_BLOCK (R483). -/
  | fwBlock (o : BytesOp)
  /-- FW_VERIFY (R483). -/
  | fwVerify
  /-- MONITOR_SAMPLE (R487). -/
  | monitorSample (o : SampleOp)
  /-- TILE_HEARTBEAT_MISS (R499). -/
  | tileHeartbeatMiss (o : HeartbeatOp)
  /-- REFCLK_LOSS (R512). -/
  | refclkLoss
  /-- INPUT_LEVEL_ACCEPT (R515). -/
  | inputLevelAccept (o : InputOp)
  /-- INPUT_HOLDOFF_EXPIRE (R516). -/
  | inputHoldoffExpire (o : InputNumOp)
  /-- ILLEGAL_INSTRUCTION (R141). -/
  | illegalInstruction (o : OpIllegal)
  /-- DAP_UNLISTED_OP (R458). -/
  | dapUnlistedOp (o : DapOp)
  /-- LLDP_TTL_EXPIRE (R312). -/
  | lldpTtlExpire (o : PortOp)
  /-- LLDPDU_SEND (R312). -/
  | lldpduSend (o : PortOp)
  /-- LPI_RX_EXIT (R312). -/
  | lpiRxExit (o : PortOp)
  /-- CXL_EVENT_RECORD (R188). -/
  | cxlEventRecord (o : CxlEventOp)
  deriving DecidableEq, Repr

end Sys2Proof
end

