-- ==== Sys2Proof/WellFormed.lean ====
section
/-! DEFINITION. Which commands are well formed: every operand within what the spec gives it (unit, port, queue and rank
numbers, tiers, lengths, an instant inside its tick). A command that is not names no place of the machine. -/

namespace Sys2Proof

/-- An instant inside a tick, in units of 10 ps: 102,400 to a tick of nominal length (R72). -/
def instantOk (at_ : Nat) : Bool := decide (at_ < 102400)

/-- A port: E0 to E191, or MG as 192 (R298, Table 11.1). -/
def portOk (p : Nat) : Bool := decide (p < 193)

/-- A rank of a pod (R275). -/
def rankOk (r : Nat) : Bool := decide (r < 16384)

/-- A row: a shard and a slot (Table 8.1). -/
def rowOk (shard slot : Nat) : Bool := decide (shard < 16384) && decide (slot < 2 ^ 40)

/-- A queue of Table 11.3: receive 0 to 4,095, transmit from 4,096. -/
def queueOk (q : Nat) : Bool := decide (q < 5120)

/-- A memory tier T0, T1 or T2. -/
def tierOk (t : Nat) : Bool := decide (t ≤ 2)

/-- A mailbox request's payload (R432). -/
def mbxLenOk (b : List Byte) : Bool := decide (b.length ≤ 65520)

/-- A reading of a monitor (R487). -/
def readingOk (r : Int) : Bool := decide (-32768 ≤ r) && decide (r < 32768)

/-- A steward DMA channel's tile: CT0, CT1 or NT (R159). -/
def dmaTileOk (t : BitVec 2) : Bool := decide (t.toNat < 3)

/-- A matrix engine (R101). -/
def engineOk (n : BitVec 7) : Bool := decide (n.toNat < 72)

/-- An embedding unit (R21). -/
def euNumOk (n : BitVec 7) : Bool := decide (n.toNat < 16)

/-- A source of interrupts with a holdoff (R428): a queue, or completion queue m of partition p as 8,192 + 16p + m. -/
def sourceOk (n : Nat) : Bool := queueOk n || (decide (8192 ≤ n) && decide (n < 8256))

/-- A host endpoint's code (R416). -/
def endpointNumOk (e : BitVec 3) : Bool := decide (1 ≤ e.toNat) && decide (e.toNat ≤ 4)

/-- A frame of TYPE 1 or of a reserved TYPE (Table 10.3): 16 header bytes and 4 CRC bytes, and the PTYPE of its payload. -/
def FabDataOp.wf (o : FabDataOp) : Bool :=
  decide (o.head.length = 16) && decide (o.fcs.length = 4) && Machine.byteAt o.head 0 != 2#8 &&
    Machine.byteAt o.head 0 != 3#8 && (Machine.byteAt o.head 14).toNat == o.pay.ptype

/-- A CTRL frame of a KIND (Table 10.3). -/
def FabCtrlOp.wf (kind : Nat) (o : FabCtrlOp) : Bool :=
  decide (o.bytes.length = 16) && Machine.byteAt o.bytes 0 == 2#8 && (Machine.byteAt o.bytes 1).toNat == kind

/-- A register access of 1, 2, 4, 8 or 64 bytes (R137, R423). -/
def accessOk (n : Nat) : Bool := [1, 2, 4, 8, 64].contains n

/-- Whether a command is well formed. -/
def Instr.wf : Instr → Bool
  | .tickEdge o => decide (o.phases.length ≤ 48)
  | .tickInPulse _ => true
  | .beaconReceive o => decide (o.bytes.length = 32)
  | .holdoverEntry => true
  | .gateSample _ => true
  | .decisionEdge _ => true
  | .stepStart => true
  | .phaseStart => true
  | .phaseOverrun => true
  | .reduceDeadline => true
  | .decodeTick _ => true
  | .tampCommitted => true
  | .schedStop => true
  | .remapResume => true
  | .meQPush o => engineOk o.unit
  | .meFlush o => engineOk o.unit
  | .meFenceAdd _ => true
  | .meFenceVal _ => true
  | .meGemm o => engineOk o.unit
  | .meReducePartials o => engineOk o.unit
  | .meSync o => engineOk o.unit
  | .meDescComplete o => engineOk o.unit
  | .add _ => true
  | .sub _ => true
  | .and _ => true
  | .or _ => true
  | .xor _ => true
  | .sll _ => true
  | .srl _ => true
  | .sra _ => true
  | .slt _ => true
  | .sltu _ => true
  | .mul _ => true
  | .mulh _ => true
  | .mulhu _ => true
  | .div _ => true
  | .divu _ => true
  | .rem _ => true
  | .remu _ => true
  | .min _ => true
  | .max _ => true
  | .clz _ => true
  | .popc _ => true
  | .addi _ => true
  | .andi _ => true
  | .ori _ => true
  | .xori _ => true
  | .slli _ => true
  | .srli _ => true
  | .srai _ => true
  | .lui _ => true
  | .slti _ => true
  | .faddD _ => true
  | .fsubD _ => true
  | .fmulD _ => true
  | .fdivD _ => true
  | .fsqrtD _ => true
  | .fmaD _ => true
  | .fminD _ => true
  | .fmaxD _ => true
  | .feqD _ => true
  | .fltD _ => true
  | .fleD _ => true
  | .fcvtLD _ => true
  | .fcvtDL _ => true
  | .fcvtSD _ => true
  | .fcvtDS _ => true
  | .lb _ => true
  | .lbu _ => true
  | .lh _ => true
  | .lhu _ => true
  | .lw _ => true
  | .lwu _ => true
  | .ld _ => true
  | .sb _ => true
  | .sh _ => true
  | .sw _ => true
  | .sd _ => true
  | .amoadd _ => true
  | .amoswap _ => true
  | .amocas _ => true
  | .amoand _ => true
  | .amoor _ => true
  | .amomin _ => true
  | .amomax _ => true
  | .beq _ => true
  | .bne _ => true
  | .blt _ => true
  | .bge _ => true
  | .bltu _ => true
  | .bgeu _ => true
  | .jal _ => true
  | .jalr _ => true
  | .vld _ => true
  | .vst _ => true
  | .vlds _ => true
  | .vsts _ => true
  | .vgath _ => true
  | .vscat _ => true
  | .vadd _ => true
  | .vsub _ => true
  | .vmul _ => true
  | .vmin _ => true
  | .vmax _ => true
  | .vminu _ => true
  | .vmaxu _ => true
  | .vand _ => true
  | .vor _ => true
  | .vxor _ => true
  | .vsll _ => true
  | .vsrl _ => true
  | .vsra _ => true
  | .vabs _ => true
  | .vadds _ => true
  | .vdot4 _ => true
  | .vfadd _ => true
  | .vfsub _ => true
  | .vfmul _ => true
  | .vfdiv _ => true
  | .vfsqrt _ => true
  | .vfmin _ => true
  | .vfmax _ => true
  | .vfabs _ => true
  | .vfneg _ => true
  | .vfma _ => true
  | .vfms _ => true
  | .vfnma _ => true
  | .vcvt _ => true
  | .vcvtb _ => true
  | .vsum _ => true
  | .vrmin _ => true
  | .vrmax _ => true
  | .vrand _ => true
  | .vror _ => true
  | .vrminu _ => true
  | .vrmaxu _ => true
  | .vceq _ => true
  | .vcne _ => true
  | .vclt _ => true
  | .vcle _ => true
  | .vcltu _ => true
  | .vcleu _ => true
  | .vbcast _ => true
  | .vshuf _ => true
  | .vslup _ => true
  | .vsldn _ => true
  | .vins _ => true
  | .vext _ => true
  | .pand _ => true
  | .por _ => true
  | .pxor _ => true
  | .pandn _ => true
  | .pfirst _ => true
  | .pcnt _ => true
  | .pmovx _ => true
  | .pmovp _ => true
  | .fenceLocal _ => true
  | .fenceTile _ => true
  | .fenceAll _ => true
  | .wedge _ => true
  | .wtick _ => true
  | .wfence _ => true
  | .bar _ => true
  | .recv _ => true
  | .tryrecv _ => true
  | .send _ => true
  | .csrr _ => true
  | .csrw _ => true
  | .csrs _ => true
  | .csrc _ => true
  | .ecall _ => true
  | .brk _ => true
  | .eret _ => true
  | .halt _ => true
  | .waitTimeout _ => true
  | .scCtrlRun _ => true
  | .scCtrlHalt _ => true
  | .barCntWrite _ => true
  | .registerWrite o => accessOk o.size
  | .dmaActiveWrite o => dmaTileOk o.tile
  | .dmaShadowWrite o => dmaTileOk o.tile
  | .dmaStart o => dmaTileOk o.tile
  | .dmaArm o => dmaTileOk o.tile
  | .dmaAbort o => dmaTileOk o.tile
  | .dmaReq o => dmaTileOk o.tile
  | .dmaBurstIssue o => dmaTileOk o.tile
  | .dmaBurstComplete o => dmaTileOk o.tile
  | .dmaSetComplete o => dmaTileOk o.tile
  | .objAlloc o => mbxLenOk o.payload
  | .objFree o => mbxLenOk o.payload
  | .objQuery o => mbxLenOk o.payload
  | .repairRequestServe _ => true
  | .memRepairComplete o => tierOk o.tier
  | .memRepairLate o => tierOk o.tier
  | .scratchScrub _ => true
  | .hbmPatrol _ => true
  | .localMemoryScrub _ => true
  | .packetBufferScrub _ => true
  | .treeStoreScrub _ => true
  | .cremaCacheScrub o => o.ue.all (fun i => decide (i < 262144))
  | .bridgeCalibration => true
  | .telemetryCollection => true
  | .cxlLinkDegraded _ => true
  | .cxlLinkDown _ => true
  | .hbmStackFail _ => true
  | .tblDefine o => mbxLenOk o.payload
  | .tblFree o => mbxLenOk o.payload
  | .tblQuery o => mbxLenOk o.payload
  | .euQPush o => euNumOk o.unit
  | .euFlush o => euNumOk o.unit
  | .euGather o => euNumOk o.unit
  | .euScatterAdd o => euNumOk o.unit
  | .euPrefetch o => euNumOk o.unit
  | .euApply o => euNumOk o.unit
  | .euSync o => euNumOk o.unit
  | .euCmdComplete o => euNumOk o.unit
  | .remoteRowRequest o => rowOk o.shard o.slot && rankOk o.src
  | .remoteRowReply o => rowOk o.shard o.slot
  | .remoteRequestTimeout o => euNumOk o.unit && rowOk o.shard o.slot
  | .cacheHint o => rowOk o.shard o.slot && rankOk o.src
  | .exchEntryReceive o => rowOk o.shard o.slot && rankOk o.src
  | .exchEndReceive o => rankOk o.src
  | .mirrorRecordReceive o => rowOk o.shard o.slot && rankOk o.src
  | .mirrorAckReceive o => rowOk o.shard o.slot && rankOk o.src
  | .mirrorDiscardReceive o => rowOk o.shard o.slot && rankOk o.src
  | .discardAckReceive o => rowOk o.shard o.slot && rankOk o.src
  | .replicaRecordReceive o => rowOk o.shard o.slot && rankOk o.src
  | .collDefine o => mbxLenOk o.payload
  | .collFree o => mbxLenOk o.payload
  | .collQuery o => mbxLenOk o.payload
  | .collSlotOpen _ => true
  | .collPacketReceive o => rankOk o.src
  | .collSlotClose => true
  | .statePacketReceive o => rankOk o.src
  | .stateAckReceive o => rankOk o.src
  | .linkTrain o => decide (o.dir < 6) && decide (o.delays.length = 16)
  | .linkTrainRetry _ => true
  | .laneLockLoss _ => true
  | .fabRetrain _ => true
  | .fecUncorrCodeword _ => true
  | .fabDataReceive o => o.wf
  | .fabAckReceive o => o.wf 1
  | .fabNakReceive o => o.wf 2
  | .fabCreditReceive o => o.wf 3
  | .fabIdleReceive o => o.wf 4
  | .fabFrameTransmit _ => true
  | .fabAckTimer _ => true
  | .fabNakRepeat _ => true
  | .fabRetryTimeout _ => true
  | .fabStallDrop _ => true
  | .remapReportReceive o => o.named.all rankOk && o.lost.all rankOk && decide (o.named.length ≤ 2064)
  | .remapCollectEnd => true
  | .remapConfirmReceive _ => true
  | .remapApply => true
  | .ethLinkUp o => portOk o.port && instantOk o.at_
  | .ethLinkDown o => portOk o.port && instantOk o.at_
  | .ethFrameReceive o => portOk o.port && instantOk o.at_
  | .pfcFrameReceive o => portOk o.port && instantOk o.at_
  | .pauseFrameReceive o => portOk o.port && instantOk o.at_
  | .lldpReceive o => portOk o.port && instantOk o.at_
  | .pfcPauseExpire o => portOk o.port && instantOk o.at_
  | .pfcXoffRepeat o => portOk o.port && instantOk o.at_
  | .losslessFrameWrite o => instantOk o.at_
  | .losslessHoldTimeout o => instantOk o.at_
  | .ethFrameTransmit o => portOk o.port && instantOk o.at_
  | .tailReadComplete o => queueOk o.queue && instantOk o.at_
  | .ethqDefine o => mbxLenOk o.payload
  | .ethqFree o => mbxLenOk o.payload
  | .ethqQuery o => mbxLenOk o.payload
  | .lpiTxEntry o => portOk o.port && instantOk o.at_
  | .lpiRxEntry o => portOk o.port && instantOk o.at_
  | .pipeParse o => instantOk o.at_
  | .fragAgeExpire o => instantOk o.at_
  | .flowAgeExpire o => instantOk o.at_
  | .balanceIntervalEnd => true
  | .ruleSwitch => true
  | .shotLaneAdmit o => instantOk o.at_
  | .grindRecord o => instantOk o.at_
  | .lookupResponse o => instantOk o.at_ && rowOk o.shard o.slot
  | .lookupDeadline o => instantOk o.at_
  | .treeGroupStart o => instantOk o.at_
  | .treeGroupComplete o => instantOk o.at_
  | .replyStart o => portOk o.port && instantOk o.at_
  | .replyEntryDue o => portOk o.port && instantOk o.at_
  | .replyFcsDue o => portOk o.port && instantOk o.at_
  | .recordOverload o => instantOk o.at_
  | .bankCommit => true
  | .bankChecksEnd _ => true
  | .qRxDoorbell _ => true
  | .qTxDoorbell _ => true
  | .scPost _ => true
  | .fenceWatchArm _ => true
  | .hcqEnable _ => true
  | .msixHoldoffExpire o => sourceOk o.source
  | .msixUnmask _ => true
  | .mbxGo o => decide (o.who.toNat < 4) || (decide (5 ≤ o.who.toNat) && decide (o.who.toNat ≤ 8))
  | .bar4Read o => decide (1 ≤ o.len) && decide (o.len ≤ 4096)
  | .bar4Write o => decide (1 ≤ o.bytes.length) && decide (o.bytes.length ≤ 4096)
  | .hostReset o => (match o with
    | .endpoint ep _ => endpointNumOk ep
    | .perst _ _ => true)
  | .hostLinkUp o => endpointNumOk o.ep
  | .hostCplTimeout o => queueOk o.queue
  | .ptClearComplete _ => true
  | .dapRead o => portOk o.port && instantOk o.at_
  | .dapWrite o => portOk o.port && instantOk o.at_
  | .dapStage o => portOk o.port && instantOk o.at_
  | .dapCommit o => portOk o.port && instantOk o.at_
  | .dapAbort o => portOk o.port && instantOk o.at_
  | .dapSubscribe o => portOk o.port && instantOk o.at_
  | .stageIdleExpire _ => true
  | .subscriptionLapse _ => true
  | .eventSend _ => true
  | .telemetryRecord _ => true
  | .statsClear _ => true
  | .arpRequest o => portOk o.port && instantOk o.at_
  | .neighborSolicitation o => portOk o.port && instantOk o.at_
  | .powerGood _ => true
  | .bringupComplete _ => true
  | .railTimeout o => decide (113 ≤ o.monitor.toNat) && decide (o.monitor.toNat ≤ 143)
  | .inputDisconnect => true
  | .recoveryFwBlock o => mbxLenOk o.payload
  | .recoveryFwBoot _ => true
  | .outputHold _ => true
  | .configSave => true
  | .configSaveComplete _ => true
  | .configLoadSlot _ => true
  | .deviceReset _ => true
  | .deviceResetStart _ => true
  | .fwBlock _ => true
  | .fwVerify => true
  | .monitorSample o => decide (o.readings.length = 193) && o.readings.all readingOk
  | .tileHeartbeatMiss o => decide (o.last < 2 ^ 48)
  | .refclkLoss => true
  | .inputLevelAccept _ => true
  | .inputHoldoffExpire _ => true
  | .illegalInstruction _ => true
  | .dapUnlistedOp o => portOk o.port && instantOk o.at_
  | .lldpTtlExpire o => portOk o.port && instantOk o.at_
  | .lldpduSend o => portOk o.port && instantOk o.at_
  | .lpiRxExit o => portOk o.port && instantOk o.at_
  | .cxlEventRecord _ => true

end Sys2Proof
end

