-- ==== Sys2Proof/Machine/Crypto.lean ====
section
/-! DEFINITION. Checksums and digests: the CRC-32 of R282, the CRC-32C that the configuration image and firmware use where
their rules name it, SHA-384 of R468 and R469, and HMAC-SHA-256 (FIPS 180-4, FIPS 198-1) of R453. -/

namespace Sys2Proof.Machine

/-- One bit step of a reflected CRC. -/
def crcStep (poly r : Word32) : Word32 := if r.getLsbD 0 then (r >>> 1) ^^^ poly else r >>> 1

/-- One byte into a reflected CRC register. -/
def crcByte (poly r : Word32) (b : Byte) : Word32 :=
  let r := r ^^^ b.setWidth 32
  crcStep poly (crcStep poly (crcStep poly (crcStep poly (crcStep poly (crcStep poly (crcStep poly (crcStep poly r)))))))

/-- A reflected CRC with all-ones start and complemented end. -/
def crcOf (poly : Word32) (l : List Byte) : Nat := (~~~(l.foldl (crcByte poly) 0xFFFFFFFF#32)).toNat

/-- The CRC-32 of R282. -/
def crc32 (l : List Byte) : Nat := crcOf 0xEDB88320#32 l

/-- The CRC field of a fabric frame or a beacon, and the FCS of an Ethernet frame: the CRC-32, low byte first (R282, R305). -/
def fcsOf (b : List Byte) : List Byte := leBytes 4 (crc32 b)

/-! ### SHA-256 and SHA-384. FIPS 180-4 takes its constants from the fractional parts of roots of the first primes, and a
round moves the working variables down two chains of four: `shaMix` keeps each chain as a history, newest first. The two
differ in the word, 32 or 64 bits, the number of rounds, the rotations, and the primes whose roots start the hash. -/

/-- The greatest r below 2^`k` more than `acc` whose `e`-th power does not exceed n. -/
def rootGo (e n : Nat) : Nat → Nat → Nat
  | 0, acc => acc
  | k + 1, acc => rootGo e n k (if (acc + 2 ^ k) ^ e ≤ n then acc + 2 ^ k else acc)

/-- The first `w` bits of the fractional part of the `e`-th root of p. -/
def rootFrac (w e p : Nat) : BitVec w := BitVec.ofNat w (rootGo e (p * 2 ^ (w * e)) (w + 5) 0)

/-- Whether p has no divisor from 2 to 20: for p below 441, whether it is prime. -/
def prime441 (p : Nat) : Bool := (upTo 21).all (fun d => decide (d < 2) || decide (p ≤ d) || p % d != 0)

/-- The first `n` primes (n ≤ 80: they lie below 410). -/
def firstPrimes (n : Nat) : List Nat := (((upTo 410).drop 2).filter prime441).take n

/-- The rotations of a hash (FIPS 180-4, section 4.1): of the large sigmas of a and e, and of the small sigmas of the schedule,
whose third is a shift. -/
structure ShaTurns where
  ofA   : Nat × Nat × Nat
  ofE   : Nat × Nat × Nat
  old   : Nat × Nat × Nat
  young : Nat × Nat × Nat

/-- The word rotated right by each of three amounts, combined. -/
def rot3 {w : Nat} (x : BitVec w) (r : Nat × Nat × Nat) : BitVec w :=
  x.rotateRight r.1 ^^^ x.rotateRight r.2.1 ^^^ x.rotateRight r.2.2

/-- The word rotated right by two amounts and shifted right by a third, combined. -/
def rotShift {w : Nat} (x : BitVec w) (r : Nat × Nat × Nat) : BitVec w :=
  x.rotateRight r.1 ^^^ x.rotateRight r.2.1 ^^^ (x >>> r.2.2)

/-- The schedule word that follows 16 words, given newest first. -/
def shaNext {w : Nat} (t : ShaTurns) (l : List (BitVec w)) : BitVec w :=
  let back := fun n => l.getD (n - 1) 0#w
  rotShift (back 2) t.young + back 7 + rotShift (back 15) t.old + back 16

/-- The rounds over constants and message words: `l` holds the last 16 schedule words, newest first, from which the next is
made; `as` and `es` hold what the variables a and e have been, newest first, so that b, c, d are a's last three values and
f, g, h those of e. -/
def shaMix {w : Nat} (t : ShaTurns) : List (BitVec w) → List (BitVec w) → List (BitVec w) → List (BitVec w) → List (BitVec w) →
    List (BitVec w) × List (BitVec w)
  | [], _, _, as, es => (as, es)
  | k :: ks, todo, l, as, es =>
    let x := match todo with
      | [] => shaNext t l
      | y :: _ => y
    let a := fun n => as.getD n 0#w
    let e := fun n => es.getD n 0#w
    let choose := ((e 1 ^^^ e 2) &&& e 0) ^^^ e 2
    let most := (a 0 &&& (a 1 ||| a 2)) ||| (a 1 &&& a 2)
    let u := e 3 + rot3 (e 0) t.ofE + choose + k + x
    shaMix t ks (todo.drop 1) (x :: l.take 15) ((u + rot3 (a 0) t.ofA + most) :: as.take 3) ((a 3 + u) :: es.take 3)

/-- The hash value after one more block of 16 words. -/
def shaStep {w : Nat} (t : ShaTurns) (ks h : List (BitVec w)) (blk : List Byte) : List (BitVec w) :=
  let words := (upTo 16).map (fun i => BitVec.ofNat w (beAt blk (w / 8 * i) (w / 8)))
  let r := shaMix t ks words [] (h.take 4) (h.drop 4)
  List.zipWith (· + ·) h (r.1 ++ r.2)

/-- The hash value after `n` blocks. -/
def shaRun {w : Nat} (t : ShaTurns) (ks : List (BitVec w)) : Nat → List Byte → List (BitVec w) → List (BitVec w)
  | 0, _, h => h
  | n + 1, m, h => shaRun t ks n (m.drop (2 * w)) (shaStep t ks h m)

/-- A hash of words of `w` bits (FIPS 180-4): the message, a one bit, zeros and its length in bits, in two words, fill whole
blocks. `roots` are the primes whose square roots start it. -/
def shaHash (w rounds : Nat) (t : ShaTurns) (roots : List Nat) (m : List Byte) : List Byte :=
  let tail := w / 4
  let blocks := (m.length + tail + 2 * w) / (2 * w)
  let zeros := 2 * w * blocks - m.length - tail - 1
  let h := shaRun t ((firstPrimes rounds).map (rootFrac w 3)) blocks
    (m ++ 0x80#8 :: (List.replicate zeros 0#8 ++ beBytes tail (8 * m.length))) (roots.map (rootFrac w 2))
  h.flatMap (fun x => beBytes (w / 8) x.toNat)

/-- SHA-256. -/
def sha256 (m : List Byte) : List Byte :=
  shaHash 32 64 { ofA := (2, 13, 22), ofE := (6, 11, 25), old := (7, 18, 3), young := (17, 19, 10) } (firstPrimes 8) m

/-- SHA-384 (R468, R469): the first 48 bytes of a hash of 64-bit words, started from the ninth to the sixteenth prime. -/
def sha384 (m : List Byte) : List Byte :=
  (shaHash 64 80 { ofA := (28, 34, 39), ofE := (14, 18, 41), old := (1, 8, 7), young := (19, 61, 6) } ((firstPrimes 16).drop 8)
    m).take 48

/-- HMAC-SHA-256 under a key of at most 64 bytes (FIPS 198-1). -/
def hmacSha256 (key m : List Byte) : List Byte :=
  let k := padTo 64 (if 64 < key.length then sha256 key else key)
  sha256 (k.map (· ^^^ 0x5C#8) ++ sha256 (k.map (· ^^^ 0x36#8) ++ m))

end Sys2Proof.Machine
end

