-- ==== Sys2Proof/Machine/Counters.lean ====
section
/-! DEFINITION. The counters (R15, R459): one number names each, the group index above the place of its name in its
chapter's table. The directory rows give width, granularities (kind and instances, R459) and name. -/

namespace Sys2Proof.Machine

/-- One counter: its number, width in bits, granularities as (KIND, instances) in subindex order, and name. The
first granularity is the one kept; the others are sums over it (R459). -/
structure CtrRow where
  id    : Nat
  width : Nat
  kinds : List (Nat × Nat)
  name  : String
  deriving DecidableEq, Repr

/-! Group 0x9200: Table 2.9, kept per partition and per module for fabric traffic (R71): instance 4 is the fabric's. -/

def cMeFtzIn : Nat := 0x920000
def cMeIntSat : Nat := 0x920001
def cCvtSat : Nat := 0x920002
def cCvtNanToInt : Nat := 0x920003
def cMxNanBlock : Nat := 0x920004
def cRq8Sat : Nat := 0x920005
def cRq8NanZeroed : Nat := 0x920006
def cSrDemoted : Nat := 0x920007
def cGradNan : Nat := 0x920008
def cGradInf : Nat := 0x920009
def cBs16BadExp : Nat := 0x92000A
def cRsEscalate : Nat := 0x92000B

/-- The rows of group 0x9200. -/
def ctrGroup9200 : List CtrRow := [
  ⟨0x920000, 64, [(2, 4), (1, 1)], "me_ftz_in"⟩,
  ⟨0x920001, 64, [(2, 4), (1, 1)], "me_int_sat"⟩,
  ⟨0x920002, 64, [(2, 4), (1, 1)], "cvt_sat"⟩,
  ⟨0x920003, 64, [(2, 4), (1, 1)], "cvt_nan_to_int"⟩,
  ⟨0x920004, 64, [(2, 4), (1, 1)], "mx_nan_block"⟩,
  ⟨0x920005, 64, [(2, 4), (1, 1)], "rq8_sat"⟩,
  ⟨0x920006, 64, [(2, 4), (1, 1)], "rq8_nan_zeroed"⟩,
  ⟨0x920007, 64, [(2, 4), (1, 1)], "sr_demoted"⟩,
  ⟨0x920008, 64, [(2, 4), (1, 1)], "grad_nan"⟩,
  ⟨0x920009, 64, [(2, 4), (1, 1)], "grad_inf"⟩,
  ⟨0x92000A, 64, [(2, 4), (1, 1)], "bs16_bad_exp"⟩,
  ⟨0x92000B, 64, [(2, 4), (1, 1)], "rs_escalate"⟩]

/-! Group 0x9210: Table 4.11, per engine, summed per tile and in total (R130). -/

def cMeDescDone : Nat := 0x921000
def cMeDescErr : Nat := 0x921001
def cMePoisonTile : Nat := 0x921002
def cMeQOverflow : Nat := 0x921003
def cMeQFlushed : Nat := 0x921004
def cMeBusy : Nat := 0x921005
def cMeIdle : Nat := 0x921006
def cMeWaitLocal : Nat := 0x921007
def cMeWaitT1 : Nat := 0x921008
def cMeWaitT2 : Nat := 0x921009
def cMeWaitRemote : Nat := 0x92100A
def cMeStallLoad : Nat := 0x92100B
def cMeStallDrain : Nat := 0x92100C
def cMeStallBank : Nat := 0x92100D

/-- The rows of group 0x9210. -/
def ctrGroup9210 : List CtrRow := [
  ⟨0x921000, 64, [(6, 72), (3, 2), (1, 1)], "me_desc_done"⟩,
  ⟨0x921001, 64, [(6, 72), (3, 2), (1, 1)], "me_desc_err"⟩,
  ⟨0x921002, 64, [(6, 72), (3, 2), (1, 1)], "me_poison_tile"⟩,
  ⟨0x921003, 64, [(6, 72), (3, 2), (1, 1)], "me_q_overflow"⟩,
  ⟨0x921004, 64, [(6, 72), (3, 2), (1, 1)], "me_q_flushed"⟩,
  ⟨0x921005, 64, [(6, 72), (3, 2), (1, 1)], "me_busy"⟩,
  ⟨0x921006, 64, [(6, 72), (3, 2), (1, 1)], "me_idle"⟩,
  ⟨0x921007, 64, [(6, 72), (3, 2), (1, 1)], "me_wait_local"⟩,
  ⟨0x921008, 64, [(6, 72), (3, 2), (1, 1)], "me_wait_t1"⟩,
  ⟨0x921009, 64, [(6, 72), (3, 2), (1, 1)], "me_wait_t2"⟩,
  ⟨0x92100A, 64, [(6, 72), (3, 2), (1, 1)], "me_wait_remote"⟩,
  ⟨0x92100B, 64, [(6, 72), (3, 2), (1, 1)], "me_stall_load"⟩,
  ⟨0x92100C, 64, [(6, 72), (3, 2), (1, 1)], "me_stall_drain"⟩,
  ⟨0x92100D, 64, [(6, 72), (3, 2), (1, 1)], "me_stall_bank"⟩]

/-! Group 0x9220: Table 5.13, per core, summed per tile (R157). -/

def cScBusy : Nat := 0x922000
def cScWaitMbx : Nat := 0x922001
def cScWaitTick : Nat := 0x922002
def cScWaitFence : Nat := 0x922003
def cScWaitBar : Nat := 0x922004
def cScFault : Nat := 0x922005
def cScMbxOverflow : Nat := 0x922006
def cScBarBusyWrite : Nat := 0x922007
def cScLmCe : Nat := 0x922008
def cScLmUe : Nat := 0x922009

/-- The rows of group 0x9220. -/
def ctrGroup9220 : List CtrRow := [
  ⟨0x922000, 64, [(7, 256), (3, 2)], "sc_busy"⟩,
  ⟨0x922001, 64, [(7, 256), (3, 2)], "sc_wait_mbx"⟩,
  ⟨0x922002, 64, [(7, 256), (3, 2)], "sc_wait_tick"⟩,
  ⟨0x922003, 64, [(7, 256), (3, 2)], "sc_wait_fence"⟩,
  ⟨0x922004, 64, [(7, 256), (3, 2)], "sc_wait_bar"⟩,
  ⟨0x922005, 64, [(7, 256), (3, 2)], "sc_fault"⟩,
  ⟨0x922006, 64, [(7, 256), (3, 2)], "sc_mbx_overflow"⟩,
  ⟨0x922007, 64, [(7, 256), (3, 2)], "sc_bar_busy_write"⟩,
  ⟨0x922008, 64, [(7, 256), (3, 2)], "sc_lm_ce"⟩,
  ⟨0x922009, 64, [(7, 256), (3, 2)], "sc_lm_ue"⟩]

/-! Group 0x9230: Table 6.10, per channel, summed per tile (R178). -/

def cDmaBurst : Nat := 0x923000
def cDmaBytes : Nat := 0x923001
def cDmaDone : Nat := 0x923002
def cDmaErr : Nat := 0x923003
def cDmaPoison : Nat := 0x923004
def cDmaAbort : Nat := 0x923005
def cDmaHandover : Nat := 0x923006
def cDmaShadowBusy : Nat := 0x923007
def cDmaLateWrite : Nat := 0x923008
def cDmaStartBusy : Nat := 0x923009
def cDmaReqIdle : Nat := 0x92300A
def cDmaReqOverflow : Nat := 0x92300B
def cDmaIrqDrop : Nat := 0x92300C

/-- The rows of group 0x9230. -/
def ctrGroup9230 : List CtrRow := [
  ⟨0x923000, 64, [(8, 160), (3, 3)], "dma_burst"⟩,
  ⟨0x923001, 64, [(8, 160), (3, 3)], "dma_bytes"⟩,
  ⟨0x923002, 64, [(8, 160), (3, 3)], "dma_done"⟩,
  ⟨0x923003, 64, [(8, 160), (3, 3)], "dma_err"⟩,
  ⟨0x923004, 64, [(8, 160), (3, 3)], "dma_poison"⟩,
  ⟨0x923005, 64, [(8, 160), (3, 3)], "dma_abort"⟩,
  ⟨0x923006, 64, [(8, 160), (3, 3)], "dma_handover"⟩,
  ⟨0x923007, 64, [(8, 160), (3, 3)], "dma_shadow_busy"⟩,
  ⟨0x923008, 64, [(8, 160), (3, 3)], "dma_late_write"⟩,
  ⟨0x923009, 64, [(8, 160), (3, 3)], "dma_start_busy"⟩,
  ⟨0x92300A, 64, [(8, 160), (3, 3)], "dma_req_idle"⟩,
  ⟨0x92300B, 64, [(8, 160), (3, 3)], "dma_req_overflow"⟩,
  ⟨0x92300C, 64, [(8, 160), (3, 3)], "dma_irq_drop"⟩]

/-! Group 0x9300: Table 15.10, per partition (R438). -/

def cPtViolations : Nat := 0x930000
def cPtMbxBusy : Nat := 0x930001
def cHcqOverflow : Nat := 0x930002
def cHostCplTimeout : Nat := 0x930003
def cMsixSent : Nat := 0x930004

/-- The rows of group 0x9300. -/
def ctrGroup9300 : List CtrRow := [
  ⟨0x930000, 64, [(2, 4)], "pt_violations"⟩,
  ⟨0x930001, 64, [(2, 4)], "pt_mbx_busy"⟩,
  ⟨0x930002, 64, [(2, 4)], "hcq_overflow"⟩,
  ⟨0x930003, 64, [(2, 4)], "host_cpl_timeout"⟩,
  ⟨0x930004, 64, [(2, 4)], "msix_sent"⟩]

/-! Group 0x9410: Table 10.8, per link, summed per direction and in total (R297); instance 48 is frames of no link. -/

def cFabTxFrames : Nat := 0x941000
def cFabRxFrames : Nat := 0x941001
def cFabTxBytes : Nat := 0x941002
def cFabTrain : Nat := 0x941003
def cFabRetrain : Nat := 0x941004
def cFabWidthDown : Nat := 0x941005
def cFabMiswire : Nat := 0x941006
def cFabFecCorr : Nat := 0x941007
def cFabFecUncorr : Nat := 0x941008
def cFabCrcErr : Nat := 0x941009
def cFabRetry : Nat := 0x94100A
def cFabRetryTimeout : Nat := 0x94100B
def cFabReplayFrames : Nat := 0x94100C
def cFabWindowFull : Nat := 0x94100D
def cFabCreditStall : Nat := 0x94100E
def cFabFramesLost : Nat := 0x94100F
def cFabTtlDrop : Nat := 0x941010
def cFabUnroutable : Nat := 0x941011
def cFabStallDrop : Nat := 0x941012
def cFabReqTimeout : Nat := 0x941013
def cBeaconCrcErr : Nat := 0x941014
def cBeaconTickErr : Nat := 0x941015

/-- The rows of group 0x9410. -/
def ctrGroup9410 : List CtrRow := [
  ⟨0x941000, 64, [(10, 48), (11, 6), (1, 1)], "fab_tx_frames"⟩,
  ⟨0x941001, 64, [(10, 48), (11, 6), (1, 1)], "fab_rx_frames"⟩,
  ⟨0x941002, 64, [(10, 48), (11, 6), (1, 1)], "fab_tx_bytes"⟩,
  ⟨0x941003, 64, [(10, 48), (11, 6), (1, 1)], "fab_train"⟩,
  ⟨0x941004, 64, [(10, 48), (11, 6), (1, 1)], "fab_retrain"⟩,
  ⟨0x941005, 64, [(10, 48), (11, 6), (1, 1)], "fab_width_down"⟩,
  ⟨0x941006, 64, [(10, 48), (11, 6), (1, 1)], "fab_miswire"⟩,
  ⟨0x941007, 64, [(10, 48), (11, 6), (1, 1)], "fab_fec_corr"⟩,
  ⟨0x941008, 64, [(10, 48), (11, 6), (1, 1)], "fab_fec_uncorr"⟩,
  ⟨0x941009, 64, [(10, 48), (11, 6), (1, 1)], "fab_crc_err"⟩,
  ⟨0x94100A, 64, [(10, 48), (11, 6), (1, 1)], "fab_retry"⟩,
  ⟨0x94100B, 64, [(10, 48), (11, 6), (1, 1)], "fab_retry_timeout"⟩,
  ⟨0x94100C, 64, [(10, 48), (11, 6), (1, 1)], "fab_replay_frames"⟩,
  ⟨0x94100D, 64, [(10, 48), (11, 6), (1, 1)], "fab_window_full"⟩,
  ⟨0x94100E, 64, [(10, 48), (11, 6), (1, 1)], "fab_credit_stall"⟩,
  ⟨0x94100F, 64, [(10, 48), (11, 6), (1, 1)], "fab_frames_lost"⟩,
  ⟨0x941010, 64, [(10, 48), (11, 6), (1, 1)], "fab_ttl_drop"⟩,
  ⟨0x941011, 64, [(10, 48), (11, 6), (1, 1)], "fab_unroutable"⟩,
  ⟨0x941012, 64, [(10, 48), (11, 6), (1, 1)], "fab_stall_drop"⟩,
  ⟨0x941013, 64, [(10, 48), (11, 6), (1, 1)], "fab_req_timeout"⟩,
  ⟨0x941014, 64, [(10, 48), (11, 6), (1, 1)], "beacon_crc_err"⟩,
  ⟨0x941015, 64, [(10, 48), (11, 6), (1, 1)], "beacon_tick_err"⟩]

/-! Group 0x9420: Table 11.9, 32 bits wide, the number of the table as the place (R321): per port, MG as 192, and per queue. -/

def cRxSize64 : Nat := 0x942000
def cRxSize65127 : Nat := 0x942001
def cRxSize128255 : Nat := 0x942002
def cRxSize256511 : Nat := 0x942003
def cRxSize5121023 : Nat := 0x942004
def cRxSize10241518 : Nat := 0x942005
def cRxSize15192047 : Nat := 0x942006
def cRxSize20484095 : Nat := 0x942007
def cRxSize40969216 : Nat := 0x942008
def cRxSizeOver9216 : Nat := 0x942009
def cTxSize64 : Nat := 0x94200A
def cTxSize65127 : Nat := 0x94200B
def cTxSize128255 : Nat := 0x94200C
def cTxSize256511 : Nat := 0x94200D
def cTxSize5121023 : Nat := 0x94200E
def cTxSize10241518 : Nat := 0x94200F
def cTxSize15192047 : Nat := 0x942010
def cTxSize20484095 : Nat := 0x942011
def cTxSize40969216 : Nat := 0x942012
def cTxSizeOver9216 : Nat := 0x942013
def cRxUcast : Nat := 0x942014
def cRxMcast : Nat := 0x942015
def cRxBcast : Nat := 0x942016
def cRxPause : Nat := 0x942017
def cRxPfc : Nat := 0x942018
def cTxUcast : Nat := 0x942019
def cTxMcast : Nat := 0x94201A
def cTxBcast : Nat := 0x94201B
def cTxPfc : Nat := 0x94201C
def cRxFcsErr : Nat := 0x94201D
def cRxSymbolErr : Nat := 0x94201E
def cRxRunt : Nat := 0x94201F
def cRxGiant : Nat := 0x942020
def cFecCorrCw : Nat := 0x942021
def cFecUncorrCw : Nat := 0x942022
def cRxFilterDrop : Nat := 0x942023
def cTxStomped : Nat := 0x942024
def cTxPadded : Nat := 0x942025
def cTxDescErr : Nat := 0x942026
def cRxPfcOverrun : Nat := 0x942027
def cRxNoQueue : Nat := 0x942028
def cLpiTxEntry : Nat := 0x942029
def cLpiRxEntry : Nat := 0x94202A
def cRxBadBuf : Nat := 0x94202B
def cTxPortDownDrop : Nat := 0x94202C
def cEthUnused45 : Nat := 0x94202D
def cEthUnused46 : Nat := 0x94202E
def cEthUnused47 : Nat := 0x94202F
def cRxRingTrunc : Nat := 0x942030
def cRxRingEmpty : Nat := 0x942031
def cRxLosslessTimeout : Nat := 0x942032

/-- The rows of group 0x9420. -/
def ctrGroup9420 : List CtrRow := [
  ⟨0x942000, 32, [(4, 193)], "rx_size_64"⟩,
  ⟨0x942001, 32, [(4, 193)], "rx_size_65_127"⟩,
  ⟨0x942002, 32, [(4, 193)], "rx_size_128_255"⟩,
  ⟨0x942003, 32, [(4, 193)], "rx_size_256_511"⟩,
  ⟨0x942004, 32, [(4, 193)], "rx_size_512_1023"⟩,
  ⟨0x942005, 32, [(4, 193)], "rx_size_1024_1518"⟩,
  ⟨0x942006, 32, [(4, 193)], "rx_size_1519_2047"⟩,
  ⟨0x942007, 32, [(4, 193)], "rx_size_2048_4095"⟩,
  ⟨0x942008, 32, [(4, 193)], "rx_size_4096_9216"⟩,
  ⟨0x942009, 32, [(4, 193)], "rx_size_over_9216"⟩,
  ⟨0x94200A, 32, [(4, 193)], "tx_size_64"⟩,
  ⟨0x94200B, 32, [(4, 193)], "tx_size_65_127"⟩,
  ⟨0x94200C, 32, [(4, 193)], "tx_size_128_255"⟩,
  ⟨0x94200D, 32, [(4, 193)], "tx_size_256_511"⟩,
  ⟨0x94200E, 32, [(4, 193)], "tx_size_512_1023"⟩,
  ⟨0x94200F, 32, [(4, 193)], "tx_size_1024_1518"⟩,
  ⟨0x942010, 32, [(4, 193)], "tx_size_1519_2047"⟩,
  ⟨0x942011, 32, [(4, 193)], "tx_size_2048_4095"⟩,
  ⟨0x942012, 32, [(4, 193)], "tx_size_4096_9216"⟩,
  ⟨0x942013, 32, [(4, 193)], "tx_size_over_9216"⟩,
  ⟨0x942014, 32, [(4, 193)], "rx_ucast"⟩,
  ⟨0x942015, 32, [(4, 193)], "rx_mcast"⟩,
  ⟨0x942016, 32, [(4, 193)], "rx_bcast"⟩,
  ⟨0x942017, 32, [(4, 193)], "rx_pause"⟩,
  ⟨0x942018, 32, [(4, 193)], "rx_pfc"⟩,
  ⟨0x942019, 32, [(4, 193)], "tx_ucast"⟩,
  ⟨0x94201A, 32, [(4, 193)], "tx_mcast"⟩,
  ⟨0x94201B, 32, [(4, 193)], "tx_bcast"⟩,
  ⟨0x94201C, 32, [(4, 193)], "tx_pfc"⟩,
  ⟨0x94201D, 32, [(4, 193)], "rx_fcs_err"⟩,
  ⟨0x94201E, 32, [(4, 193)], "rx_symbol_err"⟩,
  ⟨0x94201F, 32, [(4, 193)], "rx_runt"⟩,
  ⟨0x942020, 32, [(4, 193)], "rx_giant"⟩,
  ⟨0x942021, 32, [(4, 193)], "fec_corr_cw"⟩,
  ⟨0x942022, 32, [(4, 193)], "fec_uncorr_cw"⟩,
  ⟨0x942023, 32, [(4, 193)], "rx_filter_drop"⟩,
  ⟨0x942024, 32, [(4, 193)], "tx_stomped"⟩,
  ⟨0x942025, 32, [(4, 193)], "tx_padded"⟩,
  ⟨0x942026, 32, [(4, 193)], "tx_desc_err"⟩,
  ⟨0x942027, 32, [(4, 193)], "rx_pfc_overrun"⟩,
  ⟨0x942028, 32, [(4, 193)], "rx_no_queue"⟩,
  ⟨0x942029, 32, [(4, 193)], "lpi_tx_entry"⟩,
  ⟨0x94202A, 32, [(4, 193)], "lpi_rx_entry"⟩,
  ⟨0x94202B, 32, [(5, 5120)], "rx_bad_buf"⟩,
  ⟨0x94202C, 32, [(4, 193)], "tx_port_down_drop"⟩,
  ⟨0x94202D, 32, [(4, 193)], ""⟩,
  ⟨0x94202E, 32, [(4, 193)], ""⟩,
  ⟨0x94202F, 32, [(4, 193)], ""⟩,
  ⟨0x942030, 32, [(5, 5120)], "rx_ring_trunc"⟩,
  ⟨0x942031, 32, [(5, 5120)], "rx_ring_empty"⟩,
  ⟨0x942032, 32, [(5, 5120)], "rx_lossless_timeout"⟩]

/-! Group 0x9430: Table 12.8 (R359): per pipe, per port, per queue, summed per module; pp_parse_fail by the reasons of Table
12.2. -/

def cPpFrames : Nat := 0x943000
def cPpHdrOverrun : Nat := 0x943001
def cPpParseFail1 : Nat := 0x943002
def cPpParseFail2 : Nat := 0x943003
def cPpParseFail3 : Nat := 0x943004
def cPpParseFail4 : Nat := 0x943005
def cPpParseFail5 : Nat := 0x943006
def cPpParseFail6 : Nat := 0x943007
def cPpParseFail7 : Nat := 0x943008
def cPpParseFail8 : Nat := 0x943009
def cPpFilterDrop : Nat := 0x94300A
def cPpNoDest : Nat := 0x94300B
def cPpProcDrop : Nat := 0x94300C
def cPpPrivDrop : Nat := 0x94300D
def cPpPrivFwd : Nat := 0x94300E
def cProcToMc : Nat := 0x94300F
def cPbColourDrop : Nat := 0x943010
def cFragStored : Nat := 0x943011
def cFragAged : Nat := 0x943012
def cFragFollow : Nat := 0x943013
def cFragNoEntry : Nat := 0x943014
def cFragTblFull : Nat := 0x943015
def cFlowNew : Nat := 0x943016
def cFlowAged : Nat := 0x943017
def cFlowUntracked : Nat := 0x943018
def cQImbalance : Nat := 0x943019
def cShotLaneImbalance : Nat := 0x94301A
def cRebalMoves : Nat := 0x94301B

/-- The rows of group 0x9430. -/
def ctrGroup9430 : List CtrRow := [
  ⟨0x943000, 64, [(12, 8), (1, 1)], "pp_frames"⟩,
  ⟨0x943001, 64, [(12, 8), (1, 1)], "pp_hdr_overrun"⟩,
  ⟨0x943002, 64, [(12, 8), (1, 1)], "pp_parse_fail"⟩,
  ⟨0x943003, 64, [(12, 8), (1, 1)], "pp_parse_fail"⟩,
  ⟨0x943004, 64, [(12, 8), (1, 1)], "pp_parse_fail"⟩,
  ⟨0x943005, 64, [(12, 8), (1, 1)], "pp_parse_fail"⟩,
  ⟨0x943006, 64, [(12, 8), (1, 1)], "pp_parse_fail"⟩,
  ⟨0x943007, 64, [(12, 8), (1, 1)], "pp_parse_fail"⟩,
  ⟨0x943008, 64, [(12, 8), (1, 1)], "pp_parse_fail"⟩,
  ⟨0x943009, 64, [(12, 8), (1, 1)], "pp_parse_fail"⟩,
  ⟨0x94300A, 64, [(12, 8), (1, 1)], "pp_filter_drop"⟩,
  ⟨0x94300B, 64, [(12, 8), (1, 1)], "pp_no_dest"⟩,
  ⟨0x94300C, 64, [(4, 193), (1, 1)], "pp_proc_drop"⟩,
  ⟨0x94300D, 64, [(4, 193), (1, 1)], "pp_priv_drop"⟩,
  ⟨0x94300E, 64, [(4, 193), (1, 1)], "pp_priv_fwd"⟩,
  ⟨0x94300F, 64, [(1, 1)], "proc_to_mc"⟩,
  ⟨0x943010, 64, [(1, 1)], "pb_colour_drop"⟩,
  ⟨0x943011, 64, [(1, 1)], "frag_stored"⟩,
  ⟨0x943012, 64, [(1, 1)], "frag_aged"⟩,
  ⟨0x943013, 64, [(1, 1)], "frag_follow"⟩,
  ⟨0x943014, 64, [(1, 1)], "frag_no_entry"⟩,
  ⟨0x943015, 64, [(1, 1)], "frag_tbl_full"⟩,
  ⟨0x943016, 64, [(1, 1)], "flow_new"⟩,
  ⟨0x943017, 64, [(1, 1)], "flow_aged"⟩,
  ⟨0x943018, 64, [(1, 1)], "flow_untracked"⟩,
  ⟨0x943019, 64, [(5, 5120), (1, 1)], "q_imbalance"⟩,
  ⟨0x94301A, 64, [(1, 1)], "shot_lane_imbalance"⟩,
  ⟨0x94301B, 64, [(1, 1)], "rebal_moves"⟩]

/-! Group 0x9500: Table 13.11 (R392): per Shot lane, summed per module; rx_stomped_reply also per port, shot_overload by reason. -/

def cShotReq : Nat := 0x950000
def cShotRec : Nat := 0x950001
def cShotBadVersion : Nat := 0x950002
def cShotModelAbsent : Nat := 0x950003
def cShotLayoutInvalid : Nat := 0x950004
def cShotReqTruncated : Nat := 0x950005
def cShotReqOverlong : Nat := 0x950006
def cShotCremaHit : Nat := 0x950007
def cShotT1Lookup : Nat := 0x950008
def cShotNoTable : Nat := 0x950009
def cShotLookupLate : Nat := 0x95000A
def cShotSubst : Nat := 0x95000B
def cShotOverload1 : Nat := 0x95000C
def cShotOverload2 : Nat := 0x95000D
def cRxStompedReply : Nat := 0x95000E
def cRxStompedReplyPort : Nat := 0x95000F
def cShotEpochSpan : Nat := 0x950010
def cShotStrictRestart : Nat := 0x950011
def cShotStrictHold : Nat := 0x950012

/-- The rows of group 0x9500. -/
def ctrGroup9500 : List CtrRow := [
  ⟨0x950000, 64, [(13, 8), (1, 1)], "shot_req"⟩,
  ⟨0x950001, 64, [(13, 8), (1, 1)], "shot_rec"⟩,
  ⟨0x950002, 64, [(13, 8), (1, 1)], "shot_bad_version"⟩,
  ⟨0x950003, 64, [(13, 8), (1, 1)], "shot_model_absent"⟩,
  ⟨0x950004, 64, [(13, 8), (1, 1)], "shot_layout_invalid"⟩,
  ⟨0x950005, 64, [(13, 8), (1, 1)], "shot_req_truncated"⟩,
  ⟨0x950006, 64, [(13, 8), (1, 1)], "shot_req_overlong"⟩,
  ⟨0x950007, 64, [(13, 8), (1, 1)], "shot_crema_hit"⟩,
  ⟨0x950008, 64, [(13, 8), (1, 1)], "shot_t1_lookup"⟩,
  ⟨0x950009, 64, [(13, 8), (1, 1)], "shot_no_table"⟩,
  ⟨0x95000A, 64, [(13, 8), (1, 1)], "shot_lookup_late"⟩,
  ⟨0x95000B, 64, [(13, 8), (1, 1)], "shot_subst"⟩,
  ⟨0x95000C, 64, [(13, 8), (1, 1)], "shot_overload"⟩,
  ⟨0x95000D, 64, [(13, 8), (1, 1)], "shot_overload"⟩,
  ⟨0x95000E, 64, [(13, 8), (1, 1)], "rx_stomped_reply"⟩,
  ⟨0x95000F, 64, [(4, 193)], "rx_stomped_reply"⟩,
  ⟨0x950010, 64, [(13, 8), (1, 1)], "shot_epoch_span"⟩,
  ⟨0x950011, 64, [(13, 8), (1, 1)], "shot_strict_restart"⟩,
  ⟨0x950012, 64, [(13, 8), (1, 1)], "shot_strict_hold"⟩]

/-! Group 0x9510: Table 14.10 (R415): per lane, summed per module; te_range_ per pipe. -/

def cTeGroup : Nat := 0x951000
def cTeRec : Nat := 0x951001
def cTeBusy : Nat := 0x951002
def cTeBufFull : Nat := 0x951003
def cTeEmptyExit : Nat := 0x951004
def cTeStoreCe : Nat := 0x951005
def cTeStoreUe : Nat := 0x951006
def cTeBankCommit : Nat := 0x951007
def cTeBankReject : Nat := 0x951008
def cTeRangeEval : Nat := 0x951009
def cTeRangeUe : Nat := 0x95100A

/-- The rows of group 0x9510. -/
def ctrGroup9510 : List CtrRow := [
  ⟨0x951000, 64, [(13, 8), (1, 1)], "te_group"⟩,
  ⟨0x951001, 64, [(13, 8), (1, 1)], "te_rec"⟩,
  ⟨0x951002, 64, [(13, 8), (1, 1)], "te_busy"⟩,
  ⟨0x951003, 64, [(13, 8), (1, 1)], "te_buf_full"⟩,
  ⟨0x951004, 64, [(13, 8), (1, 1)], "te_empty_exit"⟩,
  ⟨0x951005, 64, [(13, 8), (1, 1)], "te_store_ce"⟩,
  ⟨0x951006, 64, [(13, 8), (1, 1)], "te_store_ue"⟩,
  ⟨0x951007, 64, [(13, 8), (1, 1)], "te_bank_commit"⟩,
  ⟨0x951008, 64, [(13, 8), (1, 1)], "te_bank_reject"⟩,
  ⟨0x951009, 64, [(12, 8), (1, 1)], "te_range_eval"⟩,
  ⟨0x95100A, 64, [(12, 8), (1, 1)], "te_range_ue"⟩]

/-! Group 0x9600: Table 3.8, per module; phase_overrun is eight counters, each with a subindex (R100, R459). -/

def cTickAdjust : Nat := 0x960000
def cTickInOffPhase : Nat := 0x960001
def cTickInMissing : Nat := 0x960002
def cTickHoldover : Nat := 0x960003
def cBeaconMissing : Nat := 0x960004
def cSchedBurstHeld : Nat := 0x960005
def cSchedEdgeLate : Nat := 0x960006
def cPhaseOverrun : Nat := 0x960007
def cGateSlip : Nat := 0x96000F
def cStepAbort : Nat := 0x960010
def cStepRepeat : Nat := 0x960011
def cStepCommit : Nat := 0x960012
def cStepRemap : Nat := 0x960013

/-- The rows of group 0x9600. -/
def ctrGroup9600 : List CtrRow := [
  ⟨0x960000, 64, [(1, 1)], "tick_adjust"⟩,
  ⟨0x960001, 64, [(1, 1)], "tick_in_off_phase"⟩,
  ⟨0x960002, 64, [(1, 1)], "tick_in_missing"⟩,
  ⟨0x960003, 64, [(1, 1)], "tick_holdover"⟩,
  ⟨0x960004, 64, [(1, 1)], "beacon_missing"⟩,
  ⟨0x960005, 64, [(1, 1)], "sched_burst_held"⟩,
  ⟨0x960006, 64, [(1, 1)], "sched_edge_late"⟩,
  ⟨0x960007, 64, [(1, 1)], "phase_overrun"⟩,
  ⟨0x960008, 64, [(1, 1)], "phase_overrun"⟩,
  ⟨0x960009, 64, [(1, 1)], "phase_overrun"⟩,
  ⟨0x96000A, 64, [(1, 1)], "phase_overrun"⟩,
  ⟨0x96000B, 64, [(1, 1)], "phase_overrun"⟩,
  ⟨0x96000C, 64, [(1, 1)], "phase_overrun"⟩,
  ⟨0x96000D, 64, [(1, 1)], "phase_overrun"⟩,
  ⟨0x96000E, 64, [(1, 1)], "phase_overrun"⟩,
  ⟨0x96000F, 64, [(1, 1)], "gate_slip"⟩,
  ⟨0x960010, 64, [(1, 1)], "step_abort"⟩,
  ⟨0x960011, 64, [(1, 1)], "step_repeat"⟩,
  ⟨0x960012, 64, [(1, 1)], "step_commit"⟩,
  ⟨0x960013, 64, [(1, 1)], "step_remap"⟩]

/-! Group 0x9620: Table 9.9, per module; coll_def_fail also per partition (R272). -/

def cCollDefFail : Nat := 0x962000
def cCollDone : Nat := 0x962001
def cCollBlockLate : Nat := 0x962002
def cCollBlockMissing : Nat := 0x962003
def cCollHoleTx : Nat := 0x962004
def cCollHopsMismatch : Nat := 0x962005
def cCollStaleDrop : Nat := 0x962006
def cCollBadPkt : Nat := 0x962007
def cCollStandIn : Nat := 0x962008
def cCollStateUnacked : Nat := 0x962009

/-- The rows of group 0x9620. -/
def ctrGroup9620 : List CtrRow := [
  ⟨0x962000, 64, [(2, 4), (1, 1)], "coll_def_fail"⟩,
  ⟨0x962001, 64, [(1, 1)], "coll_done"⟩,
  ⟨0x962002, 64, [(1, 1)], "coll_block_late"⟩,
  ⟨0x962003, 64, [(1, 1)], "coll_block_missing"⟩,
  ⟨0x962004, 64, [(1, 1)], "coll_hole_tx"⟩,
  ⟨0x962005, 64, [(1, 1)], "coll_hops_mismatch"⟩,
  ⟨0x962006, 64, [(1, 1)], "coll_stale_drop"⟩,
  ⟨0x962007, 64, [(1, 1)], "coll_bad_pkt"⟩,
  ⟨0x962008, 64, [(1, 1)], "coll_stand_in"⟩,
  ⟨0x962009, 64, [(1, 1)], "coll_state_unacked"⟩]

/-! Group 0x9700: Table 7.14, per module; t1_txn_full also per CT and obj_alloc_fail per partition (R212). -/

def cT0Ce : Nat := 0x970000
def cT1Ce : Nat := 0x970001
def cT2Ce : Nat := 0x970002
def cT0Ue : Nat := 0x970003
def cT1Ue : Nat := 0x970004
def cT2Ue : Nat := 0x970005
def cScrubWbDropped : Nat := 0x970006
def cMemRepair : Nat := 0x970007
def cMemRepairLate : Nat := 0x970008
def cMemUeLost : Nat := 0x970009
def cMemUeRowUnavail : Nat := 0x97000A
def cMemUeMaskedSample : Nat := 0x97000B
def cMemRepairStall : Nat := 0x97000C
def cMemPoisonWriteDrop : Nat := 0x97000D
def cHostPoisonRead : Nat := 0x97000E
def cCacheUeInvalidate : Nat := 0x97000F
def cT1TxnFull : Nat := 0x970010
def cT2TagFull : Nat := 0x970011
def cCxlWidthDown : Nat := 0x970012
def cObjAlloc : Nat := 0x970013
def cObjFree : Nat := 0x970014
def cObjAllocFail : Nat := 0x970015
def cScrubPassT0 : Nat := 0x970016
def cScrubPassT1 : Nat := 0x970017

/-- The rows of group 0x9700. -/
def ctrGroup9700 : List CtrRow := [
  ⟨0x970000, 64, [(1, 1)], "t0_ce"⟩,
  ⟨0x970001, 64, [(1, 1)], "t1_ce"⟩,
  ⟨0x970002, 64, [(1, 1)], "t2_ce"⟩,
  ⟨0x970003, 64, [(1, 1)], "t0_ue"⟩,
  ⟨0x970004, 64, [(1, 1)], "t1_ue"⟩,
  ⟨0x970005, 64, [(1, 1)], "t2_ue"⟩,
  ⟨0x970006, 64, [(1, 1)], "scrub_wb_dropped"⟩,
  ⟨0x970007, 64, [(1, 1)], "mem_repair"⟩,
  ⟨0x970008, 64, [(1, 1)], "mem_repair_late"⟩,
  ⟨0x970009, 64, [(1, 1)], "mem_ue_lost"⟩,
  ⟨0x97000A, 64, [(1, 1)], "mem_ue_row_unavail"⟩,
  ⟨0x97000B, 64, [(1, 1)], "mem_ue_masked_sample"⟩,
  ⟨0x97000C, 64, [(1, 1)], "mem_repair_stall"⟩,
  ⟨0x97000D, 64, [(1, 1)], "mem_poison_write_drop"⟩,
  ⟨0x97000E, 64, [(1, 1)], "host_poison_read"⟩,
  ⟨0x97000F, 64, [(1, 1)], "cache_ue_invalidate"⟩,
  ⟨0x970010, 64, [(3, 2), (1, 1)], "t1_txn_full"⟩,
  ⟨0x970011, 64, [(1, 1)], "t2_tag_full"⟩,
  ⟨0x970012, 64, [(1, 1)], "cxl_width_down"⟩,
  ⟨0x970013, 64, [(1, 1)], "obj_alloc"⟩,
  ⟨0x970014, 64, [(1, 1)], "obj_free"⟩,
  ⟨0x970015, 64, [(2, 4), (1, 1)], "obj_alloc_fail"⟩,
  ⟨0x970016, 64, [(1, 1)], "scrub_pass_t0"⟩,
  ⟨0x970017, 64, [(1, 1)], "scrub_pass_t1"⟩]

/-! Group 0x9730: Table 8.10, per module; eu_tbl_fail also per partition and the eu_q_ and eu_cmd_ counters per EU (R244). -/

def cEuTblFail : Nat := 0x973000
def cEuQOverflow : Nat := 0x973001
def cEuQFlushed : Nat := 0x973002
def cEuCmdDone : Nat := 0x973003
def cEuCmdErr : Nat := 0x973004
def cEuWaitSched : Nat := 0x973005
def cEuUnavailUnmasked : Nat := 0x973006
def cEuExchFull : Nat := 0x973007
def cEuStageFull : Nat := 0x973008
def cEuMirrorAbsent : Nat := 0x973009
def cEuMirrorUnmatched : Nat := 0x97300A
def cEuApplyLost : Nat := 0x97300B
def cEuShardAdopted : Nat := 0x97300C
def cEuRcHit : Nat := 0x97300D
def cEuRcMiss : Nat := 0x97300E
def cEuRcBypass : Nat := 0x97300F
def cEuRcPrefetchHit : Nat := 0x973010
def cCremaInsert : Nat := 0x973011
def cCremaEvict : Nat := 0x973012
def cGradNanSkipped : Nat := 0x973013

/-- The rows of group 0x9730. -/
def ctrGroup9730 : List CtrRow := [
  ⟨0x973000, 64, [(2, 4), (1, 1)], "eu_tbl_fail"⟩,
  ⟨0x973001, 64, [(9, 16), (1, 1)], "eu_q_overflow"⟩,
  ⟨0x973002, 64, [(9, 16), (1, 1)], "eu_q_flushed"⟩,
  ⟨0x973003, 64, [(9, 16), (1, 1)], "eu_cmd_done"⟩,
  ⟨0x973004, 64, [(9, 16), (1, 1)], "eu_cmd_err"⟩,
  ⟨0x973005, 64, [(1, 1)], "eu_wait_sched"⟩,
  ⟨0x973006, 64, [(1, 1)], "eu_unavail_unmasked"⟩,
  ⟨0x973007, 64, [(1, 1)], "eu_exch_full"⟩,
  ⟨0x973008, 64, [(1, 1)], "eu_stage_full"⟩,
  ⟨0x973009, 64, [(1, 1)], "eu_mirror_absent"⟩,
  ⟨0x97300A, 64, [(1, 1)], "eu_mirror_unmatched"⟩,
  ⟨0x97300B, 64, [(1, 1)], "eu_apply_lost"⟩,
  ⟨0x97300C, 64, [(1, 1)], "eu_shard_adopted"⟩,
  ⟨0x97300D, 64, [(1, 1)], "eu_rc_hit"⟩,
  ⟨0x97300E, 64, [(1, 1)], "eu_rc_miss"⟩,
  ⟨0x97300F, 64, [(1, 1)], "eu_rc_bypass"⟩,
  ⟨0x973010, 64, [(1, 1)], "eu_rc_prefetch_hit"⟩,
  ⟨0x973011, 64, [(1, 1)], "crema_insert"⟩,
  ⟨0x973012, 64, [(1, 1)], "crema_evict"⟩,
  ⟨0x973013, 64, [(1, 1)], "grad_nan_skipped"⟩]

/-! Group 0x9800: Tables 18.8 and 19.6 (R503, R522): per monitor, per CT, per input, per host port; the rest per module. -/

def cMonWarn : Nat := 0x980000
def cMonThrottle : Nat := 0x980001
def cMonTrip : Nat := 0x980002
def cAclkStepDown : Nat := 0x980003
def cAclkStepUp : Nat := 0x980004
def cThrottleTicks : Nat := 0x980005
def cTripResets : Nat := 0x980006
def cNtSramCe : Nat := 0x980007
def cPbUe : Nat := 0x980008
def cTelRecords : Nat := 0x980009
def cTeLaneAbsent : Nat := 0x98000A
def cTileFail : Nat := 0x98000B
def cInputGlitch : Nat := 0x98000C
def cInputStuck : Nat := 0x98000D
def cHostAttn : Nat := 0x98000E
def cHostAttnDrop : Nat := 0x98000F
def cRefclkLoss : Nat := 0x980010

/-- The rows of group 0x9800. -/
def ctrGroup9800 : List CtrRow := [
  ⟨0x980000, 64, [(1, 195)], "mon_warn"⟩,
  ⟨0x980001, 64, [(1, 195)], "mon_throttle"⟩,
  ⟨0x980002, 64, [(1, 195)], "mon_trip"⟩,
  ⟨0x980003, 64, [(3, 2)], "aclk_step_down"⟩,
  ⟨0x980004, 64, [(3, 2)], "aclk_step_up"⟩,
  ⟨0x980005, 64, [(3, 2)], "throttle_ticks"⟩,
  ⟨0x980006, 64, [(1, 1)], "trip_resets"⟩,
  ⟨0x980007, 64, [(1, 1)], "nt_sram_ce"⟩,
  ⟨0x980008, 64, [(1, 1)], "pb_ue"⟩,
  ⟨0x980009, 64, [(1, 1)], "tel_records"⟩,
  ⟨0x98000A, 64, [(1, 1)], "te_lane_absent"⟩,
  ⟨0x98000B, 64, [(1, 1)], "tile_fail"⟩,
  ⟨0x98000C, 64, [(1, 5)], "input_glitch"⟩,
  ⟨0x98000D, 64, [(1, 5)], "input_stuck"⟩,
  ⟨0x98000E, 64, [(4, 2)], "host_attn"⟩,
  ⟨0x98000F, 64, [(4, 2)], "host_attn_drop"⟩,
  ⟨0x980010, 64, [(1, 1)], "refclk_loss"⟩]

/-! Group 0x9A00: Table 16.12, per module (R463). -/

def cDapRx : Nat := 0x9A0000
def cDapBadMsg : Nat := 0x9A0001
def cDapAuthFail : Nat := 0x9A0002
def cDapStaleSeq : Nat := 0x9A0003
def cDapRetx : Nat := 0x9A0004
def cDapQueueFull : Nat := 0x9A0005
def cDapStageExpired : Nat := 0x9A0006
def cDapInbandOff : Nat := 0x9A0007
def cDapEventDrop : Nat := 0x9A0008

/-- The rows of group 0x9A00. -/
def ctrGroup9A00 : List CtrRow := [
  ⟨0x9A0000, 64, [(1, 1)], "dap_rx"⟩,
  ⟨0x9A0001, 64, [(1, 1)], "dap_bad_msg"⟩,
  ⟨0x9A0002, 64, [(1, 1)], "dap_auth_fail"⟩,
  ⟨0x9A0003, 64, [(1, 1)], "dap_stale_seq"⟩,
  ⟨0x9A0004, 64, [(1, 1)], "dap_retx"⟩,
  ⟨0x9A0005, 64, [(1, 1)], "dap_queue_full"⟩,
  ⟨0x9A0006, 64, [(1, 1)], "dap_stage_expired"⟩,
  ⟨0x9A0007, 64, [(1, 1)], "dap_inband_off"⟩,
  ⟨0x9A0008, 64, [(1, 1)], "dap_event_drop"⟩]

/-- Every counter group, by index (Table 16.11). -/
def ctrGroups : List (Nat × List CtrRow) := [
  (0x9200, ctrGroup9200),
  (0x9210, ctrGroup9210),
  (0x9220, ctrGroup9220),
  (0x9230, ctrGroup9230),
  (0x9300, ctrGroup9300),
  (0x9410, ctrGroup9410),
  (0x9420, ctrGroup9420),
  (0x9430, ctrGroup9430),
  (0x9500, ctrGroup9500),
  (0x9510, ctrGroup9510),
  (0x9600, ctrGroup9600),
  (0x9620, ctrGroup9620),
  (0x9700, ctrGroup9700),
  (0x9730, ctrGroup9730),
  (0x9800, ctrGroup9800),
  (0x9A00, ctrGroup9A00)]

end Sys2Proof.Machine
end

