-- ==== Sys2Proof/Machine/Entries.lean ====
section
/-! DEFINITION. The object dictionary's defined entries (R14, R439 to R443): index, subindices, type, length, access
right, default and range, as the tables of entries of files 00 to 19 give them. Counter entries come from the counter
directory (R459). -/

namespace Sys2Proof.Machine

/-- One row of the tables of entries. `ty` is the code of Table 16.2, `acc` that of Table 16.1, `dflt` the default
as a little-endian number, and [`vmin`, `vmax`] the range of a numeric entry. -/
structure EntryRow where
  idx   : Nat
  subLo : Nat
  subHi : Nat
  ty    : Nat
  len   : Nat
  acc   : Nat
  dflt  : Nat
  vmin  : Nat
  vmax  : Nat
  var   : Bool
  deriving DecidableEq, Repr

/-- The entries of range 0x1000. -/
def entryRows1 : List EntryRow := [
  ⟨0x1000, 1, 1, 10, 9, 1, 0, 0, 0, false⟩,  -- VENDOR_NAME
  ⟨0x1000, 2, 2, 10, 10, 1, 0, 0, 0, false⟩,  -- PART_NUMBER
  ⟨0x1000, 3, 3, 2, 1, 1, 0, 0, 255, false⟩,  -- VARIANT
  ⟨0x1000, 4, 4, 3, 2, 1, 0, 0, 65535, false⟩,  -- PCI_VENDOR_ID
  ⟨0x1001, 1, 1, 2, 1, 1, 0, 0, 255, false⟩,  -- CAP_TILES
  ⟨0x1001, 2, 2, 2, 1, 1, 0, 0, 255, false⟩,  -- CAP_ME_COUNT
  ⟨0x1001, 3, 3, 2, 1, 1, 0, 0, 255, false⟩,  -- CAP_HBM_MASK
  ⟨0x1001, 4, 4, 3, 2, 1, 0, 0, 65535, false⟩,  -- CAP_QUAD_MASK
  ⟨0x1001, 5, 5, 2, 1, 1, 0, 0, 255, false⟩,  -- CAP_SHOT
  ⟨0x1002, 1, 1, 3, 2, 1, 1, 0, 65535, false⟩,  -- DICT_VERSION
  ⟨0x1002, 2, 2, 11, 0, 1, 0, 0, 0, false⟩,  -- ENTRY_DIR
  ⟨0x1003, 1, 1, 11, 48, 1, 0, 0, 0, false⟩,  -- DEVICE_ID
  ⟨0x1003, 2, 2, 11, 97, 1, 0, 0, 0, false⟩,  -- DEVICE_PUBKEY
  ⟨0x1003, 3, 3, 10, 64, 1, 0, 0, 0, true⟩]  -- MODULE_SERIAL

/-- The entries of range 0x2000. -/
def entryRows2 : List EntryRow := [
  ⟨0x2000, 1, 1, 2, 1, 2, 0, 0, 255, false⟩,  -- DEVICE_STATE
  ⟨0x2000, 2, 2, 1, 1, 3, 0, 0, 1, false⟩,  -- OUTPUT_HOLD
  ⟨0x2000, 3, 3, 1, 1, 3, 0, 0, 1, false⟩,  -- CONFIG_SAVE
  ⟨0x2000, 4, 4, 4, 4, 2, 0, 0, 4294967295, false⟩,  -- CONFIG_SEQ
  ⟨0x2000, 5, 5, 11, 16, 2, 0, 0, 0, false⟩,  -- CONFIG_STATUS
  ⟨0x2000, 6, 6, 2, 1, 6, 0, 0, 1, false⟩,  -- CONFIG_LOAD_SLOT
  ⟨0x2000, 7, 7, 4, 4, 6, 0, 0, 4294967295, false⟩,  -- DEVICE_RESET
  ⟨0x2010, 1, 1, 2, 1, 5, 0, 0, 1, false⟩,  -- FP8_OVERFLOW
  ⟨0x2010, 2, 2, 5, 8, 5, 0, 0, 18446744073709551615, false⟩,  -- SR_SEED_MIX
  ⟨0x2010, 3, 3, 1, 1, 5, 1, 0, 1, false⟩]  -- SR_ENABLE

/-- The entries of range 0x3000. -/
def entryRows3 : List EntryRow := [
  ⟨0x3000, 1, 2, 2, 1, 5, 0, 0, 1, false⟩,  -- HOST_BIFURCATION
  ⟨0x3000, 3, 3, 11, 16, 2, 0, 0, 0, false⟩,  -- HOST_LINK_STATE
  ⟨0x3000, 4, 4, 4, 4, 5, 0x2710, 50, 50000, false⟩,  -- HOST_CPL_TIMEOUT_US
  ⟨0x3100, 1, 1, 1, 1, 5, 0, 0, 1, false⟩,  -- PT_ENABLE
  ⟨0x3100, 2, 2, 2, 1, 5, 0, 0, 255, false⟩,  -- PT_ENDPOINT
  ⟨0x3100, 3, 3, 11, 32, 5, 0, 0, 0, false⟩,  -- PT_SC_MASK
  ⟨0x3100, 4, 4, 11, 9, 5, 0, 0, 0, false⟩,  -- PT_ME_MASK
  ⟨0x3100, 5, 5, 3, 2, 5, 0, 0, 65535, false⟩,  -- PT_EU_MASK
  ⟨0x3100, 6, 7, 5, 8, 5, 0, 0, 18446744073709551615, false⟩,  -- PT_DMA_CT
  ⟨0x3100, 8, 8, 4, 4, 5, 0, 0, 4294967295, false⟩,  -- PT_DMA_NT
  ⟨0x3100, 9, 11, 5, 8, 5, 0, 0, 18446744073709551615, false⟩,  -- PT_SCRATCH
  ⟨0x3100, 12, 14, 4, 4, 5, 0, 0, 4294967295, false⟩,  -- PT_FENCE
  ⟨0x3100, 15, 15, 2, 1, 2, 0, 0, 255, false⟩,  -- PT_STATE
  ⟨0x3100, 16, 16, 1, 1, 2, 0, 0, 1, false⟩,  -- PT_HOST_UP
  ⟨0x3100, 17, 17, 11, 16, 2, 0, 0, 0, false⟩,  -- PT_VIOL_LAST
  ⟨0x3200, 1, 1, 1, 1, 5, 0, 0, 1, false⟩,  -- PT_ENABLE
  ⟨0x3200, 2, 2, 2, 1, 5, 0, 0, 255, false⟩,  -- PT_ENDPOINT
  ⟨0x3200, 3, 3, 11, 32, 5, 0, 0, 0, false⟩,  -- PT_SC_MASK
  ⟨0x3200, 4, 4, 11, 9, 5, 0, 0, 0, false⟩,  -- PT_ME_MASK
  ⟨0x3200, 5, 5, 3, 2, 5, 0, 0, 65535, false⟩,  -- PT_EU_MASK
  ⟨0x3200, 6, 7, 5, 8, 5, 0, 0, 18446744073709551615, false⟩,  -- PT_DMA_CT
  ⟨0x3200, 8, 8, 4, 4, 5, 0, 0, 4294967295, false⟩,  -- PT_DMA_NT
  ⟨0x3200, 9, 11, 5, 8, 5, 0, 0, 18446744073709551615, false⟩,  -- PT_SCRATCH
  ⟨0x3200, 12, 14, 4, 4, 5, 0, 0, 4294967295, false⟩,  -- PT_FENCE
  ⟨0x3200, 15, 15, 2, 1, 2, 0, 0, 255, false⟩,  -- PT_STATE
  ⟨0x3200, 16, 16, 1, 1, 2, 0, 0, 1, false⟩,  -- PT_HOST_UP
  ⟨0x3200, 17, 17, 11, 16, 2, 0, 0, 0, false⟩,  -- PT_VIOL_LAST
  ⟨0x3300, 1, 1, 1, 1, 5, 0, 0, 1, false⟩,  -- PT_ENABLE
  ⟨0x3300, 2, 2, 2, 1, 5, 0, 0, 255, false⟩,  -- PT_ENDPOINT
  ⟨0x3300, 3, 3, 11, 32, 5, 0, 0, 0, false⟩,  -- PT_SC_MASK
  ⟨0x3300, 4, 4, 11, 9, 5, 0, 0, 0, false⟩,  -- PT_ME_MASK
  ⟨0x3300, 5, 5, 3, 2, 5, 0, 0, 65535, false⟩,  -- PT_EU_MASK
  ⟨0x3300, 6, 7, 5, 8, 5, 0, 0, 18446744073709551615, false⟩,  -- PT_DMA_CT
  ⟨0x3300, 8, 8, 4, 4, 5, 0, 0, 4294967295, false⟩,  -- PT_DMA_NT
  ⟨0x3300, 9, 11, 5, 8, 5, 0, 0, 18446744073709551615, false⟩,  -- PT_SCRATCH
  ⟨0x3300, 12, 14, 4, 4, 5, 0, 0, 4294967295, false⟩,  -- PT_FENCE
  ⟨0x3300, 15, 15, 2, 1, 2, 0, 0, 255, false⟩,  -- PT_STATE
  ⟨0x3300, 16, 16, 1, 1, 2, 0, 0, 1, false⟩,  -- PT_HOST_UP
  ⟨0x3300, 17, 17, 11, 16, 2, 0, 0, 0, false⟩,  -- PT_VIOL_LAST
  ⟨0x3400, 1, 1, 1, 1, 5, 0, 0, 1, false⟩,  -- PT_ENABLE
  ⟨0x3400, 2, 2, 2, 1, 5, 0, 0, 255, false⟩,  -- PT_ENDPOINT
  ⟨0x3400, 3, 3, 11, 32, 5, 0, 0, 0, false⟩,  -- PT_SC_MASK
  ⟨0x3400, 4, 4, 11, 9, 5, 0, 0, 0, false⟩,  -- PT_ME_MASK
  ⟨0x3400, 5, 5, 3, 2, 5, 0, 0, 65535, false⟩,  -- PT_EU_MASK
  ⟨0x3400, 6, 7, 5, 8, 5, 0, 0, 18446744073709551615, false⟩,  -- PT_DMA_CT
  ⟨0x3400, 8, 8, 4, 4, 5, 0, 0, 4294967295, false⟩,  -- PT_DMA_NT
  ⟨0x3400, 9, 11, 5, 8, 5, 0, 0, 18446744073709551615, false⟩,  -- PT_SCRATCH
  ⟨0x3400, 12, 14, 4, 4, 5, 0, 0, 4294967295, false⟩,  -- PT_FENCE
  ⟨0x3400, 15, 15, 2, 1, 2, 0, 0, 255, false⟩,  -- PT_STATE
  ⟨0x3400, 16, 16, 1, 1, 2, 0, 0, 1, false⟩,  -- PT_HOST_UP
  ⟨0x3400, 17, 17, 11, 16, 2, 0, 0, 0, false⟩]  -- PT_VIOL_LAST

/-- The entries of range 0x4000. -/
def entryRows4 : List EntryRow := [
  ⟨0x4010, 1, 12, 2, 1, 4, 1, 0, 2, false⟩,  -- QUAD_MODE
  ⟨0x4011, 1, 12, 2, 1, 4, 0, 0, 5, false⟩,  -- QUAD_DIR
  ⟨0x4012, 1, 12, 2, 1, 4, 0, 0, 2, false⟩,  -- ETH_BREAKOUT
  ⟨0x4100, 1, 1, 4, 4, 4, 0x10101, 0, 4294967295, false⟩,  -- TORUS_DIMS
  ⟨0x4100, 2, 2, 4, 4, 4, 0, 0, 4294967295, false⟩,  -- MY_COORD
  ⟨0x4100, 3, 3, 3, 2, 2, 0, 0, 65535, false⟩,  -- MY_RANK
  ⟨0x4100, 4, 4, 3, 2, 4, 625, 1, 1500, false⟩,  -- FAB_DELAY_MAX
  ⟨0x4100, 5, 5, 3, 2, 5, 16, 1, 65535, false⟩,  -- FEC_UNCORR_LIMIT
  ⟨0x4100, 6, 6, 5, 8, 6, 0, 0, 18446744073709551615, false⟩,  -- FAB_RETRAIN
  ⟨0x4100, 7, 7, 4, 4, 5, 0x10000, 1024, 16777216, false⟩,  -- REMAP_COLLECT
  ⟨0x4100, 8, 8, 5, 8, 5, 0, 0, 281474976710655, false⟩,  -- REMAP_RESUME_TICK
  ⟨0x4100, 9, 9, 4, 4, 2, 0, 0, 4294967295, false⟩,  -- REMAP_GEN
  ⟨0x4100, 10, 10, 11, 2048, 2, 0, 0, 0, false⟩,  -- ABSENT_SET
  ⟨0x4120, 1, 1, 11, 384, 2, 0, 0, 0, false⟩,  -- FAB_LINK_STATE
  ⟨0x4201, 1, 193, 4, 4, 5, 1, 0, 4294967295, false⟩,  -- ETH_PORT_CFG
  ⟨0x4202, 1, 193, 5, 8, 5, 0, 0, 281474976710655, false⟩,  -- ETH_MAC_ADDR
  ⟨0x4203, 1, 193, 11, 512, 5, 0, 0, 0, false⟩,  -- ETH_MC_HASH
  ⟨0x4204, 1, 193, 3, 2, 5, 9216, 1518, 9216, false⟩,  -- ETH_MAX_FRAME
  ⟨0x4205, 1, 192, 3, 2, 5, 512, 16, 8192, false⟩,  -- ETH_PFC_XOFF_KIB
  ⟨0x4206, 1, 192, 3, 2, 5, 256, 0, 8191, false⟩,  -- ETH_PFC_XON_KIB
  ⟨0x4207, 1, 192, 3, 2, 5, 1000, 1, 65535, false⟩,  -- ETH_PFC_HOLD_US
  ⟨0x4208, 1, 192, 3, 2, 5, 10, 1, 65535, false⟩,  -- ETH_LPI_IDLE_US
  ⟨0x4209, 1, 193, 4, 4, 2, 0, 0, 4294967295, false⟩,  -- ETH_PORT_STATE
  ⟨0x4301, 1, 192, 2, 1, 5, 0, 0, 7, false⟩,  -- PORT_PIPE
  ⟨0x4302, 1, 192, 4, 4, 5, 64, 0, 4294967295, false⟩,  -- PORT_PARSE
  ⟨0x4303, 1, 192, 4, 4, 5, 0x186A0, 0, 10000000, false⟩,  -- PROC_RATE
  ⟨0x4304, 1, 192, 3, 2, 5, 256, 1, 4096, false⟩,  -- PROC_BURST
  ⟨0x4310, 1, 1, 3, 2, 5, 4789, 0, 65535, false⟩,  -- VXLAN_UDP_PORT
  ⟨0x4310, 2, 2, 3, 2, 5, 6081, 0, 65535, false⟩,  -- GENEVE_UDP_PORT
  ⟨0x4320, 1, 1, 11, 64, 5, 0, 0, 0, false⟩,  -- SHOT_LANE_MAP
  ⟨0x4320, 2, 2, 1, 1, 5, 1, 0, 1, false⟩,  -- SHOT_REBAL_EN
  ⟨0x4330, 1, 1, 3, 2, 5, 0xFFFF, 0, 65535, false⟩,  -- PROC_QUEUE
  ⟨0x4400, 1, 1, 1, 1, 5, 0, 0, 1, false⟩,  -- RULE_SWITCH
  ⟨0x4400, 2, 2, 2, 1, 2, 0, 0, 255, false⟩,  -- RULE_VERSION
  ⟨0x4400, 3, 3, 2, 1, 2, 0, 0, 255, false⟩,  -- RULE_ACTIVE_BANK
  ⟨0x4400, 4, 4, 4, 4, 2, 0, 0, 4294967295, false⟩,  -- RULE_DRAIN
  ⟨0x4400, 5, 5, 2, 1, 3, 0, 0, 255, false⟩,  -- RANGE_FIELD
  ⟨0x4400, 6, 6, 11, 2312, 3, 0, 0, 0, true⟩,  -- RANGE_TREE
  ⟨0x4410, 1, 8, 11, 65536, 3, 0, 0, 0, false⟩,  -- FILTER_RULES
  ⟨0x4411, 1, 8, 11, 65536, 3, 0, 0, 0, false⟩,  -- CLASSIFY_RULES
  ⟨0x4500, 1, 1, 3, 2, 5, 1000, 10, 65535, false⟩,  -- FRAG_AGE_US
  ⟨0x4500, 2, 2, 3, 2, 2, 0, 0, 65535, false⟩,  -- FRAG_COUNT
  ⟨0x4600, 1, 1, 4, 4, 5, 0x2710, 1, 3600000, false⟩,  -- FLOW_AGE_MS
  ⟨0x4600, 2, 2, 4, 4, 2, 0, 0, 4294967295, false⟩,  -- FLOW_COUNT
  ⟨0x4700, 1, 4, 11, 1024, 3, 0, 0, 0, false⟩,  -- RSS_TABLE_PT
  ⟨0x4701, 1, 4, 4, 4, 5, 63, 0, 4294967295, false⟩,  -- RSS_CFG_PT
  ⟨0x4702, 1, 1, 2, 1, 5, 4, 2, 16, false⟩]  -- IMB_FACTOR

/-- The entries of range 0x5000. -/
def entryRows5 : List EntryRow := [
  ⟨0x5000, 1, 1, 2, 1, 4, 0, 0, 3, false⟩,  -- SHOT_PARTITION
  ⟨0x5000, 2, 2, 3, 2, 5, 7311, 1, 65535, false⟩,  -- SHOT_UDP_PORT
  ⟨0x5000, 3, 3, 4, 4, 1, 0, 0, 4294967295, false⟩,  -- SHOT_OUI
  ⟨0x5000, 4, 4, 1, 1, 5, 0, 0, 1, false⟩,  -- SHOT_STRICT
  ⟨0x5000, 5, 5, 2, 1, 5, 64, 1, 255, false⟩,  -- SHOT_TTL
  ⟨0x5100, 1, 64, 11, 33808, 3, 0, 0, 0, true⟩,  -- LAYOUT
  ⟨0x5101, 1, 8, 11, 65536, 3, 0, 0, 0, false⟩,  -- BOUNDS
  ⟨0x5200, 1, 1, 1, 1, 5, 0, 0, 1, false⟩,  -- BANK_COMMIT
  ⟨0x5200, 2, 2, 2, 1, 2, 0, 0, 255, false⟩,  -- ACTIVE_BANK
  ⟨0x5200, 3, 3, 4, 4, 2, 0, 0, 4294967295, false⟩,  -- BANK_SEQ
  ⟨0x5200, 4, 4, 4, 4, 2, 0, 0, 4294967295, false⟩,  -- BANK_DRAIN
  ⟨0x5200, 5, 5, 2, 1, 2, 0, 0, 255, false⟩,  -- BANK_STATE
  ⟨0x5201, 1, 1, 11, 32768, 3, 0, 0, 0, false⟩,  -- MODEL_DIR
  ⟨0x5202, 1, 1, 11, 65536, 3, 0, 0, 0, false⟩,  -- TREE_DIR
  ⟨0x5210, 4, 4, 4, 4, 5, 500, 64, 1024, false⟩,  -- DEADLINE_TC7_NS
  ⟨0x5210, 5, 5, 4, 4, 5, 1024, 64, 1024, false⟩,  -- DEADLINE_OTHER_NS
  ⟨0x5210, 6, 6, 4, 4, 5, 0, 0, 1024, false⟩]  -- REPLY_LAG_NS

/-- The entries of range 0x6000. -/
def entryRows6 : List EntryRow := [
  ⟨0x6000, 1, 1, 2, 1, 4, 0, 0, 3, false⟩,  -- TICK_SOURCE
  ⟨0x6000, 2, 2, 4, 4, 4, 0, 0, 16777215, false⟩,  -- TICK_MASTER_COORD
  ⟨0x6000, 3, 3, 2, 1, 4, 8, 4, 80, false⟩,  -- TICK_GUARD
  ⟨0x6000, 4, 4, 2, 1, 5, 40, 1, 63, false⟩,  -- DECISION_LAG
  ⟨0x6000, 5, 5, 2, 1, 5, 3, 0, 15, false⟩,  -- REPEAT_LIMIT
  ⟨0x6000, 6, 6, 2, 1, 5, 8, 1, 63, false⟩,  -- SLIP_LIMIT
  ⟨0x6000, 7, 7, 5, 8, 5, 0, 0, 281474976710655, false⟩,  -- STEP_START_TICK
  ⟨0x6000, 8, 8, 1, 1, 5, 0, 0, 1, false⟩,  -- SCHED_ENABLE
  ⟨0x6000, 9, 9, 4, 4, 5, 0, 0, 4294967295, false⟩,  -- STEP_ID
  ⟨0x6000, 10, 10, 4, 4, 5, 0, 0, 4294967295, false⟩,  -- EPOCH
  ⟨0x6000, 11, 11, 5, 8, 2, 0, 0, 18446744073709551615, false⟩,  -- TICK_NOW
  ⟨0x6000, 12, 12, 2, 1, 2, 0, 0, 255, false⟩,  -- STEP_STATE
  ⟨0x6000, 13, 13, 2, 1, 2, 0, 0, 255, false⟩,  -- REPEAT_COUNT
  ⟨0x6000, 14, 14, 2, 1, 2, 0, 0, 255, false⟩,  -- LAST_ABORT_CAUSE
  ⟨0x6100, 1, 7, 3, 2, 5, 0, 1, 65535, false⟩,  -- B_INGEST to B_ALLGATHER
  ⟨0x6200, 1, 1, 2, 1, 5, 3, 0, 6, false⟩,  -- HEADROOM
  ⟨0x6200, 2, 2, 2, 1, 5, 0, 0, 2, false⟩,  -- NAN_POLICY
  ⟨0x6200, 3, 4, 11, 16, 2, 0, 0, 0, false⟩,  -- COLL_MISSING_LOG
  ⟨0x6210, 1, 4, 3, 2, 2, 0, 0, 65535, false⟩]  -- COLL_COUNT_PT

/-- The entries of range 0x7000. -/
def entryRows7 : List EntryRow := [
  ⟨0x7000, 1, 1, 2, 1, 4, 0, 0, 1, false⟩,  -- UE_MODE
  ⟨0x7000, 2, 3, 5, 8, 1, 0, 0, 18446744073709551615, false⟩,  -- T1_SIZE, T2_SIZE
  ⟨0x7000, 4, 4, 3, 2, 4, 32, 0, 128, false⟩,  -- ROW_CACHE_GIB
  ⟨0x7000, 5, 5, 3, 2, 1, 4096, 0, 65535, false⟩,  -- T1_TXN_MAX
  ⟨0x7100, 1, 4, 4, 4, 2, 0, 0, 4294967295, false⟩,  -- OBJ_COUNT_PT
  ⟨0x7200, 1, 1, 11, 512, 2, 0, 0, 0, false⟩,  -- UE_LOG
  ⟨0x7300, 1, 1, 11, 32768, 2, 0, 0, 0, false⟩,  -- SERVE_MAP
  ⟨0x7300, 2, 2, 4, 4, 1, 0x1000000, 0, 4294967295, false⟩,  -- PUB_T1_MAX
  ⟨0x7300, 3, 3, 4, 4, 1, 0x200000, 0, 4294967295, false⟩,  -- PUB_T2_MAX
  ⟨0x7300, 4, 4, 11, 32768, 5, 0, 0, 0, false⟩,  -- BUDDY_MAP
  ⟨0x7300, 5, 5, 11, 24, 2, 0, 0, 0, false⟩,  -- EU_NAN_FIRST
  ⟨0x7310, 1, 4, 3, 2, 2, 0, 0, 65535, false⟩]  -- TBL_COUNT_PT

/-- The entries of range 0x8000. -/
def entryRows8 : List EntryRow := [
  ⟨0x8000, 1, 1, 11, 390, 2, 0, 0, 0, false⟩,  -- MON_READING
  ⟨0x8000, 2, 2, 11, 195, 2, 0, 0, 0, false⟩,  -- MON_LEVEL
  ⟨0x8000, 3, 3, 3, 2, 5, 1300, 700, 1300, false⟩,  -- ACLK_MAX
  ⟨0x8000, 4, 4, 4, 4, 2, 0, 0, 4294967295, false⟩,  -- ACLK_NOW
  ⟨0x8010, 1, 7, 11, 8, 5, 0, 0, 0, false⟩,  -- THRESH
  ⟨0x8100, 1, 1, 11, 32, 1, 0, 0, 0, false⟩,  -- DEFECT_SC
  ⟨0x8100, 2, 2, 11, 9, 1, 0, 0, 0, false⟩,  -- DEFECT_ME
  ⟨0x8100, 3, 3, 3, 2, 1, 0, 0, 65535, false⟩,  -- DEFECT_EU
  ⟨0x8100, 4, 4, 2, 1, 1, 0, 0, 255, false⟩,  -- DEFECT_TE
  ⟨0x8100, 5, 6, 5, 8, 1, 0, 0, 18446744073709551615, false⟩,  -- DEFECT_DMA_CT
  ⟨0x8100, 7, 7, 4, 4, 1, 0, 0, 4294967295, false⟩,  -- DEFECT_DMA_NT
  ⟨0x8100, 8, 8, 11, 24, 1, 0, 0, 0, false⟩,  -- DEFECT_LANES
  ⟨0x8110, 1, 1, 11, 32, 5, 0, 0, 0, false⟩,  -- DEFECT_SC
  ⟨0x8110, 2, 2, 11, 9, 5, 0, 0, 0, false⟩,  -- DEFECT_ME
  ⟨0x8110, 3, 3, 3, 2, 5, 0, 0, 65535, false⟩,  -- DEFECT_EU
  ⟨0x8110, 4, 4, 2, 1, 5, 0, 0, 255, false⟩,  -- DEFECT_TE
  ⟨0x8110, 5, 6, 5, 8, 5, 0, 0, 18446744073709551615, false⟩,  -- DEFECT_DMA_CT
  ⟨0x8110, 7, 7, 4, 4, 5, 0, 0, 4294967295, false⟩,  -- DEFECT_DMA_NT
  ⟨0x8110, 8, 8, 11, 24, 5, 0, 0, 0, false⟩,  -- DEFECT_LANES
  ⟨0x8400, 1, 1, 11, 128, 2, 0, 0, 0, false⟩,  -- TELEMETRY_LAST
  ⟨0x8500, 1, 5, 3, 2, 5, 10, 1, 1000, false⟩,  -- INPUT_HOLDOFF_MS
  ⟨0x8500, 6, 6, 3, 2, 5, 200, 50, 600, false⟩,  -- INPUT_MIN_PULSE_NS
  ⟨0x8500, 7, 7, 3, 2, 2, 0, 0, 65535, false⟩,  -- INPUT_STATE
  ⟨0x8500, 8, 8, 4, 4, 5, 0x1000100, 0, 4294967295, false⟩]  -- HOST_ATTN_CORE

/-- The entries of range 0x9000. -/
def entryRows9 : List EntryRow := [
  ⟨0x9000, 1, 1, 4, 4, 6, 0, 0, 4294967295, false⟩,  -- STATS_CLEAR
  ⟨0x9000, 2, 2, 11, 0, 1, 0, 0, 0, false⟩,  -- COUNTER_DIR
  ⟨0x9500, 240, 240, 11, 32768, 2, 0, 0, 0, false⟩,  -- FLOW_PAGE
  ⟨0x9500, 241, 241, 4, 4, 3, 0, 0, 262143, false⟩]  -- FLOW_PAGE_SEL

/-- The entries of range 0xA000. -/
def entryRowsA : List EntryRow := [
  ⟨0xA000, 1, 1, 3, 2, 5, 6153, 1, 65535, false⟩,  -- DAP_UDP_PORT
  ⟨0xA000, 2, 2, 1, 1, 5, 1, 0, 1, false⟩,  -- DAP_INBAND_EN
  ⟨0xA000, 3, 3, 3, 2, 5, 60, 5, 3600, false⟩,  -- STAGE_IDLE_S
  ⟨0xA000, 4, 4, 2, 1, 5, 255, 0, 255, false⟩,  -- CONTROL_PARTITION
  ⟨0xA000, 5, 5, 1, 1, 5, 1, 0, 1, false⟩,  -- HOLD_HOST_OWNER
  ⟨0xA000, 6, 6, 4, 4, 5, 0, 0, 4294967295, false⟩,  -- MG_IPV4
  ⟨0xA010, 1, 1, 2, 1, 2, 0, 0, 255, false⟩,  -- FW_ACTIVE_SLOT
  ⟨0xA010, 2, 3, 4, 4, 2, 0, 0, 4294967295, false⟩,  -- FW_VERSION
  ⟨0xA010, 4, 4, 3, 2, 3, 0, 0, 511, false⟩,  -- FW_BLOCK_NUM
  ⟨0xA010, 5, 5, 1, 1, 3, 0, 0, 1, false⟩,  -- FW_VERIFY
  ⟨0xA010, 6, 6, 2, 1, 2, 0, 0, 255, false⟩,  -- FW_PREFERRED
  ⟨0xA011, 1, 1, 11, 65536, 6, 0, 0, 0, false⟩,  -- FW_BLOCK
  ⟨0xA100, 1, 16, 11, 4, 5, 0, 0, 0, false⟩,  -- CRED_INFO
  ⟨0xA101, 1, 16, 11, 32, 6, 0, 0, 0, false⟩,  -- CRED_KEY
  ⟨0xA102, 1, 1, 11, 256, 2, 0, 0, 0, false⟩]  -- SEQ_MARKS

/-- Every row, in ascending order. -/
def entryRows : List EntryRow :=
  entryRows1 ++ entryRows2 ++ entryRows3 ++ entryRows4 ++ entryRows5 ++ entryRows6 ++ entryRows7 ++ entryRows8 ++ entryRows9 ++ entryRowsA

end Sys2Proof.Machine
end

