-- ==== Sys2Proof/Config.lean ====
section
/-! DEFINITION. What the spec leaves open and one implementation fixes: opaque constants without a body, so that no
proof can see a value (the assumption log names each). Nothing here is a number chosen by this model. -/

namespace Sys2Proof.Config

/-- The sign of the canonical NaN that an invalid operation without a NaN operand makes (R45 says 'the sign of the
NaN's origin' and gives such an operation no sign), by operation code and operands. UNVERIFIED; log entry 10. -/
opaque invalidNanSign : Nat → Nat → Nat → Bool

/-- Which NaN's sign a matrix engine or an EU writes when two NaN operands of different sign meet (R45 names one
origin only), by the two operands. Log entry 10. -/
opaque mergedNanSign : Nat → Nat → Bool

/-- IEEE 754 leaves tininess before or after rounding to the implementation, and R134 does not choose. Log entry 11. -/
opaque tinyBeforeRounding : Bool

/-- Whether the fused multiply-add of infinity, zero and a quiet NaN sets the invalid flag: IEEE 754 leaves it to the
implementation, and R64 does not choose. Log entry 150. -/
opaque fmaNanInvalid : Bool

/-- The code of element `i` of an MX block that is written with scale 0xFF, by format code and element: R48 gives such a block its
scale byte only. Log entry 151. -/
opaque mxNanCode : Nat → Nat → Nat

/-- The sign of the canonical NaN that a block with scale 0xFF contributes (R45 says 'the sign of the NaN's origin', and a scale
byte has none), by format code. Log entry 10. -/
opaque mxNanSign : Nat → Bool

/-- The sign of the exact sum of an MX block all of whose 32 products are −0 (R65 sums exactly, and an exact zero has no
sign). Log entry 153. -/
opaque mxZeroNeg : Bool

/-- The result of converting a NaN, an infinity or an out-of-range FP64 value to a 64-bit integer, which R141 and
R60 do not give. By the operand. Log entry 12. -/
opaque cvtToLong : Nat → BitVec 64

/-- Which zero a minimum or maximum of zeros of opposite sign returns (R64: they compare equal). True is the first
operand. By operation code, first and second operand. Log entry 13. -/
opaque minMaxZeroFirst : Nat → Nat → Nat → Bool

/-- Payload bytes of an embedding or management message whose byte layout the spec does not give (Table 10.3, PTYPE 2
and 3), by kind and by the bytes of data it carries. Log entry 14. -/
opaque payloadLen : Nat → Nat → Nat

/-- Byte i of the payload of such a message. Log entry 14. -/
opaque payloadByte : Payload → Nat → BitVec 8

/-- How many ACLK cycles pass before a read of SC_CYCLE (Table 5.9), within its tick: by the draw counter. Log entry 15. -/
opaque cyclesPassed : Nat → Nat

/-- Whether a store to a DMA channel's block falls on the clock edge of the channel's last hand-over or request (R172, R176): by
the draw counter. Log entry 93. -/
opaque onEdge : Nat → Bool

/-- The interleave masks that the MC draws at each device reset (R184), by boot and j. Log entry 17. -/
opaque ilMask : Nat → Nat → Nat

/-- VABS of the most negative lane value, which Table 5.5 does not give, by lane width. Log entry 26. -/
opaque vabsMin : Nat → Nat

/-- A vector shift by the lane width or more, which Table 5.5 does not give: by operation (FN), lane width, value and
amount. Log entry 27. -/
opaque vshiftOver : Nat → Nat → Nat → Nat → Nat

/-- VCVTB to BS16 of a value beyond the int16 codes at its exponent (R143 and R55 give none), by exponent and value.
Log entry 28. -/
opaque bs16Over : Nat → Nat → Nat

/-- VCVTB to RQ8 under a scale that is not positive and finite (R143, R51), by scale, zero point and value. Log entry 28. -/
opaque rq8BadScale : Nat → Nat → Nat → Nat

/-- The IEEE flags of such a conversion to RQ8, by the same. Log entry 28. -/
opaque rq8BadFlags : Nat → Nat → Nat → Nat

/-- The lane that VINS or VEXT takes for a lane number at or above the lane count (Table 5.5 gives none), by ET and
number. Log entry 31. -/
opaque laneOver : Nat → Nat → Nat

/-- The ADAM8 code of a moment that is not finite, or under a scale that is not (Table 8.7 gives none), by value and
scale. Log entry 34. -/
opaque requantOpen : Nat → Nat → Int

/-- The largest of the moments of a row when one of them is NaN (Table 8.7 gives none). Log entry 34. -/
opaque maxOfNan : List Nat → Nat

/-- A byte that the collectives read from a poisoned granule, which Table 7.9 does not give: by tier, address and draw
counter. Log entry 38. -/
opaque poisonByte : Nat → Nat → Nat → BitVec 8

/-- Whether IEEE 802.3 defines low-power idle for the PHY of a port mode (R311), by the units that a byte takes (1, 2 or
4 for 800, 400 or 200 Gbit/s). Log entry 43. -/
opaque lpiCap : Nat → Bool

/-- The wake time in µs that IEEE 802.3 gives for the PHY of a port mode (R312). Log entry 43. -/
opaque phyWake : Nat → Nat

/-- The LLDPDU that the MC sends on a port up to its EEE TLV (R312): its chassis and port identifiers are not given. Log entry
43. -/
opaque lldpdu : Nat → List (BitVec 8)

/-- The rest of that LLDPDU after the wake times of the EEE TLV. Log entry 43. -/
opaque lldpTail : Nat → List (BitVec 8)

/-- SYM_SALT, the partition salts and the Toeplitz keys, which the MC draws at each device reset (R338): bytes, by boot
and by which (0 SYM_SALT, 1 to 4 partition salts, 5 to 8 Toeplitz keys) and place. Log entry 44. -/
opaque saltByte : Nat → Nat → Nat → BitVec 8

/-- Whether firmware bytes verify under the vendor key (R468: the key's hash and the ECDSA signature are in no section of
the spec), and the version they hold: by the slot's bytes. Log entry 49. -/
opaque fwVerify : List (Nat × BitVec 8) → Option Nat

/-- The 384-bit seed that the firmware rebuilds from this module's PUF SRAM and the helper data of the boot record (R469). Log
entry 182. -/
opaque pufSeed : List (BitVec 8) → List (BitVec 8)

/-- Whether that seed can be rebuilt at a startup that FW_BOOT of the mailbox begins (R468, R469). By the draw counter. Log
entry 182. -/
opaque pufBuilt : Nat → Bool

/-- The private key of the ECDSA P-384 pair that the firmware derives from the seed (R469). Log entry 182. -/
opaque deviceKey : List (BitVec 8) → List (BitVec 8)

/-- The coordinates of the public key of that pair (R469). Log entry 182. -/
opaque publicPoint : List (BitVec 8) → Nat × Nat

/-- The status of a WRITE of DEVICE_RESET that is not accepted yet (R512, R516 give none). Log entry 183. -/
opaque resetRefused : Nat

/-- The bytes that a configuration slot holds after a save whose read-back failed (R476), by SEQ. Log entry 50. -/
opaque failedSave : Nat → List (BitVec 8)

/-- What LAST_ABORT_CAUSE holds after an ABORT that this module raised because it leaves the pod (R291): Table 3.4 gives that
cause no value. By the draw counter. Log entry 51. -/
opaque leaveCause : Nat → BitVec 8

/-- What a place of an accumulator set holds after an output tile that bad data poisoned (R101, R127): the place is in the key.
By the draw counter. Log entry 165. -/
opaque poisonAcc : Nat → Nat → BitVec 32

end Sys2Proof.Config
end

