-- ==== Sys2Proof/Machine/Float.lean ====
section
/-! DEFINITION. Floating-point arithmetic (file 02, R44, R45, R58, R61, R64, R67): a value is taken apart exactly,
the operation is exact, and one rounding makes the result. Bit patterns are plain numbers here. -/

namespace Sys2Proof.Machine

/-- A floating-point format of Table 2.2. `infs`: exponent all ones holds infinities and NaN as IEEE 754 lays them;
`nanTop`: only the all-ones pattern is NaN (E4M3). -/
structure Fmt where
  ebits  : Nat
  mbits  : Nat
  bias   : Nat
  infs   : Bool
  nanTop : Bool
  deriving DecidableEq, Repr

def Fmt.fp64 : Fmt := ⟨11, 52, 1023, true, false⟩
def Fmt.fp32 : Fmt := ⟨8, 23, 127, true, false⟩
def Fmt.bf16 : Fmt := ⟨8, 7, 127, true, false⟩
def Fmt.fp16 : Fmt := ⟨5, 10, 15, true, false⟩
def Fmt.e4m3 : Fmt := ⟨4, 3, 7, false, true⟩
def Fmt.e5m2 : Fmt := ⟨5, 2, 15, true, false⟩
def Fmt.e3m2 : Fmt := ⟨3, 2, 3, false, false⟩
def Fmt.e2m3 : Fmt := ⟨2, 3, 1, false, false⟩
def Fmt.e2m1 : Fmt := ⟨2, 1, 1, false, false⟩

namespace Fmt

/-- The width of the format in bits. -/
def width (f : Fmt) : Nat := 1 + f.ebits + f.mbits

/-- The sign bit's weight. -/
def signBit (f : Fmt) : Nat := 2 ^ (f.ebits + f.mbits)

/-- The exponent of the unit of the smallest subnormal. -/
def qmin (f : Fmt) : Int := 1 - (f.bias : Int) - f.mbits

/-- The largest finite magnitude's bits (Table 2.2). -/
def maxFin (f : Fmt) : Nat :=
  if f.infs then (2 ^ f.ebits - 1) * 2 ^ f.mbits - 1
  else if f.nanTop then f.signBit - 2 else f.signBit - 1

/-- Infinity's bits; a format without one gives its NaN pattern. -/
def infBits (f : Fmt) : Nat := if f.infs then (2 ^ f.ebits - 1) * 2 ^ f.mbits else f.signBit - 1

/-- The canonical NaN's bits without sign (R45): 0x7F for both FP8 formats, the quiet bit alone otherwise. -/
def nanBits (f : Fmt) : Nat :=
  if f.width = 8 then f.signBit - 1 else (2 ^ f.ebits - 1) * 2 ^ f.mbits + 2 ^ (f.mbits - 1)

end Fmt

/-- A value taken apart: NaN with its bits, infinity, or the exact number (−1)^neg × m × 2^e. -/
inductive Unp where
  | nan (neg : Bool) (bits : Nat)
  | inf (neg : Bool)
  | fin (neg : Bool) (m : Nat) (e : Int)
  deriving DecidableEq, Repr

/-- The value of a bit pattern (R44). -/
def unpack (f : Fmt) (w : Nat) : Unp :=
  let neg := bit w (f.ebits + f.mbits)
  let ef := w / 2 ^ f.mbits % 2 ^ f.ebits
  let mf := w % 2 ^ f.mbits
  if f.infs && ef == 2 ^ f.ebits - 1 then (if mf = 0 then .inf neg else .nan neg (w % 2 ^ f.width))
  else if f.nanTop && ef == 2 ^ f.ebits - 1 && mf == 2 ^ f.mbits - 1 then .nan neg (w % 2 ^ f.width)
  else if ef = 0 then .fin neg mf f.qmin
  else .fin neg (2 ^ f.mbits + mf) (f.qmin + ef - 1)

def Unp.isNan : Unp → Bool
  | .nan .. => true
  | _ => false

def Unp.neg : Unp → Bool
  | .nan n _ => n
  | .inf n => n
  | .fin n _ _ => n

/-- The value with the other sign. -/
def Unp.negate : Unp → Unp
  | .nan n b => .nan n b
  | .inf n => .inf (!n)
  | .fin n m e => .fin (!n) m e

/-- A rounding direction (Table 2.5); `sr r` is stochastic rounding with the element's random value r (R61). -/
inductive Rnd where
  | rne | rtz | rdn | rup
  | sr (r : Nat)
  deriving DecidableEq, Repr

/-- The rounding of codes 0–3 (Table 2.5). -/
def Rnd.ofCode (c : Nat) : Rnd := if c = 1 then .rtz else if c = 2 then .rdn else if c = 3 then .rup else .rne

/-- m × 2^(−sh) rounded to an integer, for a value of sign `neg`; and whether it was inexact. -/
def roundShift (r : Rnd) (neg : Bool) (m : Nat) (sh : Int) : Nat × Bool :=
  if sh ≤ 0 then (m * 2 ^ (-sh).toNat, false)
  else
    let d := 2 ^ sh.toNat
    let n := m / d
    let rem := m % d
    if rem = 0 then (n, false)
    else
      let up := match r with
        | .rne => d < 2 * rem || (d == 2 * rem && n % 2 == 1)
        | .rtz => false
        | .rdn => neg
        | .rup => !neg
        | .sr q => 65536 ≤ rem * 65536 / d + q % 65536
      (if up then n + 1 else n, true)

/-- What one rounding gives: the bits without sign, inexactness, a magnitude beyond the largest finite one, and
IEEE tininess before and after rounding. -/
structure Rounded where
  mag     : Nat
  inexact : Bool
  overl    : Bool
  tinyB   : Bool
  tinyA   : Bool
  deriving DecidableEq, Repr

/-- The position of the leading one (0 for 0 and 1). -/
def log2n (m : Nat) : Nat := Nat.log2 m

/-- m × 2^e (m ≠ 0) rounded once to the format, as if its exponent range were unbounded upwards (R60). -/
def roundMag (f : Fmt) (r : Rnd) (neg : Bool) (m : Nat) (e : Int) : Rounded :=
  if m = 0 then ⟨0, false, false, false, false⟩
  else
    let top : Int := (log2n m : Int) + e
    let qn := top - f.mbits
    let q := if qn < f.qmin then f.qmin else qn
    let nx := roundShift r neg m (q - e)
    let mag := nx.1 + (q - f.qmin).toNat * 2 ^ f.mbits
    let emin : Int := 1 - (f.bias : Int)
    let ub := roundShift r neg m (qn - e)
    let tinyA := decide (top < emin) && !(ub.1 == 2 ^ (f.mbits + 1) && decide (top + 1 = emin))
    ⟨mag, nx.2, decide (f.maxFin < mag), decide (top < emin), tinyA⟩

/-- IEEE flag bits as SC_FFLAGS holds them (Table 5.9): NX 1, UF 2, OF 4, DZ 8, NV 16. -/
structure FRes where
  bits  : Nat
  flags : Nat
  deriving DecidableEq, Repr

/-- A sign put on a magnitude. -/
def withSign (f : Fmt) (neg : Bool) (mag : Nat) : Nat := (if neg then f.signBit else 0) + mag

/-- Whether the rounding direction points away from zero for a value of this sign: then an overflow is infinite. -/
def Rnd.overInf (r : Rnd) (neg : Bool) : Bool :=
  match r with
  | .rne => true
  | .sr _ => true
  | .rtz => false
  | .rdn => neg
  | .rup => !neg

/-- A rounded arithmetic result with its IEEE flags (R134): overflow goes to infinity or the largest finite value. -/
def finish (f : Fmt) (r : Rnd) (neg : Bool) (m : Nat) (e : Int) : FRes :=
  let x := roundMag f r neg m e
  if x.overl then ⟨withSign f neg (if r.overInf neg then f.infBits else f.maxFin), 5⟩
  else
    let tiny := if Config.tinyBeforeRounding then x.tinyB else x.tinyA
    ⟨withSign f neg x.mag, (if x.inexact then 1 else 0) + (if x.inexact && tiny then 2 else 0)⟩

/-- Whether a NaN's quiet bit is clear. -/
def isSignalling (f : Fmt) (w : Nat) : Bool := !(bit w (f.mbits - 1))

/-- The NaN with its payload kept and its quiet bit set (R64, steward cores). -/
def quieten (f : Fmt) (w : Nat) : Nat :=
  let w := w % 2 ^ f.width
  if bit w (f.mbits - 1) then w else w + 2 ^ (f.mbits - 1)

/-- The invalid-operation flag when an operand is a signalling NaN. -/
def snanFlag (f : Fmt) (ws : List Nat) : Nat :=
  if ws.any (fun w => (unpack f w).isNan && isSignalling f w) then 16 else 0

/-- How a unit makes a NaN: a steward core keeps the first NaN operand's payload (R64), every other unit writes the
canonical NaN with the sign of the NaN's origin (R45). -/
inductive NanRule where
  | payload | canonical
  deriving DecidableEq, Repr

/-- The result for NaN operands, when there is one. -/
def nanResult (rule : NanRule) (f : Fmt) (ws : List Nat) : Option Nat :=
  match ws.filter (fun w => (unpack f w).isNan) with
  | [] => none
  | a :: rest =>
    match rule with
    | .payload => some (quieten f a)
    | .canonical =>
      let na := (unpack f a).neg
      let sgn := match rest.find? (fun b => (unpack f b).neg != na) with
        | none => na
        | some b => Config.mergedNanSign a b
      some (withSign f sgn f.nanBits)

/-- The NaN of an invalid operation: canonical, its sign open (R45, log entry 10), with the NV flag. -/
def invalidNan (f : Fmt) (op a b : Nat) : FRes := ⟨withSign f (Config.invalidNanSign op a b) f.nanBits, 16⟩

/-- The exact sum of two exact numbers as sign, magnitude and exponent. -/
def exactSum (n1 : Bool) (m1 : Nat) (e1 : Int) (n2 : Bool) (m2 : Nat) (e2 : Int) : Int × Int :=
  let e := if e1 ≤ e2 then e1 else e2
  let a : Int := (m1 * 2 ^ (e1 - e).toNat : Nat)
  let b : Int := (m2 * 2 ^ (e2 - e).toNat : Nat)
  ((if n1 then -a else a) + (if n2 then -b else b), e)

/-- The sign of an exact zero sum: the common sign, else minus only when rounding down (R64, IEEE 754). -/
def zeroSumSign (r : Rnd) (n1 n2 : Bool) : Bool := if n1 == n2 then n1 else r == .rdn

/-- a + b in the format. -/
def fAdd (rule : NanRule) (f : Fmt) (r : Rnd) (a b : Nat) : FRes :=
  match nanResult rule f [a, b] with
  | some w => ⟨w, snanFlag f [a, b]⟩
  | none =>
    match unpack f a, unpack f b with
    | .inf x, .inf y => if x == y then ⟨withSign f x f.infBits, 0⟩ else invalidNan f 0 a b
    | .inf x, _ => ⟨withSign f x f.infBits, 0⟩
    | _, .inf y => ⟨withSign f y f.infBits, 0⟩
    | .fin n1 m1 e1, .fin n2 m2 e2 =>
      let s := exactSum n1 m1 e1 n2 m2 e2
      if s.1 = 0 then ⟨withSign f (zeroSumSign r n1 n2) 0, 0⟩
      else finish f r (decide (s.1 < 0)) s.1.natAbs s.2
    | _, _ => ⟨f.nanBits, 16⟩

/-- The bits with the sign inverted. -/
def fNeg (f : Fmt) (a : Nat) : Nat := if bit a (f.ebits + f.mbits) then a % 2 ^ f.width - f.signBit else a % 2 ^ f.width + f.signBit

/-- The bits with the sign cleared. -/
def fAbs (f : Fmt) (a : Nat) : Nat := a % f.signBit

/-- a − b in the format: a NaN operand keeps its own sign. -/
def fSub (rule : NanRule) (f : Fmt) (r : Rnd) (a b : Nat) : FRes :=
  match nanResult rule f [a, b] with
  | some w => ⟨w, snanFlag f [a, b]⟩
  | none => fAdd rule f r a (fNeg f b)

/-- a × b in the format. -/
def fMul (rule : NanRule) (f : Fmt) (r : Rnd) (a b : Nat) : FRes :=
  match nanResult rule f [a, b] with
  | some w => ⟨w, snanFlag f [a, b]⟩
  | none =>
    match unpack f a, unpack f b with
    | .inf x, .inf y => ⟨withSign f (x != y) f.infBits, 0⟩
    | .inf x, .fin y m _ => if m = 0 then invalidNan f 1 a b else ⟨withSign f (x != y) f.infBits, 0⟩
    | .fin x m _, .inf y => if m = 0 then invalidNan f 1 a b else ⟨withSign f (x != y) f.infBits, 0⟩
    | .fin n1 m1 e1, .fin n2 m2 e2 =>
      if m1 * m2 = 0 then ⟨withSign f (n1 != n2) 0, 0⟩ else finish f r (n1 != n2) (m1 * m2) (e1 + e2)
    | _, _ => ⟨f.nanBits, 16⟩

/-- a ÷ b in the format: the quotient to far more places than the format holds, with a sticky last bit. -/
def fDiv (rule : NanRule) (f : Fmt) (r : Rnd) (a b : Nat) : FRes :=
  match nanResult rule f [a, b] with
  | some w => ⟨w, snanFlag f [a, b]⟩
  | none =>
    match unpack f a, unpack f b with
    | .inf _, .inf _ => invalidNan f 2 a b
    | .inf x, .fin y _ _ => ⟨withSign f (x != y) f.infBits, 0⟩
    | .fin x _ _, .inf y => ⟨withSign f (x != y) 0, 0⟩
    | .fin n1 m1 e1, .fin n2 m2 e2 =>
      if m2 = 0 then (if m1 = 0 then invalidNan f 2 a b else ⟨withSign f (n1 != n2) f.infBits, 8⟩)
      else if m1 = 0 then ⟨withSign f (n1 != n2) 0, 0⟩
      else
        let num := m1 * 2 ^ 160
        finish f r (n1 != n2) (2 * (num / m2) + b2n (num % m2 != 0)) (e1 - e2 - 161)
    | _, _ => ⟨f.nanBits, 16⟩

/-- The integer square root, by bits from the top. -/
def isqrtGo : Nat → Nat → Nat → Nat
  | 0, _, acc => acc
  | k + 1, n, acc => let t := acc + 2 ^ k; if t * t ≤ n then isqrtGo k n t else isqrtGo k n acc

/-- The integer square root of `n`. -/
def isqrt (n : Nat) : Nat := isqrtGo (log2n n / 2 + 1) n 0

/-- The square root in the format. -/
def fSqrt (rule : NanRule) (f : Fmt) (r : Rnd) (a : Nat) : FRes :=
  match nanResult rule f [a] with
  | some w => ⟨w, snanFlag f [a]⟩
  | none =>
    match unpack f a with
    | .inf false => ⟨f.infBits, 0⟩
    | .fin n m e =>
      if m = 0 then ⟨withSign f n 0, 0⟩
      else if n then invalidNan f 3 a 0
      else
        let odd := e % 2 != 0
        let m' := (if odd then 2 * m else m) * 2 ^ 160
        let e' := (if odd then e - 1 else e) - 160
        let s := isqrt m'
        finish f r false (2 * s + b2n (s * s != m')) (e' / 2 - 1)
    | _ => invalidNan f 3 a 0

/-- Whether a product is infinity times zero. -/
def infTimesZero (f : Fmt) (a b : Nat) : Bool :=
  match unpack f a, unpack f b with
  | .inf _, .fin _ m _ => decide (m = 0)
  | .fin _ m _, .inf _ => decide (m = 0)
  | _, _ => false

/-- The invalid flag of a fused multiply-add with a NaN operand: a signalling NaN sets it. IEEE 754 leaves to the implementation
whether infinity times zero plus a quiet NaN sets it too, and R64 does not choose: open (UNVERIFIED, log entry 150). -/
def fmaNanFlag (f : Fmt) (a b c : Nat) : Nat :=
  if snanFlag f [a, b, c] = 0 && infTimesZero f a b then (if Config.fmaNanInvalid then 16 else 0) else snanFlag f [a, b, c]

/-- a × b + c in the format with one rounding (R67). -/
def fFma (rule : NanRule) (f : Fmt) (r : Rnd) (a b c : Nat) : FRes :=
  match nanResult rule f [a, b, c] with
  | some w => ⟨w, fmaNanFlag f a b c⟩
  | none =>
    let prodInf := fun (s : Bool) =>
      match unpack f c with
      | .inf y => if s == y then (⟨withSign f s f.infBits, 0⟩ : FRes) else invalidNan f 4 a b
      | _ => ⟨withSign f s f.infBits, 0⟩
    match unpack f a, unpack f b with
    | .inf x, .inf y => prodInf (x != y)
    | .inf x, .fin y m _ => if m = 0 then invalidNan f 1 a b else prodInf (x != y)
    | .fin x m _, .inf y => if m = 0 then invalidNan f 1 a b else prodInf (x != y)
    | .fin n1 m1 e1, .fin n2 m2 e2 =>
      match unpack f c with
      | .inf y => ⟨withSign f y f.infBits, 0⟩
      | .fin n3 m3 e3 =>
        let s := exactSum (n1 != n2) (m1 * m2) (e1 + e2) n3 m3 e3
        if s.1 = 0 then ⟨withSign f (zeroSumSign r (n1 != n2) n3) 0, 0⟩
        else finish f r (decide (s.1 < 0)) s.1.natAbs s.2
      | _ => ⟨f.nanBits, 16⟩
    | _, _ => ⟨f.nanBits, 16⟩

/-- Order of two non-NaN values: an integer below, at or above zero. -/
def Unp.cmp : Unp → Unp → Int
  | .inf x, .inf y => if x == y then 0 else if x then -1 else 1
  | .inf x, _ => if x then -1 else 1
  | _, .inf y => if y then 1 else -1
  | .fin n1 m1 e1, .fin n2 m2 e2 => (exactSum n1 m1 e1 (!n2) m2 e2).1
  | _, _ => 0

/-- Whether either operand is NaN. -/
def fUnordered (f : Fmt) (a b : Nat) : Bool := (unpack f a).isNan || (unpack f b).isNan

/-- Equality, false on NaN; −0 and +0 compare equal (R64). -/
def fEq (f : Fmt) (a b : Nat) : Bool := !fUnordered f a b && (Unp.cmp (unpack f a) (unpack f b) == 0)

/-- Less-than, false on NaN. -/
def fLt (f : Fmt) (a b : Nat) : Bool := !fUnordered f a b && decide (Unp.cmp (unpack f a) (unpack f b) < 0)

/-- Less-or-equal, false on NaN. -/
def fLe (f : Fmt) (a b : Nat) : Bool := !fUnordered f a b && decide (Unp.cmp (unpack f a) (unpack f b) ≤ 0)

/-- Minimum (`mx = false`) or maximum: the non-NaN operand when only one is NaN (R141); of equal values the first,
of zeros of opposite sign an open choice (log entry 13). -/
def fMinMax (f : Fmt) (mx : Bool) (a b : Nat) : FRes :=
  match (unpack f a).isNan, (unpack f b).isNan with
  | true, true => ⟨quieten f a, snanFlag f [a, b]⟩
  | true, false => ⟨b, snanFlag f [a, b]⟩
  | false, true => ⟨a, snanFlag f [a, b]⟩
  | false, false =>
    let c := Unp.cmp (unpack f a) (unpack f b)
    if c = 0 then
      (if (unpack f a).neg == (unpack f b).neg then ⟨a, 0⟩
       else ⟨if Config.minMaxZeroFirst (b2n mx) a b then a else b, 0⟩)
    else ⟨if (decide (c < 0)) != mx then a else b, 0⟩

/-- num / den (den > 0) rounded to the nearest integer, ties to even: the rne of R51 and R55. -/
def rneQ (num : Int) (den : Nat) : Int :=
  let q := num.natAbs / den
  let r := num.natAbs % den
  let up := den < 2 * r || (den == 2 * r && q % 2 == 1)
  let m : Int := ((if up then q + 1 else q) : Nat)
  if num < 0 then -m else m

/-- num / den rounded to an integer in a direction (num of either sign). -/
def roundQ (r : Rnd) (num : Int) (den : Nat) : Int :=
  let neg := decide (num < 0)
  let q := num.natAbs / den
  let rem := num.natAbs % den
  let up := rem != 0 && (match r with
    | .rne => decide (den < 2 * rem) || (den == 2 * rem && q % 2 == 1)
    | .rtz => false
    | .rdn => neg
    | .rup => !neg
    | .sr k => decide (65536 ≤ rem * 65536 / den + k % 65536))
  let m : Int := ((if up then q + 1 else q) : Nat)
  if neg then -m else m

/-- A finite value as the fraction num / den. -/
def finQ (neg : Bool) (m : Nat) (e : Int) : Int × Nat :=
  let s : Int := if neg then -(m : Int) else m
  if 0 ≤ e then (s * ((2 ^ e.toNat : Nat) : Int), 1) else (s, 2 ^ (-e).toNat)

/-- num / den (den > 0) rounded once to a format with overflow to infinity. -/
def fOfQ (f : Fmt) (r : Rnd) (num : Int) (den : Nat) : Nat :=
  if num = 0 then 0
  else
    let sh := 80 + log2n den
    let a := num.natAbs * 2 ^ sh
    (finish f r (decide (num < 0)) (2 * (a / den) + b2n (a % den != 0)) (-(sh : Int) - 1)).bits

end Sys2Proof.Machine
end

