-- ==== Sys2Proof/Machine/Formats.lean ====
section
/-! DEFINITION. Conversions and block formats (file 02): R48 MX blocks, R49 integers, R50 and R51 RQ8, R52 to R57
BS16, R60 and R523 overflow, R61 to R63 stochastic rounding, and the counters of R71 that they raise. -/

namespace Sys2Proof.Machine

/-- How often each counter of Table 2.9 is raised by a piece of arithmetic (R71). -/
structure ArithCnt where
  ftzIn     : Nat := 0
  intSat    : Nat := 0
  cvtSat    : Nat := 0
  nanToInt  : Nat := 0
  mxNan     : Nat := 0
  rq8Sat    : Nat := 0
  rq8Nan    : Nat := 0
  srDemoted : Nat := 0
  gradNan   : Nat := 0
  gradInf   : Nat := 0
  badExp    : Nat := 0
  escalate  : Nat := 0
  deriving DecidableEq, Repr

/-- The sum of two counts. -/
def ArithCnt.add (a b : ArithCnt) : ArithCnt :=
  ⟨a.ftzIn + b.ftzIn, a.intSat + b.intSat, a.cvtSat + b.cvtSat, a.nanToInt + b.nanToInt, a.mxNan + b.mxNan,
   a.rq8Sat + b.rq8Sat, a.rq8Nan + b.rq8Nan, a.srDemoted + b.srDemoted, a.gradNan + b.gradNan,
   a.gradInf + b.gradInf, a.badExp + b.badExp, a.escalate + b.escalate⟩

/-- A value beside the counts its making raised. -/
structure Counted (α : Type) where
  val : α
  cnt : ArithCnt := {}
  deriving DecidableEq, Repr

/-- A counted computation over a list, counts summed in list order. -/
def Counted.mapL {α β : Type} (f : α → Counted β) : List α → Counted (List β)
  | [] => ⟨[], {}⟩
  | a :: r =>
    let x := f a
    let y := Counted.mapL f r
    ⟨x.val :: y.val, x.cnt.add y.cnt⟩

/-- The element format behind a descriptor code 0–4 (Table 4.3). -/
def fmtOfCode (c : Nat) : Option Fmt :=
  if c = 0 then some .fp32 else if c = 1 then some .bf16 else if c = 2 then some .fp16
  else if c = 3 then some .e4m3 else if c = 4 then some .e5m2 else none

/-- The width of an integer code 11–13 (Table 4.3). -/
def intOfCode (c : Nat) : Option Nat :=
  if c = 11 then some 8 else if c = 12 then some 4 else if c = 13 then some 32 else none

/-- The element format of an MX code 5–9; MXINT8 (10) has none (Table 4.3). -/
def mxFmt (c : Nat) : Option Fmt :=
  if c = 5 then some .e4m3 else if c = 6 then some .e5m2 else if c = 7 then some .e3m2
  else if c = 8 then some .e2m3 else if c = 9 then some .e2m1 else none

/-- The width in bits of one element of a format code. -/
def codeWidth (c : Nat) : Nat :=
  if c = 0 || c = 13 then 32 else if c = 1 || c = 2 then 16 else if c = 7 || c = 8 then 6
  else if c = 9 || c = 12 then 4 else 8

/-- A NaN of another format written as a NaN of `dst` with its payload left-justified and quiet (R64). That FP32 to BF16 keeps
the upper bits is R45; that the other formats' payloads line up at the top too is DEDUCED from it (log entry 152). -/
def nanMove (src dst : Fmt) (w : Nat) : Nat :=
  let neg := bit w (src.ebits + src.mbits)
  let p := w % 2 ^ src.mbits
  let p' := if src.mbits ≤ dst.mbits then p * 2 ^ (dst.mbits - src.mbits) else p / 2 ^ (src.mbits - dst.mbits)
  withSign dst neg (quieten dst ((2 ^ dst.ebits - 1) * 2 ^ dst.mbits + p'))

/-- The result of a finite overflow (Table 2.6, R523) and whether it saturated. -/
def overflowBits (ovf8 : Bool) (f : Fmt) (r : Rnd) (neg : Bool) : Nat × Bool :=
  if !(r.overInf neg) then (withSign f neg f.maxFin, true)
  else if f.width = 8 && !ovf8 then (withSign f neg f.maxFin, true)
  else (withSign f neg f.infBits, false)

/-- A value rounded to a floating-point format under Table 2.6, R61 and R523. -/
def cvtToFmt (ovf8 : Bool) (f : Fmt) (r : Rnd) (u : Unp) : Counted Nat :=
  match u with
  | .nan n _ => ⟨withSign f n f.nanBits, {}⟩
  | .inf n => ⟨withSign f n f.infBits, {}⟩
  | .fin n m e =>
    let x := roundMag f r n m e
    if x.overl then
      let o := overflowBits ovf8 f r n
      ⟨o.1, { cvtSat := b2n o.2 }⟩
    else ⟨withSign f n x.mag, {}⟩

/-- A value converted to a two's complement integer of `w` bits, as its low `w` bits (Table 2.6). -/
def cvtToInt (w : Nat) (r : Rnd) (u : Unp) : Counted Nat :=
  match u with
  | .nan _ _ => ⟨0, { nanToInt := 1 }⟩
  | .inf n => ⟨if n then 2 ^ (w - 1) else 2 ^ (w - 1) - 1, {}⟩
  | .fin n m e =>
    let q := (roundShift r n m (-e)).1
    let v : Int := if n then -(q : Int) else q
    let hi : Int := (2 ^ (w - 1) : Nat) - 1
    let c := clampI (-hi - 1) hi v
    ⟨wrap w c, { cvtSat := b2n (c != v) }⟩

/-- An integer as an exact value. -/
def unpInt (i : Int) : Unp := .fin (decide (i < 0)) i.natAbs 0

/-- The value of an element of a scalar format code 0–4 or 11–13. -/
def unpackCode (c w : Nat) : Unp :=
  match fmtOfCode c, intOfCode c with
  | some f, _ => unpack f w
  | none, some k => unpInt (sext k w)
  | none, none => .fin false 0 0

/-- FP32 to a scalar code for any unit but a steward core: Table 2.6 with the canonical NaN (R45, R60). -/
def cvtFromF32 (ovf8 : Bool) (r : Rnd) (c w : Nat) : Counted Nat :=
  match fmtOfCode c, intOfCode c with
  | some f, _ => cvtToFmt ovf8 f r (unpack .fp32 w)
  | none, some k => cvtToInt k r (unpack .fp32 w)
  | none, none => ⟨0, {}⟩

/-- A steward core's conversion from code `c` to code `d` (R142): NaN payloads are kept where R45 and R64 keep them,
and one to FP16 or FP8 is canonical (Table 2.6). -/
def cvtCore (ovf8 : Bool) (r : Rnd) (c d w : Nat) : Counted Nat :=
  match fmtOfCode c, fmtOfCode d, intOfCode d with
  | some f, some g, _ =>
    if (unpack f w).isNan && (d = 0 || d = 1) then ⟨nanMove f g w, {}⟩ else cvtToFmt ovf8 g r (unpack f w)
  | some f, none, some k => cvtToInt k r (unpack f w)
  | none, some g, _ => cvtToFmt ovf8 g r (unpackCode c w)
  | none, none, some k => cvtToInt k r (unpackCode c w)
  | _, none, none => ⟨0, {}⟩

/-- Element `i` of consecutive elements of width `w` packed from bit 0 up (R47, R49). -/
def packedElem (bytes : List Byte) (w i : Nat) : Nat :=
  let lo := w * i
  let n := leNat ((bytes.drop (lo / 8)).take ((lo % 8 + w + 7) / 8))
  n / 2 ^ (lo % 8) % 2 ^ w

/-- Elements of width `w` packed from bit 0 up, as one number (R47). -/
def packElems (w : Nat) : List Nat → Nat
  | [] => 0
  | x :: r => x % 2 ^ w + 2 ^ w * packElems w r

/-- The exact value of an MX element of code 5–10 under a scale byte (R46); scale 0xFF marks NaN. -/
def mxElem (c scale w : Nat) : Unp :=
  if scale = 255 then .nan (Config.mxNanSign c) 0
  else
    let u := match mxFmt c with
      | some f => unpack f w
      | none => let q := sext 8 w; Unp.fin (decide (q < 0)) q.natAbs (-6)
    match u with
    | .fin n m e => .fin n m (e + (scale : Int) - 127)
    | x => x

/-- emax of R48. -/
def mxEmax (c : Nat) : Int :=
  if c = 5 then 8 else if c = 6 then 15 else if c = 7 then 4 else if c = 10 then 0 else 2

/-- One element of R48: x / 2^X rounded to nearest even and saturated to the largest finite magnitude, which cvt_sat counts
(R60). -/
def mxEncElem (c : Nat) (X : Int) (u : Unp) : Counted Nat :=
  match u with
  | .fin n m e =>
    match mxFmt c with
    | some f =>
      let x := roundMag f .rne n m (e - X)
      ⟨withSign f n (if x.overl then f.maxFin else x.mag), { cvtSat := b2n x.overl }⟩
    | none =>
      let q := (roundShift .rne n m (-(e - X + 6))).1
      let v : Int := if n then -(q : Int) else q
      ⟨wrap 8 (clampI (-127) 127 v), { cvtSat := b2n (decide (127 < q)) }⟩
  | _ => ⟨0, {}⟩

/-- 32 FP32 values as an MX block: the scale byte and the element codes (R48). The codes of a block with scale 0xFF are open
(UNVERIFIED, log entry 151). -/
def mxEncode (c : Nat) (xs : List Nat) : Counted (Nat × List Nat) :=
  let us := xs.map (unpack .fp32)
  if us.any (fun u => match u with | .fin .. => false | _ => true) then
    ⟨(255, (upTo xs.length).map (Config.mxNanCode c)), { mxNan := 1 }⟩
  else
    let tops : List Int := us.filterMap (fun u => match u with
      | .fin _ m e => if m = 0 then none else some ((log2n m : Int) + e)
      | _ => none)
    match tops with
    | [] => ⟨(0, xs.map (fun _ => 0)), {}⟩
    | t :: r =>
      let X := clampI (-127) 127 (r.foldl max t - mxEmax c)
      let q := Counted.mapL (mxEncElem c X) us
      ⟨((X + 127).toNat, q.val), q.cnt⟩

/-- The RQ8 element step of R51 for scale bits `s` (FP16) and zero point `z`, exactly (also VCVTB, R143). -/
def rq8Elem (s : Nat) (z : Int) (x : Nat) : Counted Nat :=
  match unpack .fp32 x, unpack .fp16 s with
  | .fin n m e, .fin _ ms es =>
    if ms = 0 then ⟨wrap 8 z, { rq8Nan := 0 }⟩
    else
      let sh := e - es
      let num : Int := if 0 ≤ sh then (m * 2 ^ sh.toNat : Nat) else (m : Int)
      let den := if 0 ≤ sh then ms else ms * 2 ^ (-sh).toNat
      let v := rneQ (if n then -num else num) den + z
      let c := clampI (-128) 127 v
      ⟨wrap 8 c, { rq8Sat := b2n (c != v) }⟩
  | _, _ => ⟨wrap 8 z, { rq8Nan := 1 }⟩

/-- s × (q − z) in FP32, rounded to nearest even (R50). Under an infinite scale the product is the infinity or the NaN
of FP32 arithmetic, and under a NaN a NaN: DESIGN CHOICE (log entry 28). -/
def rq8Dec (s : Nat) (z : Int) (q : Nat) : Nat :=
  match unpack .fp16 s with
  | .fin n m e =>
    let d := sext 8 q - z
    (finish .fp32 .rne (n != decide (d < 0)) (m * d.natAbs) e).bits
  | .inf n => let d := sext 8 q - z; if d = 0 then withSign .fp32 (Config.invalidNanSign 1 s q) Fmt.fp32.nanBits
              else withSign .fp32 (n != decide (d < 0)) Fmt.fp32.infBits
  | .nan n _ => withSign .fp32 n Fmt.fp32.nanBits

/-- The value of a finite FP32 pattern in units of 2^−149, as an integer; 0 for the others. -/
def f32Units (x : Nat) : Int :=
  match unpack .fp32 x with
  | .fin n m e => let v : Int := (m * 2 ^ (e + 149).toNat : Nat); if n then -v else v
  | _ => 0

/-- The smallest FP16 value at or above num / den ≥ 0: its bits; infinity above 65,504 (fp16_round_up of R51). -/
def fp16RoundUp (num den : Nat) : Nat :=
  if num = 0 then 0
  else
    let a := num * 2 ^ 80
    let x := roundMag .fp16 .rup false (2 * (a / den) + b2n (a % den != 0)) (-81)
    if x.overl then Fmt.fp16.infBits else x.mag

/-- FP16 bits of 1.0 and of 65,504. -/
def fp16One : Nat := 15 * 1024
def fp16Max : Nat := 31743

/-- An FP32 row written in RQ8: SCALE bits, ZERO and the element codes (R51). -/
def rq8Encode (xs : List Nat) : Counted (Nat × Nat × List Nat) :=
  let us := xs.map f32Units
  let lo := us.foldl min 0
  let hi := us.foldl max 0
  let s0 := fp16RoundUp (hi - lo).toNat (255 * 2 ^ 149)
  let s := if s0 = 0 then fp16One else if fp16Max < s0 then fp16Max else s0
  let sq : Nat × Int := match unpack .fp16 s with
    | .fin _ m e => (m, e)
    | _ => (1, 0)
  -- −128 − lo / s with lo in units of 2^−149 and s = m × 2^e
  let den : Nat := sq.1 * 2 ^ (sq.2 + 149).toNat
  let z := clampI (-128) 127 (rneQ (-128 * (den : Int) - lo) den)
  let q := Counted.mapL (rq8Elem s z) xs
  ⟨(s, wrap 8 z, q.val), q.cnt.add { rq8Sat := b2n (fp16Max < s0) }⟩

/-- The bytes of an RQ8 row (Table 2.3). -/
def rq8Bytes (r : Nat × Nat × List Nat) : List Byte :=
  leBytes 2 r.1 ++ [BitVec.ofNat 8 r.2.1, 0#8] ++ r.2.2.map (BitVec.ofNat 8)

/-- The BS16 NaN marker (R53). -/
def bsMarker : Int := -32768

/-- A BS16 block (R52): header fields and 32 element codes. -/
structure BsBlock where
  e      : Nat
  resc   : Bool
  nanP   : Bool
  hops   : Nat
  elems  : List Int
  deriving DecidableEq, Repr

/-- quantize of R55: a number, or none for MARKER, which is no number: a finite value that rounds to −32,768 is added as one. -/
def bsQuantize (E : Nat) (x : Nat) : Counted (Option Int) :=
  match unpack .fp32 x with
  | .nan _ _ => ⟨none, { gradNan := 1 }⟩
  | .inf _ => ⟨none, { gradInf := 1 }⟩
  | .fin n m e =>
    let q := (roundShift .rne n m (-(e + 141 - (E : Int)))).1
    ⟨some (if n then -(q : Int) else q), {}⟩

/-- The least k up to `fuel` at which every unmarked sum fits (R55). -/
def bsWiden : Nat → Nat → List (Option Int) → Nat
  | 0, k, _ => k
  | fuel + 1, k, ss =>
    if ss.any (fun s => match s with
      | some v => decide (32767 < (rneQ v (2 ^ k)).natAbs)
      | none => false) then bsWiden fuel (k + 1) ss
    else k

/-- hop_add of R55 after its quantize: the contribution's codes and what they counted. -/
def bsHopAddQ (b : BsBlock) (qs : Counted (List (Option Int))) : Counted BsBlock :=
  let sums : List (Option Int) := List.zipWith
    (fun a q => if a == bsMarker then none else q.map (a + ·)) b.elems qs.val
  let k0 := bsWiden 300 0 sums
  let k := if 254 < b.e + k0 then 254 - b.e else k0
  let out := Counted.mapL (fun s => match s with
    | none => (⟨bsMarker, {}⟩ : Counted Int)
    | some v =>
      let r := rneQ v (2 ^ k)
      if 32767 < r.natAbs then ⟨bsMarker, { gradInf := 1 }⟩ else ⟨r, {}⟩) sums
  ⟨{ e := b.e + k, resc := b.resc || decide (0 < k), nanP := out.val.any (· == bsMarker),
     hops := b.hops + 1, elems := out.val },
   (qs.cnt.add out.cnt).add { escalate := b2n (decide (0 < k)) }⟩

/-- hop_add of R55; a contribution without a value is passed as MARKER, not quantized (R254). -/
def bsHopAdd (b : BsBlock) (xs : List (Option Nat)) : Counted BsBlock :=
  bsHopAddQ b (Counted.mapL (fun x => match x with
    | some v => bsQuantize b.e v
    | none => ⟨none, {}⟩) xs)

/-- The FP32 value of an element code (R53); markers decode as NaN (R57). An exponent of 255, which Table 2.4 does
not count as valid, takes the same formula: DESIGN CHOICE (log entry 28). -/
def bsDecode (E : Nat) (m : Int) : Nat :=
  if m = bsMarker then Fmt.fp32.nanBits
  else if m = 0 then 0
  else (finish .fp32 .rne (decide (m < 0)) m.natAbs ((E : Int) - 141)).bits

/-- The 66 bytes of a block on the wire, big-endian (R52). -/
def bsBytes (b : BsBlock) : List Byte :=
  BitVec.ofNat 8 b.e :: BitVec.ofNat 8 (128 * b2n b.resc + 64 * b2n b.nanP + b.hops % 64) ::
    b.elems.flatMap (fun m => beBytes 2 (wrap 16 m))

/-- A block read from its 66 bytes (R52). -/
def bsOfBytes (l : List Byte) : BsBlock :=
  let h := (byteAt l 1).toNat
  { e := (byteAt l 0).toNat, resc := bit h 7, nanP := bit h 6, hops := h % 64,
    elems := (upTo 32).map (fun i => sext 16 (beAt l (2 + 2 * i) 2)) }

/-- A block received with E = 0xFF becomes 32 markers at the agreed exponent (R54). -/
def bsAccept (agreed : Nat) (b : BsBlock) : Counted BsBlock :=
  if b.e = 255 then
    ⟨{ b with e := agreed, nanP := true, elems := List.replicate 32 bsMarker }, { badExp := 1 }⟩
  else ⟨b, {}⟩

/-- mix of R62, modulo 2^64. -/
def srMix (z : Word64) : Word64 :=
  let z := z + 0x9E3779B97F4A7C15#64
  let z := (z ^^^ (z >>> 30)) * 0xBF58476D1CE4E5B9#64
  let z := (z ^^^ (z >>> 27)) * 0x94D049BB133111EB#64
  z ^^^ (z >>> 31)

/-- The random value r of an element (R62). -/
def srRandom (stepId objectKey seedMix elem : Nat) : Nat :=
  let seed := srMix (BitVec.ofNat 64 stepId ^^^ BitVec.ofNat 64 (objectKey * 2 ^ 32) ^^^ BitVec.ofNat 64 seedMix)
  (srMix (seed + BitVec.ofNat 64 elem)).toNat % 65536

end Sys2Proof.Machine
end

