-- ==== Sys2Proof/Machine/Table.lean ====
section
/-! DEFINITION. Sparse tables keyed by Nat in one canonical form: keys strictly rising, no entry equal to what an
unlisted key reads as. Memories, register banks and counters are such tables, so equal contents are equal data. -/

namespace Sys2Proof.Machine

/-- A sparse table: the listed keys, strictly rising, with their values. -/
abbrev Tab (α : Type) := List (Nat × α)

/-- What the table reads at `k`; an unlisted key reads `d`. -/
def Tab.get {α : Type} (d : α) : Tab α → Nat → α
  | [], _ => d
  | (a, x) :: r, k => if a = k then x else if k < a then d else Tab.get d r k

/-- The table with `k` reading `v`; writing the default removes the entry. -/
def Tab.put {α : Type} [DecidableEq α] (d : α) : Tab α → Nat → α → Tab α
  | [], k, v => if v = d then [] else [(k, v)]
  | (a, x) :: r, k, v =>
    if k < a then (if v = d then (a, x) :: r else (k, v) :: (a, x) :: r)
    else if a = k then (if v = d then r else (k, v) :: r)
    else (a, x) :: Tab.put d r k v

/-- Every listed key is above `lo` and rising, and no listed value is the default. -/
def Tab.above {α : Type} [DecidableEq α] (d : α) : Nat → Tab α → Bool
  | _, [] => true
  | lo, (a, x) :: r => decide (lo ≤ a) && decide (x ≠ d) && Tab.above d (a + 1) r

/-- The canonical form of a table whose unlisted keys read `d`. -/
def Tab.wf {α : Type} [DecidableEq α] (d : α) (t : Tab α) : Bool := Tab.above d 0 t

/-- The table without the keys of `[lo, hi)`. -/
def Tab.dropRange {α : Type} (lo hi : Nat) (t : Tab α) : Tab α :=
  t.filter (fun e => e.1 < lo || hi ≤ e.1)

/-- The listed keys for which `p` holds. -/
def Tab.keys {α : Type} (t : Tab α) : List Nat := t.map (fun e => e.1)

/-- A byte memory: unlisted addresses read 0 (log entry 2). -/
abbrev Memory := List Host.Cell

/-- The byte at an address. -/
def Memory.read (m : Memory) (a : Nat) : Byte := Tab.get 0#8 m a

/-- The memory with one byte written. -/
def Memory.write (m : Memory) (a : Nat) (b : Byte) : Memory := Tab.put 0#8 m a b

/-- The canonical form of a memory. -/
abbrev Memory.wf (m : Memory) : Bool := Tab.wf 0#8 m

/-- `n` bytes from address `a` up. -/
def Memory.readN (m : Memory) (a : Nat) : Nat → List Byte
  | 0 => []
  | n + 1 => m.read a :: Memory.readN m (a + 1) n

/-- The bytes `bs` written from address `a` up. -/
def Memory.writeN (m : Memory) (a : Nat) : List Byte → Memory
  | [] => m
  | b :: r => Memory.writeN (m.write a b) (a + 1) r

/-- The memory with the bytes of `[a, a+n)` zeroed. -/
def Memory.zeroRange (m : Memory) (a n : Nat) : Memory := Tab.dropRange a (a + n) m

end Sys2Proof.Machine
end

