-- ==== Sys2Proof/Machine/State.lean ====
section
/-! DEFINITION. The state of the module as plain data (file 00 to file 19): every register, memory, queue, table, counter
and flag that the spec gives it, the waiting commands, and the state after reset. -/

namespace Sys2Proof.Machine

/-- The three variants (R1); VARIANT reads 1, 2 and 3 (Table 0.2). -/
inductive Variant where
  | x | t | s
  deriving DecidableEq, Repr

/-- The module's power states (file 19, R508): OFF, AUX (MC and flash powered) and ON. -/
inductive Power where
  | off | aux | on
  deriving DecidableEq, Repr

/-- One raised event (R16, Table 16.7): code, partition (0xFF for a device event), tick and arguments. -/
structure Event where
  code : Nat
  part : Nat
  tick : Nat
  arg0 : Nat
  arg1 : Nat
  deriving DecidableEq, Repr

/-! ### Engines, cores, fences and barriers (files 04 and 05) -/

/-- A queued descriptor or command: its 64 bytes as one 512-bit word, and who pushed it: a steward core, or 256 plus
the partition of a host that pushed through BAR2 (R114, R423). -/
structure Queued where
  word : Vec
  by_  : Nat
  deriving DecidableEq, Repr

/-- What an engine runs (R110 to R114): the descriptor and the completion code it will report. -/
structure Running where
  item : Queued
  code : Nat
  deriving DecidableEq, Repr

/-- A matrix engine (R101, R115 to R118): its queue, the descriptor that runs, the next one where it streams behind it and a
third one whose first stationary tile is loaded (R125); the two halves of the stationary buffer, each 128 × 128 elements of B
at 128 × k + n, and which one the next load takes; the accumulator sets ACC0 and ACC1, each 128 × 128 values at 128 × i + j,
and which one the next output tile takes; its registers. -/
structure Engine where
  queue    : List Queued := []
  run      : Option Running := none
  ahead    : Option Running := none
  next     : Option Queued := none
  half0    : Tab Nat := []
  half1    : Tab Nat := []
  loadOdd  : Bool := false
  acc0     : Tab Nat := []
  acc1     : Tab Nat := []
  accOdd   : Bool := false
  overflow : Bool := false
  errCode  : Nat := 0
  errTag   : Nat := 0
  errValid : Bool := false
  errMore  : Bool := false
  headTag  : Nat := 0
  deriving DecidableEq, Repr

/-- STATE of a steward core (Table 5.11). -/
inductive CoreMode where
  | halted | running | waiting | faulted
  deriving DecidableEq, Repr

/-- What a waiting core waits for (R147, R151 to R153). -/
inductive Wait where
  | edge
  | tick (target : Nat)
  | fence (f v : Nat)
  | bar (b : Nat)
  | recv (dst : BitVec 5)
  deriving DecidableEq, Repr

/-- A steward core (Table 5.1, Tables 5.9 to 5.12). Local memory is in `State.lmem`. -/
structure Core where
  x         : Vector Word64 32 := Vector.replicate 32 0#64
  v         : Vector Vec 32 := Vector.replicate 32 0#512
  p         : Vector Word64 8 := Vector.replicate 8 0#64
  pc        : BitVec 18 := 0#18
  epc       : BitVec 18 := 0#18
  cause     : BitVec 10 := 0#10
  eaddr     : Word64 := 0#64
  tvec      : BitVec 18 := 0#18
  frm       : BitVec 3 := 0#3
  fflags    : BitVec 5 := 0#5
  waitLimit : Word64 := 0#64
  ovf       : Bool := false
  inh       : Bool := false
  instret   : Word64 := 0#64
  mode      : CoreMode := .halted
  wait      : Option Wait := none
  waited    : Nat := 0
  notify    : Bool := false
  lastCause : BitVec 4 := 0#4
  pcInit    : BitVec 16 := 0#16
  mbx       : List Word64 := []
  deriving DecidableEq, Repr

/-- A barrier (Table 5.8): participant count, arrivals of the round. Waiting cores hold `Wait.bar`. -/
structure Bar where
  count   : Nat := 0
  arrived : Nat := 0
  deriving DecidableEq, Repr

/-! ### Steward DMA (file 06) -/

/-- One register set of a channel (Table 6.4). -/
structure DmaSet where
  src    : Word64 := 0#64
  dst    : Word64 := 0#64
  len    : BitVec 40 := 0#40
  mode   : Word32 := 0#32
  burst  : BitVec 7 := 64#7
  reqSel : Byte := 255#8
  op     : Word32 := 0#32
  fill   : Word64 := 0#64
  deriving DecidableEq, Repr

/-- STATE of a channel (Table 6.5). -/
inductive ChanMode where
  | idle | running | held
  deriving DecidableEq, Repr

/-- A steward DMA channel (Tables 6.3 to 6.5). `next` is the next burst to issue, `outst` the bursts issued and not yet
complete, `owner` who programmed it (0–3 a host's partition, 4 the MC, 5 a core), `stop` the code of a set that stops early
(R170, R171), `badAt` the first offset of the burst that met poison, `mism` and `mismFirst` the running COMPARE's tally.
`armOwner` who armed the shadow set; `crossed`: the channel's last edge was a hand-over edge (Table 6.8); `seen` the requesters
that have read SHADOW_ARMED = 0 since (R177); `reqd`: a request has met the channel's last edge (R172). -/
structure Chan where
  act        : DmaSet := {}
  shw        : DmaSet := {}
  mode       : ChanMode := .idle
  armed      : Bool := false
  lateWrite  : Bool := false
  shadowBusy : Bool := false
  activeBusy : Bool := false
  mismatch   : Bool := false
  code       : Nat := 0
  pend       : Nat := 0
  progress   : Word64 := 0#64
  count      : Word64 := 0#64
  first      : Word64 := 0#64
  next       : Nat := 0
  outst      : List Nat := []
  owner      : Nat := 5
  armOwner   : Nat := 5
  stop       : Nat := 0
  badAt      : Option Nat := none
  fenceBad   : Bool := false
  mism       : Nat := 0
  mismFirst  : Option Nat := none
  crossed    : Bool := false
  seen       : List Nat := []
  reqd       : Bool := false
  deriving DecidableEq, Repr

/-! ### Memory tiers (file 07) -/

/-- A granule of a tier: T0 lines of 128 bytes (address counts both tiles' scratch, 768 MiB apart), T1 and T2 granules
of 256 bytes (R199). -/
structure Granule where
  tier : Nat
  addr : Nat
  deriving DecidableEq, Repr

/-- A poisoned granule (R201): when it was found, by scrub or not, whether a repair runs and is late, whether it is
lost (R204). -/
structure Poison where
  gran     : Granule
  tick     : Nat
  scrub    : Bool
  repair   : Bool
  late     : Bool
  lost     : Bool
  deriving DecidableEq, Repr

/-- A record of the UE log (Table 7.11). -/
structure UeRec where
  tick    : Nat
  tier    : Nat
  outcome : Nat
  part    : Nat
  flags   : Nat
  object  : Nat
  addr    : Nat
  ns      : Nat
  deriving DecidableEq, Repr

/-- What this model keeps of the memory tiers beside their bytes. `stall`: granules under repair on which a training-side
read waits in FX7 compatibility mode (R206). `lmBad`: words of local memory that a scrub found uncorrectable (R495). -/
structure Mem where
  poison   : List Poison := []
  ueLog    : List UeRec := []
  objects  : Tab (Option Vec) := []
  t0Scrub  : Nat := 0
  t1Patrol : Nat := 0
  boot     : Nat := 0
  cxlWidth : Tab Nat := []
  cxlDown  : List Nat := []
  hbmFail  : List Nat := []
  stall    : List Granule := []
  lmBad    : List Nat := []
  deriving DecidableEq, Repr
/-! ### Host ports and partitions (file 15) -/

/-- A host completion queue (Table 15.8). -/
structure Hcq where
  base    : Word64 := 0#64
  size    : Nat := 0
  head    : Nat := 0
  vector  : Nat := 0
  irqEn   : Bool := false
  en      : Bool := false
  holdoff : Nat := 0
  tail    : Nat := 0
  ovf     : Bool := false
  phase   : Bool := true
  deriving DecidableEq, Repr

/-- A fence watch (R430). -/
structure Watch where
  fence : Nat := 0
  tile  : Nat := 0
  en    : Bool := false
  hcq   : Nat := 0
  value : Word32 := 0#32
  deriving DecidableEq, Repr

/-- An MSI-X table entry (PCIe; R428): masked after reset. `waits`: the sources, each with its HOLDOFF, whose raises its pending
bit stands for. -/
structure MsixVec where
  addr    : Word64 := 0#64
  data    : Word32 := 0#32
  masked  : Bool := true
  pending : Bool := false
  waits   : List (Nat × Nat) := []
  deriving DecidableEq, Repr

/-- A queue's interrupt register (Table 15.5). -/
structure QIrq where
  vector  : Nat := 0
  en      : Bool := false
  holdoff : Nat := 0
  deriving DecidableEq, Repr

/-- The holdoff of an interrupt source (R428): running, with a raise coalesced into it, and that raise's vector (2,048 ×
partition + v). -/
structure Holdoff where
  running : Bool := false
  raised  : Bool := false
  vec     : Nat := 0
  deriving DecidableEq, Repr

/-- A partition's mailbox registers and buffers (Table 15.9). `discard`: the response is to be dropped (R436). -/
structure Mailbox where
  busy    : Bool := false
  done    : Bool := false
  overrun : Bool := false
  vector  : Nat := 0
  irqEn   : Bool := false
  discard : Bool := false
  req     : Memory := []
  resp    : List Byte := []
  deriving DecidableEq, Repr

/-- An endpoint P0a, P0b, P1a or P1b (R416, R417, R435): link up, Bus Master Enable, rate in GT/s and width. -/
structure Endpoint where
  up    : Bool := false
  bme   : Bool := false
  rate  : Nat := 0
  width : Nat := 0
  deriving DecidableEq, Repr

/-- What the clearing of a partition covers (R421): bytes of a tier, a core's local memory, fences on both tiles, and the DMA
channels whose outstanding bursts it waits for. -/
inductive Zone where
  | bytes (tier addr len : Nat)
  | core (k : Nat)
  | fences (first n : Nat)
  | chan (ch : Nat)
  deriving DecidableEq, Repr

/-- PT_STATE of a partition (Table 15.2). -/
inductive PtState where
  | disabled | clearing | enabled
  deriving DecidableEq, Repr

/-- The host side: partitions by number, endpoints by code 1–4, completion queues (16 × partition + m), watches
(64 × partition + w), MSI-X vectors (2,048 × partition + v), queue interrupts (queue number, transmit from 4,096),
holdoffs by source (queue number; 8,192 + 16 × partition + m for a completion queue), mailboxes by partition, and from 4
by endpoint while the device holds (R451); `bifur` the port modes in force; `reads` the reads through BAR4 that wait for a
repair, oldest first: partition, offset and length (R206); `zones` what is zeroed at the end of a partition's clearing (R421);
`perst` bit n while the reset input of host port n is asserted (R514). -/
structure HostSt where
  pt       : Tab PtState := []
  endpts   : Tab Endpoint := []
  hcq      : Tab Hcq := []
  watch    : Tab Watch := []
  msix     : Tab MsixVec := []
  qirq     : Tab QIrq := []
  hold     : Tab Holdoff := []
  mbx      : Tab Mailbox := []
  bifur    : Tab Nat := []
  reads    : List (Nat × Nat × Nat) := []
  zones    : Tab (List Zone) := []
  perst    : Nat := 0
  deriving DecidableEq, Repr
/-! ### Ticks and the step schedule (file 03) -/

/-- The tick generator (R72 to R79). `len` is the length in REFCLK of the tick now open, `adjust` the correction the
next tick takes, `noBeacon` the ticks in a row without an upstream beacon, `got` whether one came in the tick now open,
`pulse` whether a TICK_IN pulse was accepted for the next edge, `due` the beacons of the tick not sent yet, by their PHASE.
`edges` counts the tick edges since reset, the base of every instant, and `seen` is the tick number at the last of them (R151).
-/
structure Clk where
  tick     : Nat := 0
  len      : Nat := 160
  adjust   : Int := 0
  noBeacon : Nat := 0
  holdover : Bool := false
  pulse    : Bool := false
  got      : Bool := false
  due      : Option (List Nat) := none
  edges    : Nat := 0
  seen     : Nat := 0
  deriving DecidableEq, Repr

/-- The four kinds of decision window (R80, Table 3.3). -/
inductive WinKind where
  | gate1 | deadline | gate2 | vote
  deriving DecidableEq, Repr

/-- A decision window (R80 to R83): its sample edge, the flags this module sends, what it has received, and whether
TAMP_OK still holds. `links` were UP at t_s; `okLinks` have delivered a beacon of tick t_s with TAMP_OK. -/
structure Window where
  kind    : WinKind
  ts      : Nat
  slip    : Bool
  abort   : Bool
  cause   : Nat
  slipRx  : Bool
  abortRx : Bool
  ready   : Bool
  allOk   : Bool
  anyRx   : Bool
  links   : List Nat
  okLinks : List Nat
  deriving DecidableEq, Repr

/-- The step schedule (R84 to R98). `budgets` and the limits are those in force (R86); `origin` is the edge from which
the running attempt's planned edges count, `withIngest` whether it runs INGEST; `edge` is the edge at which the present
phase began, `overran` whether its overrun is counted; `sample` the edge of the next window's sample; `active` whether a
step runs, `armed` whether a start is awaited, `stopping` an applied SCHED_ENABLE = 0 (R88); `slipped` the windows of the gate
decided SLIP; `cause` the abort cause held against Gate 2 (R91); `named` the ranks that a REPORT names beside COLL_MISSING_LOG
(R292); `pub` the edge t_d + 6 of a commit that has been decided (R95, R97). -/
structure Sched where
  state      : Nat := 0
  repeats    : Nat := 0
  lastCause  : Nat := 0
  active     : Bool := false
  armed      : Bool := false
  budgets    : List Nat := [0, 0, 0, 0, 0, 0, 0]
  lag        : Nat := 40
  slipLimit  : Nat := 8
  repLimit   : Nat := 3
  origin     : Nat := 0
  withIngest : Bool := false
  edge       : Nat := 0
  overran    : Bool := false
  slipped    : Nat := 0
  window     : Option Window := none
  cause      : Nat := 0
  stopping   : Bool := false
  sample     : Nat := 0
  named      : List Nat := []
  pub        : Option Nat := none
  deriving DecidableEq, Repr
/-! ### Fabric links (file 10) -/

/-- STATE of a link (Table 10.7). -/
inductive LinkMode where
  | disabled | unused | down | training | up | refused | failed
  deriving DecidableEq, Repr

/-- A DATA frame kept until it is acknowledged (R283): its SEQ, the frame and its CREDIT_VC and CREDIT fields. -/
structure Sent where
  seq    : Nat
  frame  : Frame
  vc     : Nat
  credit : Nat
  deriving DecidableEq, Repr

/-- A link (R278 to R285). `win` holds the frames sent and not acknowledged, oldest first; `queue` the
frames waiting by virtual channel; `held` for how many ticks each channel's head has been held; `credit` the units held
for each channel and `ret` those to give back; `episodes` resend episodes in a row at `episodeSeq`; `noAck` frames
accepted since the last acknowledgement; `rr` the pair whose turn is next; `oldWidth` the width before a retrain; `beacon`: a
beacon has come in the tick now open; `fresh`: the link came UP for the first time in it, so that none is due; `guardHeld`
the channels whose head the guard has held in the tick now open (R73). -/
structure Link where
  mode       : LinkMode := .disabled
  width      : Nat := 0
  good       : Nat := 0
  used       : Nat := 0
  partner    : Nat := 0
  delay      : Nat := 0
  oldWidth   : Nat := 0
  txSeq      : Nat := 0
  win        : List Sent := []
  queue      : Tab (List Frame) := []
  held       : Tab Nat := []
  credit     : List Nat := [0, 0, 0, 0, 0, 0, 0, 0]
  ret        : List Nat := [0, 0, 0, 0, 0, 0, 0, 0]
  rr         : Nat := 0
  rxExp      : Nat := 0
  nak        : Bool := false
  noAck      : Nat := 0
  lastAck    : Nat := 255
  episodes   : Nat := 0
  episodeSeq : Nat := 256
  beacon     : Bool := false
  fresh      : Bool := false
  guardHeld  : List Nat := []
  deriving DecidableEq, Repr

/-- The re-map under way (R291 to R295): t_r, reports and confirmations by rank, the absent set computed, and whether
this module leaves or is fenced. -/
structure Remap where
  tr       : Nat := 0
  reports  : List (Nat × Bool × List Nat × List Nat) := []
  confirms : List (Nat × Nat) := []
  absent   : List Nat := []
  computed : Bool := false
  active   : Bool := false
  resume   : Option Nat := none
  deriving DecidableEq, Repr

/-- The fabric: links, frames waiting for a direction without a trained link (direction, ticks held), whether this module
leaves the pod or is fenced, whether LEAVING was sent or received in the window, the absent ranks in force, the re-map; by
link the uncorrectable codewords of the last 1,024-tick interval that had one, with its number (R280), and the ticks in a row
without a beacon, up to 16 (R292); and the packets of each slot's list that have been passed on in the attempt (R289). -/
structure Fab where
  links   : Tab Link := []
  waiting : List (Nat × Nat × Frame) := []
  leaving : Bool := false
  leaveTx : Bool := false
  leaveRx : Bool := false
  fenced  : Bool := false
  absent  : List Nat := []
  remap   : Remap := {}
  uncorr  : Tab (Nat × Nat) := []
  silent  : Tab Nat := []
  spread  : Tab Nat := []
  deriving DecidableEq, Repr
/-! ### Embedding units (file 08) -/

/-- One row of a table as the fabric and the caches name it. -/
structure RowKey where
  part  : Nat
  table : Nat
  shard : Nat
  slot  : Nat
  deriving DecidableEq, Repr

/-- An exchange entry (R225): the row, the sending rank and DIM FP32 gradient elements. -/
structure ExchEnt where
  shard : Nat
  slot  : Nat
  src   : Nat
  grads : List Nat
  deriving DecidableEq, Repr

/-- KIND of a staged record (R231). -/
inductive StageKind where
  | own | mirror | replica
  deriving DecidableEq, Repr

/-- A staged record (R231): its table, kind, row, the object it is destined for, its sending rank, its bytes, whether
its home is in T2, whether it is not to be published any more (R234), and its offset in the stage object. -/
structure StageRec where
  part  : Nat
  table : Nat
  kind  : StageKind
  shard : Nat
  slot  : Nat
  obj   : Nat
  src   : Nat
  bytes : List Byte
  t2    : Bool
  done  : Bool
  pos   : Nat
  deriving DecidableEq, Repr

/-- What a table holds in a step (R225 to R230): send and receive halves, END records received with the number of entries that
each announces, LAST seen, whether its
entries are sent, its APPLY done, its updates discarded by the NaN policy. -/
structure TblStep where
  send    : List ExchEnt := []
  recv    : List ExchEnt := []
  ends    : List (Nat × Nat) := []
  last    : Bool := false
  sent    : Bool := false
  applied : Bool := false
  dropped : Bool := false
  deriving DecidableEq, Repr

/-- What an EU runs: the command, its code, the remote rows still awaited and those that have come (none: unavailable)
with the tick each was asked for, the mirror records and the discard not yet acknowledged, and whether its work is done. -/
structure EuRun where
  item    : Queued
  code    : Nat
  need    : List (RowKey × Nat) := []
  got     : List (RowKey × Option (List Byte)) := []
  acks    : List (Nat × RowKey) := []
  discard : List (Nat × Nat) := []
  ready   : Bool := false
  deriving DecidableEq, Repr

/-- An embedding unit (Table 8.4). -/
structure Eu where
  queue    : List Queued := []
  run      : Option EuRun := none
  overflow : Bool := false
  errCode  : Nat := 0
  errTag   : Nat := 0
  errValid : Bool := false
  errMore  : Bool := false
  headTag  : Nat := 0
  deriving DecidableEq, Repr

/-- A line of the row cache (R235): its T2 granule, its last use, the COMMITTED edges for which it stays protected, and
whether a PREFETCH filled it. -/
structure RcLine where
  addr : Nat
  used : Nat
  prot : Nat
  pre  : Bool
  deriving DecidableEq, Repr

/-- An entry of the crema cache (R237): its key, PUB_EPOCH, value part and last hit. -/
structure CremaLine where
  key   : RowKey
  epoch : Nat
  value : List Byte
  used  : Nat
  deriving DecidableEq, Repr

/-- A hot-row candidate (R238). -/
structure HotCand where
  key   : RowKey
  count : Nat
  deriving DecidableEq, Repr

/-- The embedding side: table descriptors (4,096 × partition + index), what tables hold in the step, the stage in order,
caches (row cache 16 × set + way, crema 8 × set + way), candidates (4,096 × CT + place), insertions put off to
COMMITTED, the use clock of the caches, samples masked in the attempt (partition × 2^40 + mask byte address), whether a
SCATTER_ADD found the send half full or a record found no room in the stage, and records to publish after a repair. -/
structure Emb where
  tables   : Tab (Option Vec) := []
  steps    : Tab TblStep := []
  stage    : List StageRec := []
  rowCache : Tab (Option RcLine) := []
  crema    : Tab (Option CremaLine) := []
  hot      : Tab (Option HotCand) := []
  deferred : List RowKey := []
  useClock : Nat := 0
  masked   : List Nat := []
  full     : Bool := false
  stageFull : Bool := false
  late     : List StageRec := []
  deriving DecidableEq, Repr
/-! ### Tree engine banks (file 14) -/

/-- The model banks (R405 to R410): the active bank, BANK_SEQ, the non-active bank's state (0 WRITABLE, 1 CHECKING,
2 RETIRING), the models damaged (bank, place in the model directory, word) and the tree-store words with an uncorrectable
error. -/
structure TreeSt where
  active  : Nat := 0
  seq     : Nat := 0
  mode    : Nat := 0
  damaged : List (Nat × Nat × Nat) := []
  bad     : List Nat := []
  deriving DecidableEq, Repr

/-! ### Collectives (file 09) -/

/-- What a position of this module holds of one block in one stage (R252 to R256): `rank` is the position's rank, its
own or an absent rank's it stands in for; `stage` 0 X, 1 Y, 2 Z, and 3 to 5 the same in the allgather. `mx` is the
maximum so far, `fin` the agreed one, `gotR`, `gotA` and `gotH` the units received, `hole` the rank a hole names, `held`
the unit to pass on and `res` the complete result. -/
structure CollBlk where
  rank  : Nat
  part  : Nat
  coll  : Nat
  stage : Nat
  block : Nat
  mx    : Nat := 0
  fin   : Option Nat := none
  gotR  : Bool := false
  gotA  : Bool := false
  gotH  : Bool := false
  hole  : Option Nat := none
  held  : List Byte := []
  res   : Option (List Byte) := none
  deriving DecidableEq, Repr

/-- What the decode tick found of a collective's own shard (R263, R265), with the ranks that holes of it name (R262). -/
structure CollDec where
  part : Nat
  coll : Nat
  nans : Nat
  maxE : Nat
  esc  : Bool
  holes : List Nat
  deriving DecidableEq, Repr

/-- The collectives: descriptors (256 × partition + index), the run under way (`start` its first slot's edge, `gather`
in the allgather, `slot` how many slots are closed, `opened` how many are opened), blocks, GATHER blocks lost, whether
the decode tick is done and what it found, STATE packets not acknowledged (partition, index, FIRST), and what has been
reported once: `missed` and `hopsEv` hold the STEP_ID in which they were (R256, R262). -/
structure CollSt where
  defs    : Tab (Option Vec) := []
  start   : Nat := 0
  gather  : Bool := false
  slot    : Nat := 0
  opened  : Nat := 0
  blks    : List CollBlk := []
  lost    : List (Nat × Nat × Nat × Nat) := []
  decoded : Bool := false
  dec     : List CollDec := []
  acks    : List (Nat × Nat × Nat) := []
  missed  : Option Nat := none
  hopsEv  : Option Nat := none
  standEv : Bool := false
  unsent  : Bool := false
  unready : Bool := false
  deriving DecidableEq, Repr
/-! ### Ethernet and parser (files 11 and 12). Instants count units of 10 ps, 102,400 to a tick. -/

/-- A received frame on its way: number, port, tick of its first byte, instant of its first preamble byte, bytes through
the FCS, badness (R300), rule bank and version (R346), header beats (R324), and whether it is a giant, cut off before its
FCS. -/
structure RxFrame where
  id    : Nat
  port  : Nat
  tick  : Nat
  t     : Nat
  bytes : List Byte
  bad   : Bool
  bank  : Nat
  ver   : Nat
  beats : Nat
  giant : Bool := false
  deriving DecidableEq, Repr

/-- The bytes of a frame without its FCS; a giant is cut off before it (R300). -/
def RxFrame.data (fr : RxFrame) : List Byte := if fr.giant then fr.bytes else fr.bytes.take (fr.bytes.length - 4)

/-- A frame in an egress queue (R306): the received frame it comes from with its version (0 and the current one for the MC's
own), its transmit queue with the ring index of its first descriptor and their number, its bytes, whether its FCS is to be
inverted, whether the bytes hold an FCS, and the instant at which it was queued (R380). -/
structure TxItem where
  id    : Nat
  ver   : Option Nat
  queue : Option (Nat × Nat × Nat)
  bytes : List Byte
  stomp : Bool
  fcs   : Bool
  at_   : Nat
  deriving DecidableEq, Repr

/-- A port (R299, R306 to R312, R342): up, or known down since a loss; LPI each way; the partner's wake time in µs with the
instant its TTL ends; the end of the frame in transmission or of a wake; since when its egress queues are empty; the wake time
that the partner last advertised, resolved; ends of pauses and instants of XOFF frames by TC (the instant and 1); the processor
path's bucket: none while full, else its level in 10^-11 frames at an instant. -/
structure EthPort where
  up    : Bool := false
  lost  : Bool := false
  lpiTx : Bool := false
  lpiRx : Bool := false
  tw    : Option (Nat × Nat) := none
  txEnd : Nat := 0
  idle  : Nat := 0
  wake  : Nat := 0
  pause : Tab Nat := []
  xoff  : Tab Nat := []
  bucket : Option (Nat × Nat) := none
  deriving DecidableEq, Repr

/-- A frame being written to a receive queue, or held for it (R310, R315): what is left to write, what each filled buffer
holds (ring index, bytes), whether the read for its next buffer has been asked for, since when it is held, and the pipe
of a processor-path frame (R341). `ver` is the version of its decision, `entered` the one it entered under (R347, R350). -/
structure RxWork where
  id    : Nat
  port  : Nat
  ver   : Nat
  tick  : Nat
  tc    : Nat
  colour : Nat
  hash  : Nat
  size  : Nat
  rest  : List Byte
  bad   : Bool
  asked : Bool
  bufs  : List (Nat × Nat)
  since : Nat
  proc  : Option Nat
  entered : Nat
  deriving DecidableEq, Repr

/-- A queue of Table 11.3: ring and tail word, its fields; head and last tail read; the next descriptor not yet taken into an
egress queue (transmit); the read in flight with the word as it stood (none: in host memory); a further read recorded or waiting
for its turn; `lost` after a read without completion, as if the ring held no buffers (R437); ring indices already written back
as bad; host descriptors by ring index; frames being written and held. -/
structure EthQ where
  ring    : Nat
  tailAt  : Nat
  entries : Nat
  bufKib  : Nat
  host    : Bool
  port    : Nat
  part    : Nat
  head    : Nat := 0
  tail    : Nat := 0
  next    : Nat := 0
  flight  : Option (Option Nat) := none
  again   : Bool := false
  lost    : Bool := false
  skip    : List Nat := []
  descs   : Tab (List Byte) := []
  work    : List RxWork := []
  held    : List RxWork := []
  deriving DecidableEq, Repr

/-- A decision of the parser (R333, R349): FORWARD port, MIRROR port, copy to the processor path, queue, Shot, MC. -/
structure Decision where
  drop    : Bool := false
  forward : Option Nat := none
  mirror  : Option Nat := none
  copy    : Bool := false
  dap     : Bool := false
  shot    : Bool := false
  queue   : Option Nat := none
  tc      : Nat := 0
  colour  : Nat := 0
  hash    : Nat := 0
  rss     : Option Nat := none
  bank    : Nat := 0
  ver     : Nat := 0
  deriving DecidableEq, Repr

/-- A fragment table entry (R349): its key, when it was stored, and the decision. -/
structure FragEnt where
  key : List Byte
  at_ : Nat
  dec : Decision
  deriving DecidableEq, Repr

/-- A flow table entry (R352, R390). -/
structure FlowEnt where
  key     : List Byte
  shot    : Bool
  lane    : Nat
  first   : Nat
  last    : Nat
  lastAt  : Nat
  frames  : Nat
  bytes   : Nat
  reqs    : Nat
  stomped : Nat
  overl    : Nat
  lastId  : Nat
  deriving DecidableEq, Repr

/-! ### Shot path (file 13) -/

/-- A feature delivered by the Grind stage (R365, Table 13.5): FP32, a bin index, or the missing flag. -/
inductive Feature where
  | fp (x : Nat)
  | bin (k : Nat)
  | missing
  deriving DecidableEq, Repr

/-- What came of a lookup (R370, R372): waiting, the row's FP32 elements as its table then read them with its epoch, unavailable,
substituted, or no usable table (also a lookup that an OVERLOAD abandons). -/
inductive Found where
  | waiting
  | row (elems : List Nat) (epoch : Nat)
  | unavailable
  | substituted
  | noTable
  deriving DecidableEq, Repr

/-- A lookup of a record: the features that share it, its row, what came of it, and the number of its request among those that the
bridges have let through (R34); none while it waits for tokens, or where it needs no bridge. -/
structure Lookup where
  feats : List Nat
  key   : RowKey
  found : Found
  sent  : Option Nat := none
  deriving DecidableEq, Repr

/-- Class 2 of one direction of a CT's bridge (Table 1.8, R34): its tokens in twenty-fifths of a byte at an instant, and the
lookup requests that wait at its head, by request, record and lookup. It starts full (log entry 173). -/
structure Class2 where
  level : Nat := 102400
  at_   : Nat := 0
  wait  : List (Nat × Nat × Nat) := []
  deriving DecidableEq, Repr

/-- A record of a request (R366 to R373): the tick edges that had passed at its arrival; how many of its bytes have passed the
Grind stage (R370); when it passed the Grind stage, none until then; its deadline; its DOT features without usable tables
(R371); lookups; when it was ready, whether it entered the feature buffer, whether it is in a group; when it was scored and
its scores; OVERLOAD with its reason; whether its model was found damaged; whether its unavailable row is counted. -/
structure ShotRec where
  arr      : Nat
  passed   : Nat := 0
  ground   : Option Nat := none
  deadline : Nat := 0
  noDot    : List Nat := []
  looks    : List Lookup := []
  ready    : Option Nat := none
  inBuf    : Bool := false
  group    : Bool := false
  scored   : Option Nat := none
  scores   : List Nat := []
  overl     : Bool := false
  absent   : Bool := false
  unavail  : Bool := false
  sent     : Bool := false
  deriving DecidableEq, Repr

/-- A reply in progress: T_0, its headers as they stood when it started, entries fixed so far in order, the instant its FCS falls
due. -/
structure ReplyRun where
  t0      : Nat
  head    : List Byte
  entries : List (List Byte)
  fcsAt   : Nat
  deriving DecidableEq, Repr

/-- A scoring request (R362 to R390): its frame, TC, lane, decision instant, offset in the frame, where its IP header lies and
whether it is IPv4 (UDP), declared length, header fields, the binding (bank, BANK_SEQ, place of the model, layout, strict,
epochs, REQ_STATUS), held for strict mode, restarted, when it was admitted to its lane, the next record to grind, records, the
reply, its conversation. -/
structure ShotReq where
  frame    : RxFrame
  udp      : Bool
  tc       : Nat
  lane     : Nat
  dec      : Nat
  off      : Nat
  ipAt     : Nat
  v4       : Bool
  declared : Nat
  pad      : Nat
  f16      : Bool
  model    : Nat
  layout   : Nat
  nrec     : Nat
  reqId    : Nat
  lag      : Nat
  bank     : Nat := 0
  seq      : Nat := 0
  place    : Nat := 0
  status   : Nat := 0
  outs     : Nat := 0
  strict   : Bool := false
  restarted : Bool := false
  hold     : Bool := false
  lo       : Nat := 0
  hi       : Nat := 0
  admitted : Option Nat := none
  next     : Nat := 0
  recs     : List ShotRec := []
  reply    : Option ReplyRun := none
  conv     : Option (List Byte) := none
  deriving DecidableEq, Repr

/-- A tree group (R403): its lane, start, Q, bank, model place, and its records (frame number, record). -/
structure TreeGroup where
  lane  : Nat
  start : Nat
  q     : Nat
  bank  : Nat
  place : Nat
  recs  : List (Nat × Nat)
  deriving DecidableEq, Repr

/-- The NT: ports, pipes' waiting frames, egress queues (8 × port + TC), queues (transmit from 4,096), fragment and flow tables,
the interval's counts (bytes by queue, frames by indirection entry 512 × partition + i, bytes and frames by lane and map byte),
active rule bank and version, requests in order of decision, lookups without a record any more (lane, row), groups; `gone` holds
requests that have left, or restart, for their records that keep places in a feature buffer until their comparisons end (R403),
each under a number of its own. -/
structure Net where
  nextId   : Nat := 1
  ports    : Tab EthPort := []
  pipes    : Tab (List RxFrame) := []
  egress   : Tab (List TxItem) := []
  queues   : Tab (Option EthQ) := []
  frags    : List FragEnt := []
  flows    : List FlowEnt := []
  qBytes   : Tab Nat := []
  rssHits  : Tab Nat := []
  laneBytes : Tab Nat := []
  laneHits : Tab Nat := []
  ruleBank : Nat := 0
  ruleVer  : Nat := 0
  reqs     : List ShotReq := []
  gone     : List ShotReq := []
  orphans  : List (Nat × RowKey × Nat) := []
  groups   : List TreeGroup := []
  toMc     : List (Nat × Nat × List Byte) := []
  class2   : Tab Class2 := []
  lookNo   : Nat := 0
  filled   : Tab Nat := []
  deriving DecidableEq, Repr

/-! ### Dictionary, DAP, startup (files 16 and 17) -/

/-- A module record (R470; MR of R12): whether its signature verifies, the DEVICE_ID and the VARIANT that it is for, serial,
base MAC address, OUI, vendor ID, analog trims, calibration seeds for HBM and SerDes, and the signed defect map (eight values in
the order of Table 18.5). -/
structure ModRec where
  signed    : Bool := true
  deviceId  : List Byte := List.replicate 48 0#8
  variant   : Variant := .x
  pciVendor : Nat := 0
  oui       : Nat := 0
  macBase   : Nat := 0
  serial    : List Byte := []
  trims     : List Byte := []
  hbmSeeds  : List Byte := []
  serdes    : List Byte := []
  defect    : List (List Byte) :=
    [List.replicate 32 0#8, List.replicate 9 0#8, [0#8, 0#8], [0#8], List.replicate 8 0#8, List.replicate 8 0#8,
     List.replicate 4 0#8, List.replicate 24 0#8]
  deriving DecidableEq, Repr

/-- The device's identity (R469), derived at each startup: the seed, the private key, which never leaves the MC, DEVICE_PUBKEY and
DEVICE_ID. -/
structure Ident where
  seed : List Byte := []
  key  : List Byte := []
  pub  : List Byte := List.replicate 97 0#8
  id   : List Byte := List.replicate 48 0#8
  deriving DecidableEq, Repr

/-- A subscription (R455). `frame` and `tc` are those of its SUBSCRIBE, which its messages answer. -/
structure Subscr where
  keyId   : Nat
  addr    : List Byte
  udp     : Nat
  port    : Nat
  mask    : Nat
  telem   : Bool
  life    : Nat
  seq     : Nat
  waiting : List Event
  dropped : Nat
  frame   : List Byte
  tc      : Nat
  deriving DecidableEq, Repr

/-- A block in progress (R453): the entry, WRITE (2) or STAGE (3), its TOTAL and the bytes so far. -/
structure Block where
  key   : Nat
  op    : Nat
  total : Nat
  bytes : List Byte
  deriving DecidableEq, Repr

/-- What a requester owns (R444, R447, R453, R461): its stage set by entry, block in progress, READ snapshot,
FLOW_PAGE_SEL, and the tick of its last authenticated message. -/
structure Requestee where
  items : Tab (Option (List Byte)) := []
  block : Option Block := none
  snap  : Option (Nat × List Byte) := none
  page  : Nat := 0
  last  : Nat := 0
  deriving DecidableEq, Repr

/-- A request that waits for the MC (R446, R456): a DAP datagram with its port and traffic class, a mailbox's GO, or a commit of
BANK_COMMIT alone. -/
inductive DapWork where
  | msg (port tc : Nat) (frame : List Byte)
  | mbx (who : Nat)
  | bank
  deriving DecidableEq, Repr

/-- A commit whose bank checks run (R407, R445): the work it came by, its number of entries and stage set. `own` names
BANK_COMMIT alone. -/
structure CommitRun where
  work  : Option DapWork
  items : List (Nat × List Byte)
  deriving DecidableEq, Repr

/-- What the tick edge gives a READ that is sampled there (R459, R461): the counters and the flow entries. -/
structure Sample where
  ctr   : Tab Nat
  flows : List FlowEnt
  deriving DecidableEq, Repr

/-- The DAP server (R444 to R456): subscriptions; requesters by KEY_ID, mailboxes from 65,536 by partition and 4 + endpoint; L
and S by slot; the last accepted request and its response by slot; the commit under way; the READ whose value is sampled at the
next tick edge (R459); requests waiting; and for those of them that a tick edge has found waiting, the oldest first, what it
gave. -/
structure DapSt where
  subs  : List Subscr := []
  reqs  : Tab Requestee := []
  marks : Tab (Nat × Nat) := []
  prev  : Tab (Option (List Byte × List Byte)) := []
  busy  : Option CommitRun := none
  sample : Option DapWork := none
  queue : List DapWork := []
  snaps : List Sample := []
  deriving DecidableEq, Repr

/-- A firmware slot (R467, R468, R483): its bytes, and its version when it holds an accepted image as last verified. -/
structure FwSlot where
  bytes   : Memory := []
  version : Option Nat := none
  deriving DecidableEq, Repr

/-- A save under way (R476): slot, SEQ and image. -/
structure Saving where
  slot  : Nat
  seq   : Nat
  image : List Byte
  deriving DecidableEq, Repr

/-- The flash map (Table 17.2): the offset and the size of each area of the 256 MiB. `Boot` holds the boot record (preferred slot,
helper data), the module record, both firmware slots, both configuration slots and the reserved area; the credential store is in
`State.dict` (0xA100, 0xA101) and the SEQ marks are in `DapSt.marks`. -/
def flashMap : List (Nat × Nat) :=
  [(0, 0x10000), (0x10000, 0xF0000), (0x100000, 0x100000), (0x200000, 0x2000000), (0x2200000, 0x2000000), (0x4200000, 0x1000000),
   (0x5200000, 0x1000000), (0x6200000, 0x9E00000)]

/-- The size of a firmware slot (Table 17.2). -/
def fwSlotSize : Nat := (flashMap.getD 3 (0, 0)).2

/-- The size of a configuration slot (Table 17.2). -/
def cfgSlotSize : Nat := (flashMap.getD 5 (0, 0)).2

/-- Startup and configuration (R464 to R484): DEVICE_STATE of Table 17.1 (0 unpowered); in FAULT its reason and monitor;
`railOff` a module that stays OFF (R510); the flash (Table 17.2): PUF helper data, module record, firmware slots, preferred
slot, configuration slots, reserved area; the active firmware slot, FW_INACTIVE_VERSION; the slot last loaded or saved; a save
under way and a further one asked for; a device reset asked for. -/
structure Boot where
  state    : Nat := 1
  fault    : Nat := 0
  monitor  : Nat := 0
  railOff  : Bool := false
  helper   : List Byte := []
  record   : ModRec := {}
  reserved : Memory := []
  fw0      : FwSlot := { version := some 1 }
  fw1      : FwSlot := {}
  fwActive : Nat := 0
  fwPref   : Nat := 0
  fwInact  : Nat := 0
  slots    : Tab (List Byte) := []
  last     : Option Nat := none
  saving   : Option Saving := none
  again    : Bool := false
  reset    : Bool := false
  deriving DecidableEq, Repr

/-! ### Health and inputs (files 18 and 19) -/

/-- The tick edges in 10 ms, rounded up: for so long REFCLK has run without a gap before a DEVICE_RESET is accepted (R512). -/
def refReady : Nat := 9766

/-- ACLK of a CT (R490): MHz, the step due at the next tick edge (MHz; 1 down, 2 up),
samples in a row without a throttling monitor (up to 128), and whether it has stepped down. `cyc` is how far ACLK ran from reset
to the last tick edge, in 1/10,000 cycles, and `into` the cycles since that edge as last observed (Table 5.9, SC_CYCLE). -/
structure CtClk where
  mhz  : Nat := 1300
  next : Option (Nat × Nat) := none
  calm : Nat := 0
  slow : Bool := false
  cyc  : Nat := 0
  into : Nat := 0
  deriving DecidableEq, Repr

/-- Monitors and inputs (R486 to R522): ACLK by CT; readings and levels by monitor; the levels of monitor 112 by kind 4
and kind 5; samples in a row below warn after a trip; accepted and masked inputs as bits; the sums at the last telemetry
record (R496); whether a CT has failed (bits); the tick edges since a gap of REFCLK, up to 10 ms of them (R512). -/
structure Health where
  clk     : Tab CtClk := []
  reading : Tab Int := []
  level   : Tab Nat := []
  low112  : Nat := 0
  high112 : Nat := 0
  cool    : Nat := 0
  inputs  : Nat := 0
  masked  : Nat := 0
  tel     : Tab Nat := []
  failed  : Nat := 0
  refRan  : Nat := refReady
  deriving DecidableEq, Repr

/-- What leaves the module. -/
inductive Output where
  /-- Bytes written to host memory of a partition (R426, R431). -/
  | hostWrite (part addr : Nat) (bytes : List Byte)
  /-- The completion of a host's read through BAR4 (R425), with its EP bit (Table 7.9). -/
  | hostRead (part off : Nat) (bytes : List Byte) (poisoned : Bool)
  /-- An MSI-X message (R428). -/
  | msix (part vector addr data : Nat)
  /-- A DATA frame on a link (Table 10.3): its header bytes, its payload and its CRC field. -/
  | fabData (link : Nat) (head : List Byte) (pay : Payload) (fcs : List Byte)
  /-- The 16 bytes of a CTRL frame on a link (Table 10.3). -/
  | fabCtrl (link : Nat) (bytes : List Byte)
  /-- A BEACON frame on a link (Table 10.5). -/
  | beacon (link : Nat) (bytes : List Byte)
  /-- A DATA frame whose destination this module is, handed to the unit that its payload names (R286). -/
  | delivered (f : Frame)
  /-- A completion word for the MC (R168). -/
  | mcPost (word : Nat)
  /-- A frame sent on an Ethernet port, from its destination address through its FCS (R305). -/
  | ethFrame (port : Nat) (bytes : List Byte)
  deriving DecidableEq, Repr

/-- The machine. `modrec` is the module record that is applied, `boot.record` the one in the flash. -/
structure State where
  pending : List Instr := []
  variant : Variant := .x
  power   : Power := .on
  modrec  : ModRec := {}
  ident   : Ident := {}
  dict    : Tab (Option (List Byte)) := []
  ctr     : Tab Nat := []
  events  : List Event := []
  evLast  : Tab Nat := []
  out     : List Output := []
  draws   : Nat := 0
  clk     : Clk := {}
  sched   : Sched := {}
  fences  : Tab Nat := []
  bars    : Tab Bar := []
  cores   : Tab Core := []
  engines : Tab Engine := []
  chans   : Tab Chan := []
  eus     : Tab Eu := []
  emb     : Emb := {}
  mem     : Mem := {}
  t0      : Memory := []
  lmem    : Memory := []
  t1      : Memory := []
  t2      : Memory := []
  pkt     : Memory := []
  tree    : Memory := []
  fab     : Fab := {}
  host    : HostSt := {}
  dap     : DapSt := {}
  boot    : Boot := {}
  bank    : TreeSt := {}
  coll    : CollSt := {}
  net     : Net := {}
  health  : Health := {}
  deriving DecidableEq, Repr

/-- The machine right after reset: ROM_BOOT with everything powered, every field at its reset value (Table 17.7; the log
names the values that the spec does not state), and no command waiting. -/
def State.reset : State := {}

/-- Faults: this machine has no stop of its own; no meaning raises one. -/
inductive Fault where
  /-- Raised by nothing: every command of this block has an effect or none. Safe. -/
  | none
  deriving DecidableEq, Repr

/-- Refusals. -/
inductive Refusal where
  /-- Raised by the dispatch alone, for a command whose meaning is not written. Safe. -/
  | notModelled (mnemonic : String)
  deriving DecidableEq, Repr

end Sys2Proof.Machine
end

