-- ==== Sys2Proof/Machine/Ops.lean ====
section
/-! DEFINITION. The shared operations over the state: dictionary values, counters, events, outputs, partitions and
violations, fences, mailboxes and completions. Every meaning is written over these. -/

namespace Sys2Proof.Machine

/-! ### Units of a variant (R1, Table 0.1) -/

/-- VARIANT (Table 0.2). -/
def Variant.num : Variant → Nat
  | .x => 1
  | .t => 2
  | .s => 3

/-- The number of compute tiles: CT1 is absent on the -S. -/
def Variant.tiles : Variant → Nat
  | .s => 1
  | _ => 2

/-- The number of links (Table 0.1). -/
def Variant.links : Variant → Nat
  | .x => 48
  | .t => 32
  | .s => 24

/-- Whether the Shot path, tree engine and crema cache are present. -/
def Variant.shot : Variant → Bool
  | .t => false
  | _ => true

/-- T1_SIZE (R183, Table 7.13). -/
def Variant.t1Size : Variant → Nat
  | .s => 143999991808
  | _ => 287999983616

/-- The bytes of one tile's scratch (R180). -/
def scratchSize : Nat := 805306368

/-! ### Dictionary values (R14, file 16) -/

/-- The key of an entry or of its value in a bank: bank × 2^24 + index × 256 + subindex. -/
def dkey (idx sub : Nat) : Nat := idx * 256 + sub

/-- The row that defines an entry. -/
def entryRow (k : Nat) : Option EntryRow :=
  entryRows.find? (fun r => r.idx == k / 256 % 65536 && decide (r.subLo ≤ k % 256) && decide (k % 256 ≤ r.subHi))

/-- A string's ASCII bytes. -/
def asciiBytes (s : String) : List Byte := s.toList.map (fun c => BitVec.ofNat 8 c.toNat)

/-- Default thresholds WARN, THROTTLE, TRIP and HYST of kind k (Table 18.2); kind 5 ignores THROTTLE, and its open default is 0,
log entry 5. -/
def threshDefault (k : Nat) : List Byte :=
  let w := if k = 1 then [950, 1000, 1050, 30] else if k = 2 then [850, 900, 950, 30]
    else if k = 3 then [30, 50, 80, 10] else if k = 4 then [460, 450, 439, 5] else if k = 5 then [580, 0, 601, 5]
    else if k = 6 then [30, 60, 200, 10] else [1600, 1700, 1850, 50]
  w.flatMap (leBytes 2)

/-- The default of an entry where its table gives one that depends on the subindex or the variant. -/
def specialDefault (v : Variant) (rec_ : ModRec) (k : Nat) : Option (List Byte) :=
  let idx := k / 256 % 65536
  let sub := k % 256
  let x := match v with | .s => false | _ => true
  if k = 0x100001 then some (asciiBytes "Raltafold")
  else if k = 0x100002 then some (asciiBytes (match v with
    | .x => "FXA-9640-X" | .t => "FXA-9640-T" | .s => "FXA-9640-S"))
  else if k = 0x100003 then some (leBytes 1 v.num)
  else if k = 0x100004 then some (leBytes 2 rec_.pciVendor)
  else if k = 0x100101 then some (leBytes 1 (if x then 7 else 5))
  else if k = 0x100102 then some (leBytes 1 (if x then 72 else 36))
  else if k = 0x100103 then some (leBytes 1 (if x then 255 else 15))
  else if k = 0x100104 then some (leBytes 2 (match v with | .x => 0x0FFF | .t => 0x00FF | .s => 0x003F))
  else if k = 0x100105 then some (leBytes 1 (if v.shot then 15 else 0))
  else if k = 0x100303 then some rec_.serial
  else if idx = 0x4011 then some (leBytes 1 ((sub - 1) % 6))
  else if idx = 0x4202 then some (leBytes 8 ((rec_.macBase + (sub - 1)) % 2 ^ 48))
  else if idx = 0x4301 then some (leBytes 1 ((sub - 1) / 4 % 8))
  else if k = 0x432001 then some ((upTo 64).map (fun i => BitVec.ofNat 8 (i % 8)))
  else if idx = 0x4700 then some (List.replicate 1024 255#8)
  else if k = 0x500003 then some (leBytes 4 (rec_.oui % 2 ^ 24))
  else if k = 0x700002 then some (leBytes 8 v.t1Size)
  else if k = 0x700003 then some (leBytes 8 (2 ^ 40))
  else if k = 0x730001 then some ((upTo 16384).flatMap (fun r => leBytes 2 r))
  else if k = 0x730004 then some (List.replicate 32768 255#8)
  else if idx = 0x8010 then some (threshDefault sub)
  else if idx = 0x8100 then some (rec_.defect.getD (sub - 1) [])
  else if k = 0xA10001 then some [1#8, 0#8, 1#8, 0#8]
  else none

/-- The default value of an entry, in the entry's length. -/
def entryDefault (v : Variant) (rec_ : ModRec) (k : Nat) : List Byte :=
  match specialDefault v rec_ k with
  | some b => b
  | none =>
    match entryRow k with
    | some r => if r.var then [] else leBytes r.len r.dflt
    | none => []

/-- A list cut into pieces of k bytes. -/
def chunks (k : Nat) : Nat → List Byte → List (List Byte)
  | 0, _ => []
  | n + 1, l => if l.isEmpty then [] else l.take k :: chunks k n (l.drop k)

/-- The value an entry holds: what was last put, or its default. -/
def State.dget (s : State) (k : Nat) : List Byte :=
  match Tab.get none s.dict k with
  | some b => b
  | none => entryDefault s.variant s.modrec (k % 2 ^ 24)

/-- The value of a numeric entry. -/
def State.dnum (s : State) (k : Nat) : Nat := leNat (s.dget k)

/-- The state with an entry holding a value. -/
def State.dput (s : State) (k : Nat) (b : List Byte) : State := { s with dict := Tab.put none s.dict k (some b) }

/-- The state with a numeric entry of `len` bytes holding a value. -/
def State.dputNum (s : State) (k len n : Nat) : State := s.dput k (leBytes len n)

/-! ### Counters, events, outputs -/

/-- The state with a counter instance `n` higher, modulo 2^64 (R15). -/
def State.count (s : State) (c inst n : Nat) : State :=
  let k := c * 65536 + inst
  { s with ctr := Tab.put 0 s.ctr k ((Tab.get 0 s.ctr k + n) % 2 ^ 64) }

/-- A counter instance's value. -/
def State.counter (s : State) (c inst : Nat) : Nat := Tab.get 0 s.ctr (c * 65536 + inst)

/-- The counters of Table 2.9 raised for a partition, or for the fabric as instance 4 (R71). -/
def State.countArith (s : State) (inst : Nat) (a : ArithCnt) : State :=
  (((((((((((s.count cMeFtzIn inst a.ftzIn).count cMeIntSat inst a.intSat).count cCvtSat inst a.cvtSat).count
    cCvtNanToInt inst a.nanToInt).count cMxNanBlock inst a.mxNan).count cRq8Sat inst a.rq8Sat).count
    cRq8NanZeroed inst a.rq8Nan).count cSrDemoted inst a.srDemoted).count cGradNan inst a.gradNan).count
    cGradInf inst a.gradInf).count cBs16BadExp inst a.badExp).count cRsEscalate inst a.escalate

/-- The current tick number (R72). -/
def State.now (s : State) : Nat := s.clk.tick

/-- The state with one output appended. -/
def State.emit (s : State) (o : Output) : State := { s with out := s.out ++ [o] }

/-- Whether a role receives an event (Table 16.4). -/
def roleAdmitsEvent (role : Nat) (e : Event) : Bool :=
  if role ≤ 3 then decide (1 ≤ role) else (e.part == role - 4 || e.code / 4096 == 6)

/-- The role of a KEY_ID's credential; 0 when no slot holds it (R449). -/
def State.roleOf (s : State) (keyId : Nat) : Nat :=
  match (upTo 16).find? (fun n => leAt (s.dget (dkey 0xA100 (n + 1))) 0 2 == keyId && keyId != 0) with
  | some n => (byteAt (s.dget (dkey 0xA100 (n + 1))) 2).toNat
  | none => 0

/-- A subscription that an event reaches keeps its record, or drops it past 42 waiting (R455). -/
def State.notifySubs (s : State) (e : Event) : State :=
  let wants := fun (b : Subscr) => roleAdmitsEvent (s.roleOf b.keyId) e && bit b.mask (e.code / 4096)
  let dropped := (s.dap.subs.filter (fun b => wants b && decide (42 ≤ b.waiting.length))).length
  let subs := s.dap.subs.map (fun b =>
    if wants b then
      (if 42 ≤ b.waiting.length then { b with dropped := b.dropped + 1 } else { b with waiting := b.waiting ++ [e] })
    else b)
  { s with dap := { s.dap with subs := subs } }.count cDapEventDrop 0 dropped

/-- An event is raised: logged with its tick, and kept for the subscriptions that receive it (R16, R455). -/
def State.raise (s : State) (code part arg0 arg1 : Nat) : State :=
  let e : Event := ⟨code, part, s.now, arg0, arg1⟩
  { s with events := s.events ++ [e] }.notifySubs e

/-- A device event. -/
def State.raiseDev (s : State) (code arg0 arg1 : Nat) : State := s.raise code 0xFF arg0 arg1

/-- An event raised at most once per 1,024 ticks for each `slot` of its code. -/
def State.raiseLimited (s : State) (slot code part arg0 arg1 : Nat) : State :=
  let k := code * 65536 + slot
  let last := Tab.get 0 s.evLast k
  if last = 0 || last + 1024 ≤ s.clk.edges + 1 then
    { s with evLast := Tab.put 0 s.evLast k (s.clk.edges + 1) }.raise code part arg0 arg1
  else s

/-! ### Absent and mapped-out units (R4, R497) -/

/-- Bit `n` of the defect map in force, subindex `sub` of 0x8100. -/
def State.defect (s : State) (sub n : Nat) : Bool := bit (s.dnum (dkey 0x8100 sub)) n

/-- Whether core k is present and not mapped out. -/
def State.coreOk (s : State) (k : Nat) : Bool := decide (k < 128 * s.variant.tiles) && !s.defect 1 k

/-- Whether engine n is present and not mapped out. -/
def State.meOk (s : State) (n : Nat) : Bool := decide (n < 36 * s.variant.tiles) && !s.defect 2 n

/-- Whether EU n is present and not mapped out. -/
def State.euOk (s : State) (n : Nat) : Bool := decide (n < 8 * s.variant.tiles) && !s.defect 3 n

/-- Whether DMA channel `ch` (64 × tile + c) is present and not mapped out. -/
def State.chanOk (s : State) (ch : Nat) : Bool :=
  let t := ch / 64
  let c := ch % 64
  if t = 0 then !s.defect 5 c
  else if t = 1 then decide (s.variant.tiles = 2) && !s.defect 6 c
  else decide (t = 2) && decide (c < 32) && !s.defect 7 c

/-! ### Partitions (R418 to R421) -/

/-- The key of subindex `sub` of partition n's entries. -/
def ptKey (n sub : Nat) : Nat := dkey (0x3100 + 0x100 * n) sub

/-- PT_STATE of a partition. -/
def State.ptState (s : State) (n : Nat) : PtState := Tab.get .disabled s.host.pt n

/-- Whether a partition is ENABLED (R420). -/
def State.ptEnabled (s : State) (n : Nat) : Bool := s.ptState n == .enabled

/-- The enabled partition whose entry `sub` has bit k set. -/
def State.ownerBit (s : State) (sub k : Nat) : Option Nat :=
  (upTo 4).find? (fun n => s.ptEnabled n && bit (s.dnum (ptKey n sub)) k)

/-- The partition of a core (R420). -/
def State.coreOwner (s : State) (k : Nat) : Option Nat := s.ownerBit 3 k

/-- The partition of an engine. -/
def State.meOwner (s : State) (n : Nat) : Option Nat := s.ownerBit 4 n

/-- The partition of an EU. -/
def State.euOwner (s : State) (n : Nat) : Option Nat := s.ownerBit 5 n

/-- The partition of a DMA channel (64 × tile + c). -/
def State.chanOwner (s : State) (ch : Nat) : Option Nat :=
  if ch / 64 = 0 then s.ownerBit 6 (ch % 64)
  else if ch / 64 = 1 then s.ownerBit 7 (ch % 64) else s.ownerBit 8 (ch % 64)

/-- A partition's scratch range on a tile, as first byte and size (PT_SCRATCH, in MiB). -/
def State.ptScratch (s : State) (n tile : Nat) : Nat × Nat :=
  let w := s.dnum (ptKey n 9)
  let lo := if tile = 0 then 0 else 32
  (bits w (lo + 15) lo * 2 ^ 20, bits w (lo + 31) (lo + 16) * 2 ^ 20)

/-- A partition's T1 range in bytes (PT_T1). -/
def State.ptT1 (s : State) (n : Nat) : Nat × Nat :=
  let w := s.dnum (ptKey n 10)
  (bits w 31 0 * 2 ^ 20, bits w 63 32 * 2 ^ 20)

/-- A partition's T2 range in bytes (PT_T2). -/
def State.ptT2 (s : State) (n : Nat) : Nat × Nat :=
  let w := s.dnum (ptKey n 11)
  (bits w 31 0 * 2 ^ 20, bits w 63 32 * 2 ^ 20)

/-- A first-and-count entry (PT_FENCE 12, PT_RXQ 13, PT_TXQ 14). -/
def State.ptRange (s : State) (n sub : Nat) : Nat × Nat :=
  let w := s.dnum (ptKey n sub)
  (bits w 15 0, bits w 31 16)

/-- Whether x lies in a range given as first and count. -/
def inRange (r : Nat × Nat) (x : Nat) : Bool := decide (r.1 ≤ x) && decide (x < r.1 + r.2)

/-- Whether [a, a+n) lies wholly in a range. -/
def covers (r : Nat × Nat) (a n : Nat) : Bool := decide (r.1 ≤ a) && decide (a + n ≤ r.1 + r.2)

/-- The enabled partition in whose fence range a fence lies. -/
def State.fenceOwner (s : State) (f : Nat) : Option Nat :=
  (upTo 4).find? (fun n => s.ptEnabled n && inRange (s.ptRange n 12) f)

/-- The partition whose T1 (tier 1) or T2 range, or scratch range on a tile (tier 0), holds an address. -/
def State.addrOwner (s : State) (tier addr : Nat) : Option Nat :=
  (upTo 4).find? (fun n => s.ptEnabled n &&
    (if tier = 0 then inRange (s.ptScratch n (addr / scratchSize)) (addr % scratchSize)
     else if tier = 1 then inRange (s.ptT1 n) addr else inRange (s.ptT2 n) addr))

/-- A violation of a partition (R433, Table 15.7): counted, recorded, and reported at most once per 1,024 ticks. -/
def State.violate (s : State) (n source reason addr : Nat) : State :=
  let v := leBytes 6 s.now ++ leBytes 1 source ++ leBytes 1 reason ++ leBytes 8 addr
  ((s.count cPtViolations n 1).dput (ptKey n 17) v).raiseLimited n 0x3004 n (source + 256 * reason) addr

/-! ### Interrupts and host completion queues (R428, R431) -/

/-- Whether the endpoint bound to a partition has its link up and Bus Master Enable set (PT_HOST_UP, Table 15.2). -/
def State.hostUp (s : State) (n : Nat) : Bool :=
  let e := Tab.get {} s.host.endpts (s.dnum (ptKey n 2))
  decide (s.dnum (ptKey n 2) ≠ 0) && e.up && e.bme

/-- A write to host memory; one to a host whose link is down is discarded (R437). -/
def State.toHost (s : State) (n addr : Nat) (b : List Byte) : State :=
  if s.hostUp n then s.emit (.hostWrite n addr b) else s

/-- The holdoffs after a message of vector `k` for some sources (R428): theirs run, and it stands for every raise of the vector
that another source has coalesced (log entry 179). -/
def holdsAfter (k : Nat) (srcs : List (Nat × Nat)) (hold : Tab Holdoff) : Tab Holdoff :=
  srcs.foldl (fun t e => if e.2 = 0 then t else Tab.put {} t e.1 { running := true })
    (hold.map (fun e => (e.1, if e.2.raised && e.2.vec == k then { e.2 with raised := false, vec := 0 } else e.2)))

/-- One MSI-X message of a partition's vector for some sources, or its pending bit when masked (R428). -/
def State.msix (s : State) (n vec : Nat) (srcs : List (Nat × Nat)) : State :=
  let k := 2048 * n + vec % 2048
  let v := Tab.get {} s.host.msix k
  if v.masked then
    { s with host := { s.host with msix := Tab.put {} s.host.msix k { v with pending := true, waits := v.waits ++ srcs } } }
  else
    ({ s with host := { s.host with msix := Tab.put {} s.host.msix k { v with pending := false, waits := [] }
                                    hold := holdsAfter k srcs s.host.hold } }.emit
      (.msix n (vec % 2048) v.addr.toNat v.data.toNat)).count cMsixSent n 1

/-- A source raises its vector: at once, or coalesced while its holdoff runs (R428). -/
def State.raiseVector (s : State) (src n vec holdoff : Nat) : State :=
  let h := Tab.get {} s.host.hold src
  if h.running then
    { s with host := { s.host with hold := Tab.put {} s.host.hold src { h with raised := true, vec := 2048 * n + vec % 2048 } } }
  else s.msix n vec [(src, holdoff)]

/-- An entry for a host completion queue (R431, Table 15.8). -/
def State.hcqPost (s : State) (n m payload kind unit : Nat) : State :=
  let k := 16 * n + m
  let q := Tab.get {} s.host.hcq k
  let full := !q.en || decide (q.size = 0) || decide ((q.tail + 1) % q.size = q.head % q.size)
  if full then
    { s with host := { s.host with hcq := Tab.put {} s.host.hcq k { q with ovf := true } } }.count cHcqOverflow n 1
  else
    let e := leBytes 4 payload ++ leBytes 1 kind ++ leBytes 1 unit ++ leBytes 1 (b2n q.phase) ++ leBytes 1 0 ++
      leBytes 6 s.now ++ leBytes 2 0
    let t := (q.tail + 1) % q.size
    let q' := { q with tail := t, phase := if t = 0 then !q.phase else q.phase }
    let s := { s with host := { s.host with hcq := Tab.put {} s.host.hcq k q' } }.toHost n
      (q.base.toNat + 16 * q.tail) e
    if q.irqEn then s.raiseVector (8192 + k) n q.vector q.holdoff else s

/-! ### Cores: release of waits, mailboxes (R147 to R154) -/

/-- The state with core k replaced. -/
def State.setCore (s : State) (k : Nat) (c : Core) : State := { s with cores := Tab.put {} s.cores k c }

/-- Core k. -/
def State.core (s : State) (k : Nat) : Core := Tab.get {} s.cores k

/-- Register x[r]: x0 reads zero (R131). -/
def Core.getX (c : Core) (r : BitVec 5) : Word64 := if r = 0#5 then 0#64 else c.x[r.toNat]'r.isLt

/-- x[r] written; a write to x0 is discarded (R131). -/
def Core.setX (c : Core) (r : BitVec 5) (w : Word64) : Core :=
  if r = 0#5 then c else { c with x := c.x.set r.toNat w r.isLt }

/-- The core past a completed instruction: PC + 4 and one more in SC_INSTRET (R133, Table 5.9). -/
def Core.advance (c : Core) : Core := { c with pc := c.pc + 4#18, instret := c.instret + 1#64 }

/-- A waiting core whose wait is over completes the wait instruction and runs on. -/
def Core.resume (c : Core) : Core := { c with mode := .running, wait := none, waited := 0 }.advance

/-- Every core for which `p` holds is resumed. -/
def State.resumeCores (s : State) (p : Nat → Core → Bool) : State :=
  { s with cores := s.cores.map (fun e => if e.2.mode == .waiting && p e.1 e.2 then (e.1, e.2.resume) else e) }

/-- A word arrives for core k's mailbox (R147, R148): a RECV waiting on the empty mailbox takes it; a full mailbox
drops it. -/
def State.mbxPost (s : State) (k kind unit payload : Nat) : State :=
  let c := s.core k
  let w := BitVec.ofNat 64 (payload % 2 ^ 32 + 2 ^ 32 * (kind % 8) + 2 ^ 35 * (unit % 256))
  match c.mode, c.wait with
  | .waiting, some (.recv d) => s.setCore k (c.setX d w).resume
  | _, _ =>
    if 64 ≤ c.mbx.length then
      let s := (s.setCore k { c with ovf := true }).count cScMbxOverflow k 1
      if c.ovf then s else s.raiseDev 0x2102 k 0
    else s.setCore k { c with mbx := c.mbx ++ [w] }

/-! ### Fences (R116, R152, R430) -/

/-- The value of fence f of a tile. -/
def State.fenceVal (s : State) (tile f : Nat) : Nat := Tab.get 0 s.fences (tile * 1024 + f)

/-- (value − awaited) modulo 2^32 is less than 2^31 (R116). -/
def fenceSat (value awaited : Nat) : Bool := decide ((value + 2 ^ 32 - awaited % 2 ^ 32) % 2 ^ 32 < 2 ^ 31)

/-- Every armed watch of a fence that is satisfied fires: one entry, and EN is cleared (R430). -/
def State.fireWatches (s : State) (tile f : Nat) : State :=
  (s.host.watch.filter (fun e => e.2.en && e.2.tile == tile && e.2.fence == f &&
      fenceSat (s.fenceVal tile f) e.2.value.toNat)).foldl
    (fun s e =>
      let s := { s with host := { s.host with watch := Tab.put {} s.host.watch e.1 { e.2 with en := false } } }
      s.hcqPost (e.1 / 64) e.2.hcq e.2.value.toNat 3 (e.1 % 64)) s

/-- After a fence changed: cores waiting on it are released and watches fire. -/
def State.fenceChanged (s : State) (tile f : Nat) : State :=
  let v := s.fenceVal tile f
  (s.resumeCores (fun k c => k / 128 == tile && (match c.wait with
    | some (.fence g w) => g == f && fenceSat v w
    | _ => false))).fireWatches tile f

/-- A fence set to a value. -/
def State.fenceSet (s : State) (tile f v : Nat) : State :=
  { s with fences := Tab.put 0 s.fences (tile * 1024 + f) (v % 2 ^ 32) }.fenceChanged tile f

/-- A fence with `n` added, modulo 2^32. -/
def State.fenceAdd (s : State) (tile f n : Nat) : State := s.fenceSet tile f (s.fenceVal tile f + n)

/-! ### DMA request lines (R172, Table 6.7) -/

/-- The state with a channel replaced. -/
def State.setChan (s : State) (ch : Nat) (c : Chan) : State := { s with chans := Tab.put {} s.chans ch c }

/-- Channel 64 × tile + c. -/
def State.chan (s : State) (ch : Nat) : Chan := Tab.get {} s.chans ch

/-- One request to a channel (R172): what it finds decides whether it is discarded, and counted, or adds 1 to PEND. IDLE comes
before PACED = 0. DEDUCED (log entry 177). -/
def State.requestTaken (s : State) (ch : Nat) : State :=
  let c := s.chan ch
  if c.mode == .idle then s.count cDmaReqIdle ch 1
  else if !(c.act.mode.getLsbD 2) then s
  else if 4095 ≤ c.pend then s.count cDmaReqOverflow ch 1
  else s.setChan ch { c with pend := c.pend + 1 }

/-- A request to a channel (R159, R172). One on the edge of another request adds nothing: two causes in one edge give 1. -/
def State.dmaRequest (s : State) (ch : Nat) (sameEdge : Bool) : State :=
  let c := s.chan ch
  if (s.chanOwner ch).isNone || (sameEdge && c.reqd) then s
  else (s.setChan ch { c with reqd := true }).requestTaken ch

/-- A pulse of a request line of a tile: one request to every channel of the tile that selects it. An IDLE channel
is reached only by CTRL.REQ or by a line it selects, and discards it (R172). -/
def State.pulseLine (s : State) (tile line : Nat) : State :=
  ((upTo (if tile = 2 then 32 else 64)).map (fun c => tile * 64 + c)).foldl
    (fun s ch => if (s.chan ch).act.reqSel.toNat == line && line != 255 then s.dmaRequest ch false else s) s

end Sys2Proof.Machine
end

