-- ==== Sys2Proof/Machine/Route.lean ====
section
/-! DEFINITION. The torus and its router (file 10): ranks and directions (R273 to R276), routes (R286, R288), the queues
of the virtual channels (R284) and the sending of a message to another module. -/

namespace Sys2Proof.Machine

/-! ### Ranks, coordinates, directions -/

/-- Dimension d (0 X, 1 Y, 2 Z) of TORUS_DIMS (R275). -/
def State.dim (s : State) (d : Nat) : Nat := bits (s.dnum 0x410001) (8 * d + 7) (8 * d)

/-- X × Y × Z. -/
def State.podSize (s : State) : Nat := s.dim 0 * s.dim 1 * s.dim 2

/-- Whether the torus has only this module (R83). -/
def State.alone (s : State) : Bool := decide (s.podSize ≤ 1)

/-- The rank of coordinates packed as MY_COORD (R275). -/
def State.rankOf (s : State) (c : Nat) : Nat :=
  bits c 7 0 + s.dim 0 * (bits c 15 8 + s.dim 1 * bits c 23 16)

/-- The coordinates of a rank, packed as MY_COORD. -/
def State.coordOf (s : State) (r : Nat) : Nat :=
  let x := max 1 (s.dim 0)
  let y := max 1 (s.dim 1)
  r % x + 256 * (r / x % y) + 65536 * (r / (x * y))

/-- MY_RANK (R275). -/
def State.rank (s : State) : Nat := s.rankOf (s.dnum 0x410002)

/-- Coordinate d of packed coordinates. -/
def coordAt (c d : Nat) : Nat := bits c (8 * d + 7) (8 * d)

/-- The coordinates one step in direction dir: 0 +X, 1 −X, 2 +Y, 3 −Y, 4 +Z, 5 −Z (R273, R276). -/
def State.step1 (s : State) (c dir : Nat) : Nat :=
  let d := dir / 2
  let n := max 1 (s.dim d)
  let v := coordAt c d
  let v' := if dir % 2 = 0 then (v + 1) % n else (v + n - 1) % n
  c - v * 256 ^ d + v' * 256 ^ d

/-- The rank one step in direction dir. -/
def State.neighbour (s : State) (r dir : Nat) : Nat := s.rankOf (s.step1 (s.coordOf r) dir)

/-- The hops between two values of a dimension of size n, the shorter way round. -/
def ringDist (n a b : Nat) : Nat := let f := (b + n - a) % n; min f (n - f)

/-- The hop distance between two packed coordinates. -/
def State.hopDist (s : State) (a b : Nat) : Nat :=
  ((upTo 3).map (fun d => ringDist (max 1 (s.dim d)) (coordAt a d) (coordAt b d))).foldl (· + ·) 0

/-- The diameter of R83. -/
def State.diameter (s : State) : Nat := s.dim 0 / 2 + s.dim 1 / 2 + s.dim 2 / 2

/-! ### Links -/

/-- Link l. -/
def State.link (s : State) (l : Nat) : Link := Tab.get {} s.fab.links l

/-- The state with link l replaced. -/
def State.setLink (s : State) (l : Nat) (k : Link) : State :=
  { s with fab := { s.fab with links := Tab.put {} s.fab.links l k } }

/-- QUAD_MODE of a link's quad: 0 DISABLED, 1 FABRIC, 2 ETHERNET (R273); an absent quad reads 0 (R4). -/
def State.quadMode (s : State) (q : Nat) : Nat := if s.variant.links ≤ 4 * q then 0 else s.dnum (dkey 0x4010 (q + 1))

/-- The lanes of a link that the defect map in force maps out (Table 18.5). -/
def State.badLanes (s : State) (l : Nat) : Nat := bits (s.dnum 0x810008) (4 * l + 3) (4 * l)

/-- The torus direction of a link. -/
def State.linkDir (s : State) (l : Nat) : Nat := s.dnum (dkey 0x4011 (l / 4 + 1))

/-- Whether a link is a FABRIC link that counts in the rules: its dimension is larger than 1 (R276). -/
def State.fabricLink (s : State) (l : Nat) : Bool :=
  s.quadMode (l / 4) == 1 && decide (1 < s.dim (s.linkDir l / 2))

/-- The links of a direction, ascending (R274). -/
def State.dirLinks (s : State) (dir : Nat) : List Nat :=
  (upTo 48).filter (fun l => s.fabricLink l && s.linkDir l == dir)

/-- The trained links of a direction, ascending (R274). -/
def State.trained (s : State) (dir : Nat) : List Nat := (s.dirLinks dir).filter (fun l => (s.link l).mode == .up)

/-- Every UP link, ascending. -/
def State.upLinks (s : State) : List Nat := (upTo 48).filter (fun l => (s.link l).mode == .up)

/-! ### Routes -/

/-- The first direction of the dimension-order path: X, then Y, then Z, the shorter way round, + when equal (R286). -/
def State.dimDir (s : State) (from_ to_ : Nat) : Option Nat :=
  let a := s.coordOf from_
  let b := s.coordOf to_
  match (upTo 3).find? (fun d => coordAt a d != coordAt b d) with
  | none => none
  | some d =>
    let n := max 1 (s.dim d)
    let f := (coordAt b d + n - coordAt a d) % n
    some (2 * d + (if f ≤ n - f then 0 else 1))

/-- Whether the dimension-order path meets an absent module, followed for at most `fuel` hops. -/
def State.pathAbsent (s : State) : Nat → Nat → Nat → Bool
  | 0, _, _ => false
  | fuel + 1, r, dst =>
    match s.dimDir r dst with
    | none => false
    | some d => let r' := s.neighbour r d; s.fab.absent.contains r' || State.pathAbsent s fuel r' dst

/-- Breadth-first layers around the destination, absent modules removed: the direction of the first step of a shortest
path from `me`, ties in the order +X, −X, +Y, −Y, +Z, −Z (R288). -/
def State.bfsDir (s : State) (me : Nat) : Nat → List Nat → List Nat → List Nat → Option Nat
  | 0, _, _, _ => none
  | fuel + 1, prev, cur, seen =>
    if cur.contains me then (upTo 6).find? (fun d => prev.contains (s.neighbour me d))
    else if cur.isEmpty then none
    else
      let nxt := (cur.flatMap (fun r => (upTo 6).map (s.neighbour r))).eraseDups.filter
        (fun r => !seen.contains r && !s.fab.absent.contains r)
      State.bfsDir s me fuel cur nxt (seen ++ nxt)

/-- The direction of the next hop to a rank (R286, R288). -/
def State.nextDir (s : State) (dst : Nat) : Option Nat :=
  if s.fab.absent.isEmpty || !(s.pathAbsent 96 s.rank dst) then s.dimDir s.rank dst
  else s.bfsDir s.rank 16384 [] [dst] [dst]

/-- Whether a hop in direction dir crosses a dateline: between coordinates n − 1 and 0 (Table 10.4). -/
def State.wraps (s : State) (dir : Nat) : Bool :=
  let v := coordAt (s.dnum 0x410002) (dir / 2)
  if dir % 2 = 0 then decide (v + 1 = s.dim (dir / 2)) else decide (v = 0)

/-- The channel a frame takes across a hop: 1, 3 and 5 move to 2, 4 and 6 at a dateline (Table 10.4). -/
def datelineVc (wraps : Bool) (vc : Nat) : Nat := if wraps && (vc == 1 || vc == 3 || vc == 5) then vc + 1 else vc

/-- A frame put at the end of its channel's queue on a link. -/
def Link.enqueue (k : Link) (f : Frame) : Link :=
  { k with queue := Tab.put [] k.queue f.vc (Tab.get [] k.queue f.vc ++ [f]) }

/-- The list that a slot packet in transit belongs to (R289): its sender and destination, FLAGS, COLL, HOP and KIND, a HOLE beside
the REDUCE units; none for a frame of any other kind. -/
def slotKey (f : Frame) : Option Nat :=
  match f.pay with
  | .coll b =>
    if f.vc = 0 then
      let k := (byteAt b 0).toNat
      some (((((f.src * 65536 + f.dst) * 256 + (byteAt b 1).toNat) * 65536 + beAt b 2 2) * 256 + (byteAt b 4).toNat) * 256 +
        (if k = 7 then 3 else k))
    else none
  | _ => none

/-- Which of t trained links a frame takes: for a slot packet its place in its list (R259, R289), else as R286 says. -/
def State.linkChoice (s : State) (f : Frame) (t : Nat) : Nat :=
  match slotKey f with
  | some k => Tab.get 0 s.fab.spread k % max 1 t
  | none => (f.src + f.dst + f.vc) % max 1 t

/-- A slot packet in transit is counted in its list. -/
def State.bumpSpread (s : State) (f : Frame) : State :=
  match slotKey f with
  | some k => { s with fab := { s.fab with spread := Tab.put 0 s.fab.spread k (Tab.get 0 s.fab.spread k + 1) } }
  | none => s

/-- A frame put on the link that R286 or R289 chooses in a direction; without a trained link it waits. -/
def State.enqueueDir (s : State) (dir : Nat) (f : Frame) : State :=
  let ts := s.trained dir
  match ts[s.linkChoice f ts.length]? with
  | some l => (s.setLink l ((s.link l).enqueue { f with vc := datelineVc (s.wraps dir) f.vc })).bumpSpread f
  | none => { s with fab := { s.fab with waiting := s.fab.waiting ++ [(dir, 0, f)] } }

/-- A frame routed on by its destination rank; one without a route is discarded and counted (R287). `inst` is the
counting link, 48 for a frame of this module's own. -/
def State.routeFrame (s : State) (inst : Nat) (f : Frame) : State :=
  if s.podSize ≤ f.dst || s.fab.absent.contains f.dst then s.count cFabUnroutable inst 1
  else match s.nextDir f.dst with
    | some dir => s.enqueueDir dir f
    | none => s.count cFabUnroutable inst 1

/-- A message to another module on a virtual channel, HOPS_LEFT 255 (Table 10.3). -/
def State.sendMsg (s : State) (dst vc : Nat) (p : Payload) : State :=
  s.routeFrame 48 ⟨vc, dst, s.rank, 255, p⟩

/-- A frame put on each UP link, but one, for its partner (R292). -/
def State.flood (s : State) (except : Option Nat) (p : Payload) : State :=
  s.upLinks.foldl (fun s l =>
    if except == some l then s
    else s.setLink l ((s.link l).enqueue ⟨7, (s.link l).partner, s.rank, 255, p⟩)) s

/-- Payload bytes of a frame (LEN of Table 10.3): stated for a collective packet and for an exchange entry (R225);
otherwise open (log entry 14). -/
def payloadLen : Payload → Nat
  | .coll b => b.length
  | .exch _ _ _ _ _ g => 64 * ceilDiv (16 + 4 * g.length) 64
  | .exchEnd .. => Config.payloadLen 1 0
  | .mirror _ _ _ _ _ r => Config.payloadLen 2 r.length
  | .mirrorAck .. => Config.payloadLen 3 0
  | .discard .. => Config.payloadLen 4 0
  | .discardAck .. => Config.payloadLen 5 0
  | .rowReq .. => Config.payloadLen 6 0
  | .rowReply _ _ _ _ r => Config.payloadLen 7 (r.getD []).length
  | .hint .. => Config.payloadLen 8 0
  | .replica _ _ _ _ _ v => Config.payloadLen 13 v.length
  | .repairReq .. => Config.payloadLen 9 0
  | .repairCopy _ _ _ b => Config.payloadLen 10 (b.getD []).length
  | .report _ _ _ n l => Config.payloadLen 11 (n.length + l.length)
  | .confirm .. => Config.payloadLen 12 0

/-- Payload bytes of a frame: stated for a collective packet, otherwise open (log entry 14). -/
def payloadBytes : Payload → List Byte
  | .coll b => b
  | p => (upTo (payloadLen p)).map (Config.payloadByte p)

/-- The header of a DATA frame (Table 10.3), big-endian (R9). -/
def dataHead (seq ack creditVc credit : Nat) (f : Frame) : List Byte :=
  [1#8, BitVec.ofNat 8 seq, BitVec.ofNat 8 ack, BitVec.ofNat 8 f.vc] ++ beBytes 2 (payloadLen f.pay) ++ beBytes 2 f.dst ++
    beBytes 2 f.src ++ [BitVec.ofNat 8 creditVc, BitVec.ofNat 8 f.hops] ++ beBytes 2 credit ++
    [BitVec.ofNat 8 (f.pay.ptype), 0#8]

/-- The frame that a header and a payload spell. -/
def headFrame (h : List Byte) (p : Payload) : Frame :=
  ⟨(byteAt h 3).toNat % 8, beAt h 6 2, beAt h 8 2, (byteAt h 11).toNat, p⟩

/-- The bytes of a CTRL frame (Table 10.3). -/
def ctrlBytes (kind seqRef creditVc credit : Nat) : List Byte :=
  let b := [2#8, BitVec.ofNat 8 kind, BitVec.ofNat 8 seqRef, BitVec.ofNat 8 creditVc] ++ beBytes 2 credit ++
    List.replicate 6 0#8
  b ++ fcsOf b

/-- A DATA frame sent on a link. -/
def State.sendData (s : State) (l seq ack creditVc credit : Nat) (f : Frame) : State :=
  let h := dataHead seq ack creditVc credit f
  s.emit (.fabData l h f.pay (fcsOf (h ++ payloadBytes f.pay)))

/-- Credit units a frame takes: ceil((16 + LEN) / 64) (R284). -/
def frameUnits (f : Frame) : Nat := ceilDiv (16 + payloadLen f.pay) 64

/-- Whether the device releases its data outputs (R479): DEVICE_STATE is RUN. -/
def State.running (s : State) : Bool := s.boot.state == 8

/-- An edge some ticks after another, modulo 2^48 (R72). -/
def edgeAfter (e n : Nat) : Nat := (e + n) % 2 ^ 48

/-! ### The schedule's edges (R84), which decide when the beacon of a tick holds its final flags -/

/-- Whether a decision falls due at the present edge. -/
def State.decisionDue (s : State) : Bool :=
  match s.sched.window with
  | some w => s.now == edgeAfter w.ts s.sched.lag
  | none => false

/-- Whether a gate or the vote is sampled at the present edge. -/
def State.sampleDue (s : State) : Bool :=
  s.sched.window.isNone && s.now == s.sched.sample && decide (1 ≤ s.sched.state) && decide (s.sched.state ≤ 9) &&
    s.sched.state != 6

/-- Whether the present edge is the reduce deadline. -/
def State.deadlineDue (s : State) : Bool :=
  s.sched.state == 6 && s.now == edgeAfter s.sched.edge (s.sched.budgets.getD 4 0)

/-- Whether the present edge is t_d + 6: PUBLISH completes whatever happens after t_d (R97). -/
def State.committedDue (s : State) : Bool := s.sched.pub == some s.now

/-- Whether a decided commit is between t_d and t_d + 6, also in a module that has been halted since t_d (R96, R97). -/
def State.publishing (s : State) : Bool := s.sched.pub.isSome

/-- Whether the schedule starts at the present edge. -/
def State.startDue (s : State) : Bool := s.sched.armed && !s.sched.active && s.now == s.dnum 0x600007 % 2 ^ 48

/-- Whether the re-map ends at the present edge. -/
def State.resumeDue (s : State) : Bool := s.sched.state == 13 && s.fab.remap.resume == some s.now

/-- Whether the schedule still has something to do at the present edge. -/
def State.edgeDue (s : State) : Bool :=
  s.running && (s.decisionDue || s.sampleDue || s.deadlineDue || s.committedDue || s.startDue || s.resumeDue)

/-- Whether an exchange entry or END that comes now is in time (R77, R228): before the reduce deadline edge of the step. One
from a partner whose Gate 1 edge lies before this module's is taken while this module's own decision is still to come. DEDUCED
(log entry 159). -/
def State.exchOpen (s : State) : Bool := s.sched.state == 5 || (s.sched.state == 6 && !s.deadlineDue)

/-! ### The schedule's halt, shared by several chapters -/

/-- STEP_ID and EPOCH (Table 3.7). -/
def State.stepId (s : State) : Nat := s.dnum 0x600009
def State.epoch (s : State) : Nat := s.dnum 0x60000A

/-- STEP_STATE becomes HALTED (12) with EV_STEP_HALTED (R78, R83, R93): a start that was awaited is off, for only a new commit
starts the schedule again. -/
def State.enterHalted (s : State) : State :=
  if s.sched.state = 12 then s
  else { s with sched := { s.sched with state := 12, window := none, active := false, armed := false } }.raiseDev 0x6012
    s.stepId 0

end Sys2Proof.Machine
end

