-- ==== Sys2Proof/Machine/Tables.lean ====
section
/-! DEFINITION. Objects (R192, Table 7.3) and embedding tables (R213 to R216, Tables 8.1 and 8.2): their descriptors'
fields, where a row's record lies, and which module serves it. -/

namespace Sys2Proof.Machine

/-! ### Objects -/

/-- An object descriptor (Table 7.3). -/
structure ObjDesc where
  policy   : Nat
  mirrored : Bool
  tile     : Nat
  rows     : Bool
  index    : Nat
  size     : Nat
  t0Unit   : Nat
  t1Addr   : Nat
  t2Addr   : Nat
  buddy    : Nat
  buddyIx  : Nat
  deriving DecidableEq, Repr

/-- The fields of a 64-byte object descriptor. -/
def objDesc (d : Vec) : ObjDesc :=
  let n := d.toNat
  { policy := bits n 2 0, mirrored := bit n 3, tile := bits n 4 4, rows := bit n 5, index := bits n 31 16,
    size := bits n 103 64, t0Unit := bits n 151 128, t1Addr := bits n 231 192, t2Addr := bits n 295 256,
    buddy := bits n 343 320, buddyIx := bits n 359 344 }

/-- The fields of an object descriptor but INDEX (Table 7.3), by their highest and lowest bits. -/
def objFields : List (Nat × Nat) := [(5, 0), (103, 64), (151, 128), (231, 192), (295, 256), (359, 320)]

/-- The descriptor of an object, when it exists. -/
def State.obj (s : State) (part ix : Nat) : Option ObjDesc :=
  (Tab.get none s.mem.objects (65536 * part + ix)).map objDesc

/-- The home of an object: tier and first byte (T0 counts tile × 768 MiB). -/
def ObjDesc.home (o : ObjDesc) : Nat × Nat :=
  if o.policy = 0 then (0, o.tile * scratchSize + 64 * o.t0Unit)
  else if o.policy = 1 then (1, o.t1Addr) else (2, o.t2Addr)

/-- The object of a partition that covers an address of a tier, with its index. -/
def State.objAt (s : State) (tier addr : Nat) : Option (Nat × Nat × ObjDesc) :=
  s.mem.objects.findSome? (fun e => match e.2 with
    | some d =>
      let o := objDesc d
      if o.home.1 == tier && inRange (o.home.2, o.size) addr then some (e.1 / 65536, e.1 % 65536, o) else none
    | none => none)

/-! ### Collectives -/

/-- A collective descriptor (Table 9.1): slot lengths by stage X, Y, Z. -/
structure CollDesc where
  reduce  : Bool
  gather  : Bool
  mirror  : Bool
  pfmt    : Nat
  bpe     : Nat
  len     : Nat
  gradObj : Nat
  param0  : Nat
  param1  : Nat
  stateObj : Nat
  hop     : List Nat
  scale   : Nat
  ag      : List Nat
  fence   : Nat
  doneEn  : Bool
  resEn   : Bool
  resUnit : Nat
  deriving DecidableEq, Repr

/-- The fields of a 64-byte collective descriptor. -/
def collDesc (d : Vec) : CollDesc :=
  let n := d.toNat
  { reduce := bit n 0, gather := bit n 1, mirror := bit n 2, pfmt := bits n 12 8, bpe := bits n 21 16,
    len := bits n 95 64, gradObj := bits n 143 128, param0 := bits n 159 144, param1 := bits n 175 160,
    stateObj := bits n 191 176, hop := [bits n 199 192, bits n 207 200, bits n 215 208], scale := bits n 223 216,
    ag := [bits n 231 224, bits n 239 232, bits n 247 240], fence := bits n 265 256, doneEn := bit n 266,
    resEn := bit n 267, resUnit := bits n 295 272 }

/-- The fields of a collective descriptor but INDEX (Table 9.1), by their highest and lowest bits. -/
def collFields : List (Nat × Nat) :=
  [(2, 0), (12, 8), (21, 16), (95, 64), (191, 128), (247, 192), (267, 256), (295, 272)]

/-- The object indices that a collective uses: an ignored field names nothing (R245). -/
def CollDesc.objects (c : CollDesc) : List Nat :=
  (if c.reduce then [c.gradObj] else []) ++ (if c.gather then [c.param0, c.param1] else []) ++
    (if c.mirror then [c.stateObj] else [])

/-- Whether a collective of the partition names an object (R247). -/
def State.collNames (s : State) (part i : Nat) : Bool :=
  s.coll.defs.any (fun e => match e.2 with
    | some d => e.1 / 256 == part && (collDesc d).objects.contains i
    | none => false)

/-! ### Tables -/

/-- An embedding table descriptor (Table 8.1). -/
structure TblDesc where
  elem     : Nat
  dim      : Nat
  opt      : Nat
  round    : Nat
  repl     : Bool
  score    : Bool
  crema    : Bool
  homeEu   : Nat
  salt     : Nat
  nshard   : Nat
  base     : Nat
  rows     : Nat
  homeObj  : Nat
  mirror   : Nat
  stageObj : Nat
  exchObj  : Nat
  replObj  : Nat
  hot      : Nat
  b1       : Nat
  b2       : Nat
  eps      : Nat
  wd       : Nat
  deriving DecidableEq, Repr

/-- The fields of a 64-byte table descriptor. -/
def tblDesc (d : Vec) : TblDesc :=
  let n := d.toNat
  { elem := bits n 4 0, dim := 16 * bits n 10 5, opt := bits n 13 11, round := bits n 16 14, repl := bit n 17,
    score := bit n 18, crema := bit n 19, homeEu := bits n 23 20, salt := bits n 127 64, nshard := bits n 143 128,
    base := bits n 157 144, rows := bits n 231 192, homeObj := bits n 271 256, mirror := bits n 287 272,
    stageObj := bits n 303 288, exchObj := bits n 319 304, replObj := bits n 335 320, hot := bits n 351 336,
    b1 := bits n 415 384, b2 := bits n 447 416, eps := bits n 479 448, wd := bits n 511 480 }

/-- The fields of a table descriptor but INDEX (Table 8.1), by their highest and lowest bits. -/
def tblFields : List (Nat × Nat) := [(23, 0), (127, 64), (157, 128), (231, 192), (351, 256), (511, 384)]

/-- The descriptor of a table, when it exists. -/
def State.tbl (s : State) (part ix : Nat) : Option TblDesc :=
  (Tab.get none s.emb.tables (4096 * part + ix)).map tblDesc

/-- V of Table 8.2: bytes of the value part. -/
def TblDesc.valueLen (t : TblDesc) : Nat :=
  if t.elem = 1 || t.elem = 2 then 2 * t.dim else if t.elem = 17 then t.dim + 4 else t.dim

/-- S of Table 8.2: bytes of optimizer state. -/
def TblDesc.stateLen (t : TblDesc) : Nat :=
  if t.opt = 2 then 4 * t.dim else if t.opt = 3 then 4 else if t.opt = 4 then 8 * t.dim + 4
  else if t.opt = 5 then 2 * t.dim + 12 else 0

/-- REC of R216. -/
def TblDesc.recLen (t : TblDesc) : Nat := 64 * ceilDiv (8 + t.valueLen + t.stateLen) 64

/-- RREC of R216. -/
def TblDesc.rrecLen (t : TblDesc) : Nat := 64 * ceilDiv (8 + t.valueLen) 64

/-- XE of R225. -/
def TblDesc.exchLen (t : TblDesc) : Nat := 64 * ceilDiv (16 + 4 * t.dim) 64

/-- Shard and slot of a row ID (R214). -/
def TblDesc.locate (t : TblDesc) (id : Nat) : Nat × Nat :=
  let h := (srMix (BitVec.ofNat 64 id ^^^ BitVec.ofNat 64 t.salt)).toNat
  (h % max 1 t.nshard, h / max 1 t.nshard % max 1 t.rows)

/-- The rank that holds a shard, and the one that serves it (R214). -/
def TblDesc.shardRank (t : TblDesc) (shard : Nat) : Nat := t.base + shard

/-- SERVE_MAP of a rank (R214, R236). -/
def State.serves (s : State) (rank : Nat) : Nat := leAt (s.dget 0x730001) (2 * rank) 2

/-- BUDDY_MAP of a rank (R236). -/
def State.buddyOf (s : State) (rank : Nat) : Nat := leAt (s.dget 0x730004) (2 * rank) 2

/-- The object of this module that holds the records of a shard: HOME_OBJ of its own, MIRROR_OBJ of the one that it backs up
or has adopted (R216, R236). -/
def State.recordObj (s : State) (t : TblDesc) (shard : Nat) : Option Nat :=
  let r := t.shardRank shard
  if r = s.rank then some t.homeObj
  else if t.mirror != 0xFFFF && (s.buddyOf r == s.rank || s.serves r == s.rank) then some t.mirror else none

/-- The home of a record: tier, address and policy (R216). -/
def State.recordAt (s : State) (part : Nat) (t : TblDesc) (shard slot : Nat) : Option (Nat × Nat × Nat) :=
  match s.recordObj t shard with
  | some i => (s.obj part i).map (fun o => (o.home.1, o.home.2 + slot * t.recLen, o.policy))
  | none => none

/-- The home of a replica record: tier and address (R216). -/
def State.replicaAt (s : State) (part : Nat) (t : TblDesc) (shard slot : Nat) : Option (Nat × Nat) :=
  (s.obj part t.replObj).map (fun o => (o.home.1, o.home.2 + (shard * t.rows + slot) * t.rrecLen))

/-! ### Caches (R197, R203, R207, R235, R237) -/

/-- The crema cache's set of a key (R237). -/
def cremaSet (k : RowKey) : Nat :=
  let kh := k.part * 2 ^ 26 + k.table * 2 ^ 14 + k.shard
  (srMix (srMix (BitVec.ofNat 64 kh) ^^^ BitVec.ofNat 64 k.slot)).toNat % 32768

/-- The place of a key in the crema cache. -/
def State.cremaFind (s : State) (k : RowKey) : Option (Nat × CremaLine) :=
  (upTo 8).findSome? (fun w => match Tab.get none s.emb.crema (8 * cremaSet k + w) with
    | some l => if l.key == k then some (8 * cremaSet k + w, l) else none
    | none => none)

/-- A crema place emptied or filled. -/
def State.setCrema (s : State) (i : Nat) (l : Option CremaLine) : State :=
  { s with emb := { s.emb with crema := Tab.put none s.emb.crema i l } }

/-- Whether two byte ranges overlap. -/
def overlaps (a n b m : Nat) : Bool := decide (a < b + m) && decide (b < a + n)

/-- The bytes of a row that lie here (R242): its record and its replica record, each as tier, address and length. -/
def State.rowPlaces (s : State) (k : RowKey) : List (Nat × Nat × Nat) :=
  match s.tbl k.part k.table with
  | none => []
  | some t =>
    ((s.recordAt k.part t k.shard k.slot).map (fun h => (h.1, h.2.1, t.recLen))).toList ++
      (if t.repl then ((s.replicaAt k.part t k.shard k.slot).map (fun h => (h.1, h.2, t.rrecLen))).toList else [])

/-- Whether a row's record or replica record overlaps [a, a+n) of a tier (R242). -/
def State.rowAffected (s : State) (k : RowKey) (tier a n : Nat) : Bool :=
  (s.rowPlaces k).any (fun h => h.1 == tier && overlaps h.2.1 h.2.2 a n)

/-- The rows of a shard whose records, from `base` of T2, overlap 256 bytes from `a`. -/
def shardLineRows (part table : Nat) (t : TblDesc) (shard base a : Nat) : List RowKey :=
  let first := (a - base) / t.recLen
  (((upTo (256 / t.recLen + 2)).map (first + ·)).filter (fun k =>
    decide (k < t.rows) && overlaps (base + k * t.recLen) t.recLen a 256)).map (fun k => ⟨part, table, shard, k⟩)

/-- The rows that a line of the row cache holds bytes of: those whose record overlaps its granule of T2. -/
def State.lineRows (s : State) (a : Nat) : List RowKey :=
  s.emb.tables.flatMap (fun e => match e.2 with
    | none => []
    | some d =>
      let t := tblDesc d
      (upTo t.nshard).flatMap (fun sh => match s.recordAt (e.1 / 4096) t sh 0 with
        | some h => if h.1 = 2 then shardLineRows (e.1 / 4096) (e.1 % 4096) t sh h.2.1 a else []
        | none => []))

/-- Rows affected by a bad granule leave the crema cache and the row cache, with every line that holds bytes of them (R203). -/
def State.invalidateRows (s : State) (tier a n : Nat) : State :=
  { s with emb := { s.emb with
      crema := s.emb.crema.filter (fun e => match e.2 with
        | some l => !s.rowAffected l.key tier a n
        | none => true),
      rowCache := s.emb.rowCache.filter (fun e => match e.2 with
        | some l => !(tier == 2 && overlaps l.addr 256 a n) && !(s.lineRows l.addr).any (fun k => s.rowAffected k tier a n)
        | none => true) } }

/-- A place of the row cache filled or emptied. -/
def State.setRc (s : State) (i : Nat) (l : Option RcLine) : State :=
  { s with emb := { s.emb with rowCache := Tab.put none s.emb.rowCache i l } }

/-- An uncorrectable error in a place of the row cache: a line there leaves the cache, and nothing is poisoned (R207). -/
def State.rcLineBad (s : State) (i : Nat) : State :=
  if (Tab.get none s.emb.rowCache i).isNone then s else (s.setRc i none).count cCacheUeInvalidate 0 1

/-- A write to T2 invalidates every cached line it overlaps (R197). -/
def State.dropLines (s : State) (a n : Nat) : State :=
  { s with emb := { s.emb with rowCache := s.emb.rowCache.filter (fun e => match e.2 with
      | some l => !overlaps l.addr 256 a n
      | none => true) } }

end Sys2Proof.Machine
end

