-- ==== Sys2Proof/Machine/Mem.lean ====
section
/-! DEFINITION. The memory tiers (file 07): address maps (R180, R183, R187), error correction and poison (R199 to R208),
scrub (R209), and the object commands (R192 to R196). -/

namespace Sys2Proof.Machine

/-! ### Address maps -/

/-- Bank and position of a scratch byte offset (R180). -/
def scratchBank (a : Nat) : Nat × Nat := (a / 128 % 96, a / 128 / 96)

/-- Stack, pseudo-channel and offset of a T1 address under seven masks, with n targets (R183). -/
def t1Map (n : Nat) (mask : Nat → Nat) (a : Nat) : Nat × Nat × Nat :=
  let g := a / 256
  let G := g / n
  let h := ((upTo (log2n n)).map (fun j => popc 24 (G &&& mask j) % 2 * 2 ^ j)).foldl (· + ·) 0
  let t := (g % n) ^^^ h
  (t / 16, t % 16, G * 256 + a % 256)

/-- The T1 map in force: the masks of this boot (R184). -/
def State.t1Place (s : State) (a : Nat) : Nat × Nat × Nat :=
  t1Map (if s.variant == .s then 64 else 128) (fun j => Config.ilMask s.mem.boot j) a

/-- Device and device address of a T2 address (R187). -/
def t2Map (a : Nat) : Nat × Nat := (bits a 9 8, a / 1024 * 256 + a % 256)

/-- First byte of the row cache region (R197). -/
def State.rowCacheBase (s : State) : Nat := s.variant.t1Size - s.dnum 0x700004 * 2 ^ 30

/-! ### Granules and poison (R199 to R208) -/

/-- Bytes of a poison granule (Table 7.8). -/
def granLen (tier : Nat) : Nat := if tier = 0 then 128 else 256

/-- First byte of the granule of an address. -/
def granBase (tier a : Nat) : Nat := alignDown (granLen tier) a

/-- The granules that [a, a+n) overlaps, ascending. -/
def granules (tier a n : Nat) : List Nat :=
  if n = 0 then []
  else
    let g := granLen tier
    (upTo ((a + n - 1) / g - a / g + 1)).map (fun i => (a / g + i) * g)

/-- The poison record of a granule. -/
def State.poisonAt (s : State) (tier base : Nat) : Option Poison :=
  s.mem.poison.find? (fun p => p.gran.tier == tier && p.gran.addr == base)

/-- Whether a granule lies behind a CXL device or in an HBM stack that is lost: its data is not served again (R190). -/
def State.granuleGone (s : State) (tier base : Nat) : Bool :=
  if tier = 2 then s.mem.cxlDown.contains (t2Map base).1
  else decide (tier = 1) && s.mem.hbmFail.contains (s.t1Place base).1

/-- Whether [a, a+n) of a tier overlaps a poisoned granule, or one that is lost with its device or stack, which its readers
meet as poisoned. DESIGN CHOICE (log entry 160). -/
def State.poisoned (s : State) (tier a n : Nat) : Bool :=
  s.mem.poison.any (fun p => p.gran.tier == tier && overlaps p.gran.addr (granLen tier) a n) ||
    (!(s.mem.cxlDown.isEmpty && s.mem.hbmFail.isEmpty) && (granules tier a n).any (s.granuleGone tier))

/-- The address that logs and events report: a T0 offset within its tile, a T1 or T2 address (Table 7.11). -/
def reportAddr (tier a : Nat) : Nat := if tier = 0 then a % scratchSize else a

/-- The counters of corrected and of uncorrectable errors of a tier. -/
def ceCounter (tier : Nat) : Nat := if tier = 0 then cT0Ce else if tier = 1 then cT1Ce else cT2Ce
def ueCounter (tier : Nat) : Nat := if tier = 0 then cT0Ue else if tier = 1 then cT1Ue else cT2Ue

/-- The log's newest record of a granule takes an outcome: one repairing or lost, for a lost granule is cleared by a whole
write too (Table 7.11, R205). -/
def State.ueOutcome (s : State) (tier base outcome ns : Nat) : State :=
  let log := match s.mem.ueLog.findIdx? (fun r => r.tier == tier && r.addr == reportAddr tier base &&
      (bit r.flags 2 == (tier == 0 && decide (scratchSize ≤ base))) && (r.outcome == 0 || r.outcome == 2)) with
    | some i => s.mem.ueLog.modify i (fun r => { r with outcome := outcome, ns := if outcome = 1 then ns else 0 })
    | none => s.mem.ueLog
  { s with mem := { s.mem with ueLog := log } }

/-- The mirrored object whose buddy can still supply a granule (R202, R204): partition, index, descriptor. -/
def State.repairable (s : State) (tier base : Nat) : Option (Nat × Nat × ObjDesc) :=
  if tier = 0 then none
  else match s.objAt tier base with
    | some (p, i, o) => if o.mirrored && !s.fab.absent.contains (s.rankOf o.buddy) then some (p, i, o) else none
    | none => none

/-- A granule that cannot be repaired is lost (R204). -/
def State.loseGranule (s : State) (tier base : Nat) : State :=
  let ps := s.mem.poison.map (fun p => if p.gran.tier == tier && p.gran.addr == base then
    { p with repair := false, lost := true } else p)
  (({ s with mem := { s.mem with poison := ps } }.ueOutcome tier base 2 0).count cMemUeLost 0 1).raiseDev 0x7003 tier
    (reportAddr tier base)

/-- A granule is poisoned (R201): counted, reported and logged; its rows leave the caches; a repair starts from the mirror
`rep`, or the granule is lost. -/
def State.poisonGranule (s : State) (tier base : Nat) (scrub : Bool) (rep : Option (Nat × Nat × ObjDesc)) : State :=
  let owner := (s.addrOwner tier base).getD 0xFF
  let ob := s.objAt tier base
  let r : UeRec :=
    { tick := s.now, tier := tier, outcome := 0, part := owner,
      flags := b2n ob.isSome + 2 * b2n scrub + 4 * b2n (tier == 0 && decide (scratchSize ≤ base)),
      object := (match ob with | some (_, i, _) => i | none => 0), addr := reportAddr tier base, ns := 0 }
  let p : Poison := ⟨⟨tier, base⟩, s.now, scrub, rep.isSome, false, false⟩
  let s := { s with mem := { s.mem with poison := s.mem.poison ++ [p], ueLog := (r :: s.mem.ueLog).take 16 } }
  let s := (s.count (ueCounter tier) 0 1).raiseDev 0x7001 tier (reportAddr tier base)
  let s := s.invalidateRows tier base (granLen tier)
  match rep with
  | some (pt, _, o) => s.sendMsg (s.rankOf o.buddy) 3 (.repairReq pt o.buddyIx (base - o.home.2) (granLen tier) s.rank)
  | none => s.loseGranule tier base

/-- An uncorrectable error is found (R201). In the region of the row cache it invalidates the line whose 256 bytes they are, way w
of set n at (16 n + w) × 256 of the region, and poisons nothing (R207, log entry 161). A granule already poisoned changes
nothing. -/
def State.detectUe (s : State) (tier addr : Nat) (scrub : Bool) : State :=
  let base := granBase tier addr
  if tier = 1 ∧ s.rowCacheBase ≤ base then s.rcLineBad ((base - s.rowCacheBase) / 256)
  else if (s.poisonAt tier base).isSome then s else s.poisonGranule tier base scrub (s.repairable tier base)

/-- A granule is poisoned with nothing to repair it from (R234): one under repair is lost too. -/
def State.poisonLost (s : State) (tier base : Nat) : State :=
  match s.poisonAt tier base with
  | some p => if p.repair then s.loseGranule tier base else s
  | none => s.poisonGranule tier base false none

/-- Whether a training-side read of [a, a+n) must wait for a repair (R206): FX7 compatibility mode. -/
def State.mustWait (s : State) (tier a n : Nat) : Bool :=
  s.dnum 0x700001 == 1 && s.mem.poison.any (fun p => p.repair && p.gran.tier == tier &&
    overlaps p.gran.addr (granLen tier) a n)

/-- The granules under repair of [a, a+n) have a waiter (R206). -/
def State.noteWait (s : State) (tier a n : Nat) : State :=
  let g := (s.mem.poison.filter (fun p => p.repair && p.gran.tier == tier &&
    overlaps p.gran.addr (granLen tier) a n)).map (·.gran)
  { s with mem := { s.mem with stall := (s.mem.stall ++ g).eraseDups } }

/-- What the error correction of a read of a tier reports is taken in: corrected errors and write-backs dropped are
counted (R200), uncorrectable ones detected (R201). -/
def State.noteEcc (s : State) (tier : Nat) (e : Ecc) (scrub : Bool) : State :=
  e.ue.foldl (fun s a => s.detectUe tier a scrub) ((s.count (ceCounter tier) 0 e.ce).count cScrubWbDropped 0 e.wb)

/-- The poison of a granule ends (R202, R205). -/
def State.clearPoison (s : State) (tier base : Nat) : State :=
  let ps := s.mem.poison.filter (fun p => !(p.gran.tier == tier && p.gran.addr == base))
  { s with mem := { s.mem with poison := ps } }

/-! ### Bytes of a tier -/

/-- n bytes of a tier from address a. -/
def State.memRead (s : State) (tier a n : Nat) : List Byte :=
  if tier = 0 then s.t0.readN a n else if tier = 1 then s.t1.readN a n else s.t2.readN a n

/-- Bytes put into a tier without regard to poison. -/
def State.memPut (s : State) (tier a : Nat) (b : List Byte) : State :=
  if tier = 0 then { s with t0 := s.t0.writeN a b }
  else if tier = 1 then { s with t1 := s.t1.writeN a b } else { s with t2 := s.t2.writeN a b }

/-- The part of a write that falls on one granule (R205): a whole poisoned granule is written and its poison ends, part
of one has no effect and is counted. -/
def State.writeGranule (s : State) (tier a : Nat) (b : List Byte) (base : Nat) : State :=
  let lo := max a base
  let hi := min (a + b.length) (base + granLen tier)
  let part := (b.drop (lo - a)).take (hi - lo)
  match s.poisonAt tier base with
  | none => s.memPut tier lo part
  | some _ =>
    if lo = base ∧ hi = base + granLen tier then
      ((s.ueOutcome tier base 3 0).clearPoison tier base).memPut tier lo part
    else s.count cMemPoisonWriteDrop 0 1

/-- A write to a tier (R205); a write to T2 by other than an EU also invalidates cached lines (R197). -/
def State.memWrite (s : State) (tier a : Nat) (b : List Byte) : State :=
  (granules tier a b.length).foldl (fun s g => s.writeGranule tier a b g) s

/-! ### Repair (R202) -/

/-- The buddy's bytes come home, or its copy is bad too; a repair no longer in progress changes nothing. -/
def State.repairDone (s : State) (tier addr : Nat) (bytes : Option (List Byte)) (ns : Nat) : State :=
  let base := granBase tier addr
  match s.poisonAt tier base with
  | none => s
  | some p =>
    if !p.repair then s
    else match bytes with
      | none => s.loseGranule tier base
      | some b =>
        ((((s.ueOutcome tier base 1 ns).clearPoison tier base).memPut tier base (padTo (granLen tier) b)).count
          cMemRepair 0 1).raiseDev 0x7002 tier (reportAddr tier base)

/-- MEM_REPAIR_LATE (R202): a repair still open 20 µs after detection, once; a repair runs in ON alone (R508). -/
def memRepairLate (o : GranuleOp) (s : State) : State :=
  let base := granBase o.tier o.addr
  match s.poisonAt o.tier base with
  | none => s
  | some p =>
    if s.power != .on || !p.repair || p.late then s
    else
      let ps := s.mem.poison.map (fun q => if q.gran == p.gran then { q with late := true } else q)
      ({ s with mem := { s.mem with poison := ps } }.count cMemRepairLate 0 1).raiseDev 0x7004 o.tier
        (reportAddr o.tier base)

/-- REPAIR_REQUEST_SERVE (R202): the bytes at the same offset of the mirror object, or none when they are bad here. A module
without its links and tiers serves none (R508). -/
def repairServe (o : RepairReqOp) (s : State) : State :=
  if s.power != .on then s
  else match s.obj o.part.toNat o.obj.toNat with
  | none => s.sendMsg o.src.toNat 5 (.repairCopy o.part.toNat o.obj.toNat o.offset none)
  | some d =>
    let tier := d.home.1
    let a := d.home.2 + o.offset
    let s := s.noteEcc tier o.ecc false
    let bytes := if d.size < o.offset + o.len || s.poisoned tier a o.len then none else some (s.memRead tier a o.len)
    s.sendMsg o.src.toNat 5 (.repairCopy o.part.toNat o.obj.toNat o.offset bytes)

/-! ### Scrub, and the T2 path's failures (R190, R209, R210) -/

/-- Whether background work runs (R209, R494): from step 4 of startup until a trip or the loss of power. -/
def State.scrubbing (s : State) : Bool :=
  (decide (4 ≤ s.boot.state) && decide (s.boot.state ≤ 8)) || (s.boot.state == 9 && (s.boot.fault == 11 || s.boot.fault == 12))

/-- Whether it holds them (R477). -/
def State.held (s : State) : Bool := s.boot.state == 6 || s.boot.state == 7

/-- Whether MG and the MC's services work (R466, R470). -/
def State.mcServes (s : State) : Bool := decide (6 ≤ s.boot.state) && decide (s.boot.state ≤ 9)

/-! ### Local memory words that a scrub found uncorrectable (R139, R495) -/

/-- Whether bytes of local memory meet such a word. -/
def State.lmPoisoned (s : State) (key n : Nat) : Bool := s.mem.lmBad.any (fun w => overlaps w 8 key n)

/-- Bytes written to local memory; a word written whole is good again. -/
def State.lmWrite (s : State) (key : Nat) (b : List Byte) : State :=
  let keep := s.mem.lmBad.filter (fun w => !(decide (key ≤ w) && decide (w + 8 ≤ key + b.length)))
  { s with lmem := s.lmem.writeN key b, mem := { s.mem with lmBad := keep } }

/-- SCRATCH_SCRUB (R209): one line of every bank; a pass ends after 65,536 turns. -/
def scratchScrub (o : ScrubOp) (s : State) : State :=
  if !s.scrubbing then s
  else
    let p := s.mem.t0Scrub + 1
    let s := { s with mem := { s.mem with t0Scrub := p % 65536 } }.noteEcc 0 o.ecc true
    if p = 65536 then s.count cScrubPassT0 0 1 else s

/-- HBM_PATROL (R209): one granule of every pseudo-channel; a pass ends after 8,789,062 groups. -/
def hbmPatrol (o : ScrubOp) (s : State) : State :=
  if !s.scrubbing then s
  else
    let p := s.mem.t1Patrol + 1
    let s := { s with mem := { s.mem with t1Patrol := p % 8789062 } }.noteEcc 1 o.ecc true
    if p = 8789062 then s.count cScrubPassT1 0 1 else s

/-- CXL_LINK_DEGRADED (R190); the X links are powered in ON alone (R508). -/
def cxlDegraded (o : CxlOp) (s : State) : State :=
  if s.power != .on then s
  else ({ s with mem := { s.mem with cxlWidth := Tab.put 0 s.mem.cxlWidth o.dev.toNat o.width } }.count
    cCxlWidthDown 0 1).raiseDev 0x7005 o.dev.toNat o.width

/-- CXL_LINK_DOWN (R190, R291): the module reports itself absent; the X links are powered in ON alone (R508). -/
def cxlDown (o : CxlOp) (s : State) : State :=
  if s.power != .on then s
  else { s with mem := { s.mem with cxlDown := s.mem.cxlDown ++ [o.dev.toNat] },
                fab := { s.fab with leaving := true } }.raiseDev 0x7006 o.dev.toNat 0

/-- HBM_STACK_FAIL (R190, R291); an absent stack has no function (R1), and the stacks are powered in ON alone
(R508). -/
def hbmFail (o : HbmOp) (s : State) : State :=
  if s.power != .on || s.variant == .s && decide (4 ≤ o.stack.toNat) then s
  else { s with mem := { s.mem with hbmFail := s.mem.hbmFail ++ [o.stack.toNat] },
                fab := { s.fab with leaving := true } }.raiseDev 0x7007 o.stack.toNat 0

/-- CXL_EVENT_RECORD (R188, R200, R201, R209): from a device that has power (R508). -/
def cxlEvent (o : CxlEventOp) (s : State) : State :=
  if s.power == .off then s
  else if o.corrected then s.count cT2Ce 0 1 else s.detectUe 2 o.addr true

/-! ### Objects (R192 to R196) -/

/-- ST_ status values (Table 16.9). -/
def stOk : Nat := 0
def stBadOpcode : Nat := 1
def stNoSuchEntry : Nat := 2
def stDenied : Nat := 3
def stReadOnly : Nat := 4
def stStagedOnly : Nat := 5
def stNotHeld : Nat := 6
def stType : Nat := 7
def stBadLength : Nat := 8
def stBadValue : Nat := 9
def stStaleSeq : Nat := 0x0A
def stStageLimit : Nat := 0x0B
def stBlockOrder : Nat := 0x0C
def stNoSubscription : Nat := 0x0D
def stBadFormat : Nat := 0x20
def stBadRounding : Nat := 0x21
def stBadShape : Nat := 0x22
def stBadLayout : Nat := 0x23
def stBadAddress : Nat := 0x24
def stPoison : Nat := 0x25
def stAbsentUnit : Nat := 0x2A
def stNoObject : Nat := 0x40
def stNoSuchObject : Nat := 0x41
def stObjectInUse : Nat := 0x42
def stNoTable : Nat := 0x43
def stNoSuchTable : Nat := 0x44
def stNoCollective : Nat := 0x45
def stNoSuchCollective : Nat := 0x46
def stNoQueue : Nat := 0x47
def stNoSuchQueue : Nat := 0x48
def stResourceConflict : Nat := 0x49
def stPartActive : Nat := 0x4A
def stSchedRunning : Nat := 0x60
def stPlanInvalid : Nat := 0x61
def stStartLate : Nat := 0x62
def stNotRemap : Nat := 0x63
def stShotRate : Nat := 0x64
def stRulesDraining : Nat := 0x65
def stRebalanceOn : Nat := 0x66
def stBankBusy : Nat := 0x67

/-- A mailbox command's answer: the state, the status and the response payload. -/
structure Answer where
  st     : State
  status : Nat
  resp   : List Byte := []

/-- The first of a list of checks that fails decides the status. -/
def firstFail : List (Bool × Nat) → Nat
  | [] => stOk
  | (b, st) :: r => if b then st else firstFail r

/-- The lowest index below `n` that is free in a table whose keys of this partition start at `base`. -/
def lowestFree (used : Nat → Bool) (n : Nat) : Option Nat := (upTo n).find? (fun i => !used i)

/-- Why an extent outside a partition's range is a violation (Table 15.7): 0 another partition's, 1 nobody's. -/
def State.rangeReason (s : State) (part tier a n : Nat) : Nat :=
  if (upTo 4).any (fun q => q != part && s.ptEnabled q &&
      (if tier = 0 then let r := s.ptScratch q (a / scratchSize); overlaps r.1 r.2 (a % scratchSize) n
       else let r := if tier = 1 then s.ptT1 q else s.ptT2 q; overlaps r.1 r.2 a n)) then 0 else 1

/-- Whether an extent lies in a partition's range of its tier and tile. -/
def State.inPart (s : State) (part tier a n : Nat) : Bool :=
  if tier = 0 then covers (s.ptScratch part (a / scratchSize)) (a % scratchSize) n
  else if tier = 1 then covers (s.ptT1 part) a n else covers (s.ptT2 part) a n

/-- OBJ_ALLOC (R194, Table 7.6). A T0_UNIT beyond the tile's scratch is outside every range, whatever the other tile holds
there. A payload of another length than 64 bytes is padded with zeros or cut: DESIGN CHOICE (log entry 197). -/
def State.objAlloc (s : State) (part : Nat) (payload : List Byte) : Answer :=
  let d := BitVec.ofNat 512 (leNat (padTo 64 payload))
  let o := objDesc d
  let h := o.home
  let aligned := if o.policy = 0 then o.size % 64 == 0 else o.size % 256 == 0 && h.2 % 256 == 0
  let beyond := o.policy == 0 && decide (scratchSize ≤ 64 * o.t0Unit)
  let outside := beyond || !s.inPart part h.1 h.2 o.size
  let me := s.rank
  let bud := leAt (s.dget 0x730004) (2 * me) 2
  match lowestFree (fun i => (Tab.get none s.mem.objects (65536 * part + i)).isSome) 65536 with
  | none => ⟨s.count cObjAllocFail part 1, stNoObject, []⟩
  | some i =>
    let st := firstFail [
      (decide (4 ≤ o.policy) || decide (o.size = 0) || (o.policy == 0 && (o.mirrored || o.rows)) ||
        (o.mirrored && (bud == 0xFFFF || o.buddy != s.coordOf bud)), stBadValue),
      (!aligned || outside || (h.1 == 1 && decide (s.rowCacheBase < h.2 + o.size)), stBadAddress),
      (s.mem.objects.any (fun e => match e.2 with
        | some q => e.1 / 65536 == part && (let w := (objDesc q).home
            w.1 == h.1 && (w.1 != 0 || w.2 / scratchSize == h.2 / scratchSize) &&
            overlaps w.2 (objDesc q).size h.2 o.size)
        | none => false), stBadLayout)]
    if st = stOk then
      let d' := BitVec.ofNat 512 (keepBits objFields d.toNat + i * 65536)
      ⟨{ s with mem := { s.mem with objects := Tab.put none s.mem.objects (65536 * part + i) (some d') } }.count
        cObjAlloc 0 1, stOk, leBytes 64 d'.toNat⟩
    else if st = stBadAddress && outside then
      ⟨s.violate part 6 (if beyond then 1 else s.rangeReason part h.1 h.2 o.size) h.2, st, []⟩
    else ⟨s, st, []⟩

/-- Whether a table or a collective of the partition names an object (R196, R247). -/
def State.objNamed (s : State) (part i : Nat) : Bool :=
  s.collNames part i || s.emb.tables.any (fun e => match e.2 with
    | some d => e.1 / 4096 == part && (let t := tblDesc d
        t.homeObj == i || (t.mirror == i && t.mirror != 0xFFFF) || t.stageObj == i || t.exchObj == i ||
        (t.repl && t.replObj == i))
    | none => false)

/-- The repairs in progress on an object's granules end as lost when it is freed (R196). -/
def State.loseObject (s : State) (o : ObjDesc) : State :=
  (s.mem.poison.filter (fun p => p.repair && p.gran.tier == o.home.1 && inRange (o.home.2, o.size) p.gran.addr)).foldl
    (fun s p => s.loseGranule p.gran.tier p.gran.addr) s

/-- An object removed from its table. -/
def State.dropObject (s : State) (part i : Nat) : State :=
  { s with mem := { s.mem with objects := Tab.put none s.mem.objects (65536 * part + i) none } }

/-- OBJ_FREE (R194, R196). -/
def State.objFree (s : State) (part : Nat) (payload : List Byte) : Answer :=
  if payload.length ≠ 2 then ⟨s, stBadLength, []⟩
  else
    let i := leNat payload
    match s.obj part i with
    | none => ⟨s, stNoSuchObject, []⟩
    | some o =>
      if s.objNamed part i then ⟨s, stObjectInUse, []⟩
      else ⟨((s.dropObject part i).loseObject o).count cObjFree 0 1, stOk, []⟩

/-- OBJ_QUERY (R194, R196). -/
def State.objQuery (s : State) (part : Nat) (payload : List Byte) : Answer :=
  if payload.length ≠ 2 then ⟨s, stBadLength, []⟩
  else match Tab.get none s.mem.objects (65536 * part + leNat payload) with
    | some d => ⟨s, stOk, leBytes 64 d.toNat⟩
    | none => ⟨s, stNoSuchObject, []⟩

/-! ### The mailbox's response (R432) -/

/-- The state with a mailbox replaced. -/
def State.setMbx (s : State) (who : Nat) (m : Mailbox) : State :=
  { s with host := { s.host with mbx := Tab.put {} s.host.mbx who m } }

/-- The response buffer, DONE and the interrupt; a response after a host reset is discarded (R436). -/
def State.mbxRespond (s : State) (who cmd status tag : Nat) (resp : List Byte) : State :=
  let m := Tab.get {} s.host.mbx who
  if m.discard then s.setMbx who { m with busy := false, discard := false }
  else
    let b := leBytes 2 cmd ++ leBytes 2 status ++ leBytes 4 resp.length ++ leBytes 4 tag ++ leBytes 4 0 ++ resp
    let s := s.setMbx who { m with busy := false, done := true, resp := b }
    if m.irqEn && decide (who < 4) then s.msix who m.vector [] else s

/-- A request in a partition's mailbox (R432, Table 15.9): header and payload in the request buffer, and BUSY. -/
def State.mbxAsk (s : State) (cmd : Nat) (o : MbxCmdOp) : State :=
  let m := Tab.get {} s.host.mbx o.part.toNat
  let b := leBytes 2 cmd ++ leBytes 2 0 ++ leBytes 4 o.payload.length ++ leBytes 4 o.tag.toNat ++ leBytes 4 0 ++ o.payload
  s.setMbx o.part.toNat { m with busy := true, req := m.req.writeN 0 (b.take 65536) }

/-- A GO that finds BUSY (R432). -/
def State.mbxOverrun (s : State) (who : Nat) : State :=
  let s := s.setMbx who { Tab.get {} s.host.mbx who with overrun := true }
  if who < 4 then s.count cPtMbxBusy who 1 else s

/-- Whether the MC executes a request (R446): a commit whose bank checks run, or a READ that waits for its sample (R459). -/
def State.mcBusy (s : State) : Bool := s.dap.busy.isSome || s.dap.sample.isSome

/-- A command that a host gives through its partition's mailbox (R422, R432): its request and GO. It is run and answered, or waits
where the MC executes another request (R446, R456). -/
def State.mbxRun (s : State) (cmd : Nat) (o : MbxCmdOp) (f : State → Nat → List Byte → Answer) : State :=
  let p := o.part.toNat
  if !s.ptEnabled p then s
  else if (Tab.get ({} : Mailbox) s.host.mbx p).busy then s.mbxOverrun p
  else
    let s := s.mbxAsk cmd o
    if s.mcBusy then { s with dap := { s.dap with queue := s.dap.queue ++ [.mbx p] } }
    else
      let a := f s p o.payload
      a.st.mbxRespond p cmd a.status o.tag.toNat a.resp

end Sys2Proof.Machine
end

