-- ==== Sys2Proof/Machine/Access.lean ====
section
/-! DEFINITION. Who may reach a unit: the partition of a requester (R136, R420, R423, R433) and the admission of its
accesses to register blocks. -/

namespace Sys2Proof.Machine

/-- The partition a requester acts for. -/
def State.reqPart (s : State) : Requester → Option Nat
  | .core k => s.coreOwner k.toNat
  | .host p => some p.toNat
  | .mc => none

/-- An exception: cause of Table 5.7, lowest faulting lane, faulting address. -/
structure Exc where
  cause : Nat
  lane  : Nat
  addr  : Nat
  deriving DecidableEq, Repr

/-- Causes of Table 5.7. -/
def excIllegal : Exc := ⟨1, 0, 0⟩
def excFormat : Exc := ⟨2, 0, 0⟩
def excRounding : Exc := ⟨3, 0, 0⟩

/-- Taking an exception (R145): EPC, CAUSE and EADDR are written; the handler runs, or the core is FAULTED. -/
def State.takeExc (s : State) (k : Nat) (e : Exc) : State :=
  let c := s.core k
  let c := { c with epc := c.pc, cause := BitVec.ofNat 10 (e.cause % 16 + 16 * e.lane),
                    eaddr := BitVec.ofNat 64 e.addr, lastCause := BitVec.ofNat 4 e.cause, wait := none, waited := 0 }
  if c.tvec ≠ 0#18 ∧ c.inh = false then s.setCore k { c with inh := true, pc := c.tvec, mode := .running }
  else
    ((s.setCore k { c with mode := .faulted }).count cScFault k 1).raiseDev 0x2101 (k + 256 * e.cause) c.pc.toNat

/-- An exception taken by a core, after the violation that it counts against the core's partition (R136, R433). -/
def State.accFault (s : State) (k : Nat) (e : Exc × Option Nat) : State :=
  let s := match e.2, s.coreOwner k with
    | some r, some p => s.violate p 5 r e.1.addr
    | _, _ => s
  s.takeExc k e.1

/-- The exception of a register access by core k, which only a core that runs can make. -/
def State.coreFault (s : State) (k : Nat) (e : Exc × Option Nat) : State :=
  if s.coreOk k && (s.core k).mode == .running then s.accFault k e else s

/-- The BAR2 offset of a core address of a tile's register blocks (Table 15.6). -/
def bar2Of (tile addr : Nat) : Nat := if tile = 0 then addr else addr + 0x2000000

/-- Whether a requester's access to a unit of a tile is admitted (R114, R136, R422, R423, R433): a core reaches the
units of its tile and partition, a host those of its ENABLED partition, the MC every unit. `addr` is the core address of the
register. A core's access to another partition's unit raises ACCESS and is a violation (R136); one to an absent or mapped-out
unit has no effect (R137), and no core address names another tile's unit. A host's access that is not admitted is a violation.
R4 gives no event for an absent unit, and R433 makes a host's access to one a violation with REASON 2 and EV_PT_VIOLATION:
DESIGN CHOICE, the model follows R433 (log entry 156). -/
def State.grantAccess (s : State) (r : Requester) (tile : Nat) (present : Bool) (owner : Option Nat) (addr : Nat) :
    State × Bool :=
  match r with
  | .core k =>
    if k.toNat / 128 ≠ tile ∨ !present then (s, false)
    else if owner.isSome && s.coreOwner k.toNat == owner then (s, true)
    else (s.coreFault k.toNat (⟨5, 0, addr⟩, some (if owner.isSome then 0 else 1)), false)
  | .mc => (s, present && s.power == .on)
  | .host p =>
    if !s.ptEnabled p.toNat then (s, false)
    else if !present then (s.violate p.toNat 2 2 (bar2Of tile addr), false)
    else if owner == some p.toNat then (s, true)
    else (s.violate p.toNat 2 (if owner.isSome then 0 else 1) (bar2Of tile addr), false)

/-- A number for who pushed: a core's number, 256 + partition for a host, 260 for the MC. -/
def reqCode : Requester → Nat
  | .core k => k.toNat
  | .host p => 256 + p.toNat
  | .mc => 260

/-- The partition of who pushed. -/
def State.byPart (s : State) (c : Nat) : Nat := if c < 256 then (s.coreOwner c).getD 0 else (c - 256) % 4

/-- Base addresses of Table 5.3. -/
def coreCtlBase : Nat := 0x1000000
def meBase : Nat := 0x2000000
def fenceBase : Nat := 0x2040000
def euBase : Nat := 0x2050000
def dmaBase : Nat := 0x2060000
def barBase : Nat := 0x2070000

end Sys2Proof.Machine
end

