-- ==== Sys2Proof/Machine/EuRows.lean ====
section
/-! DEFINITION. Embedding rows (file 08): the table commands (R213 to R218), the row cache and the crema cache (R235 to
R239), reading a row (R222, R224), the stage (R231) and PUBLISH (R234). -/

namespace Sys2Proof.Machine

/-! ### Table commands (R217, R218) -/

/-- The mirror's uniqueness in a partition (Table 8.3). -/
def State.mirrorNamed (s : State) (part obj : Nat) : Bool :=
  s.emb.tables.any (fun e => match e.2 with
    | some d => e.1 / 4096 == part && (tblDesc d).mirror == obj
    | none => false)

/-- The size of an object, 0 when it does not exist. -/
def State.objSize (s : State) (part i : Nat) : Nat := ((s.obj part i).map (·.size)).getD 0

/-- TBL_DEFINE (R217, Table 8.3). -/
def State.tblDefine (s : State) (part : Nat) (payload : List Byte) : Answer :=
  let d := BitVec.ofNat 512 (leNat (padTo 64 payload))
  let t := tblDesc d
  let has := fun i => (s.obj part i).isSome
  let rows := fun i => ((s.obj part i).map (·.rows)).getD false
  match lowestFree (fun i => (Tab.get none s.emb.tables (4096 * part + i)).isSome) 4096 with
  | none => ⟨s.count cEuTblFail part 1, stNoTable, []⟩
  | some i =>
    let st := firstFail [
      (s.dnum 0x600008 == 1, stSchedRunning),
      (!(t.elem == 1 || t.elem == 2 || t.elem == 3 || t.elem == 4 || t.elem == 17), stBadFormat),
      (!(t.round == 0 || t.round == 1 || t.round == 4) || (t.round == 4 && (t.elem == 2 || t.elem == 17)) ||
        (t.round == 1 && t.elem == 17), stBadRounding),
      (t.dim == 0 || decide (512 < t.dim) || decide (6 ≤ t.opt) || t.nshard == 0 || t.rows == 0 ||
        decide (s.podSize < t.base + t.nshard) || (t.score && !t.repl) || (t.crema && (!t.score || decide (64 < t.dim))) ||
        (t.mirror != 0xFFFF && s.mirrorNamed part t.mirror), stBadValue),
      (!s.euOk t.homeEu || ((t.score || t.crema) && !s.variant.shot), stAbsentUnit),
      (!has t.homeObj || !has t.stageObj || !has t.exchObj || (t.mirror != 0xFFFF && !has t.mirror) ||
        (t.repl && !has t.replObj) || !rows t.homeObj || (t.mirror != 0xFFFF && !rows t.mirror) ||
        (t.repl && (!rows t.replObj || (match s.obj part t.replObj with
          | some o => o.policy != 1 || !o.mirrored
          | none => true))), stNoSuchObject),
      (decide (s.objSize part t.homeObj < t.rows * t.recLen) ||
        (t.mirror != 0xFFFF && decide (s.objSize part t.mirror < t.rows * t.recLen)) ||
        (t.repl && decide (s.objSize part t.replObj < t.nshard * t.rows * t.rrecLen)) ||
        decide (s.objSize part t.stageObj < 64 + t.recLen) || decide (s.objSize part t.exchObj < 2 * t.exchLen), stBadShape)]
    if st = stOk then
      let d' := BitVec.ofNat 512 (keepBits tblFields d.toNat + i * 2 ^ 32)
      ⟨{ s with emb := { s.emb with tables := Tab.put none s.emb.tables (4096 * part + i) (some d') } }, stOk,
        leBytes 64 d'.toNat⟩
    else ⟨s, st, []⟩

/-- TBL_FREE (R217, R218). -/
def State.tblFree (s : State) (part : Nat) (payload : List Byte) : Answer :=
  let i := leNat payload
  if payload.length ≠ 2 then ⟨s, stBadLength, []⟩
  else if s.dnum 0x600008 == 1 then ⟨s, stSchedRunning, []⟩
  else if 4096 ≤ i || (s.tbl part i).isNone then ⟨s, stNoSuchTable, []⟩
  else ⟨{ s with emb := { s.emb with tables := Tab.put none s.emb.tables (4096 * part + i) none } }, stOk, []⟩

/-- TBL_QUERY (R213). -/
def State.tblQuery (s : State) (part : Nat) (payload : List Byte) : Answer :=
  let i := leNat payload
  if payload.length ≠ 2 then ⟨s, stBadLength, []⟩
  else match (if i < 4096 then Tab.get none s.emb.tables (4096 * part + i) else none) with
    | some d => ⟨s, stOk, leBytes 64 d.toNat⟩
    | none => ⟨s, stNoSuchTable, []⟩

/-! ### Row cache (R235) -/

/-- Sets of the row cache. -/
def State.rcSets (s : State) : Nat := s.dnum 0x700004 * 262144

/-- The place of the least number under `key` among candidate places. -/
def leastBy (key : Nat → Nat) : List Nat → Option Nat
  | [] => none
  | a :: r => match leastBy key r with
    | some b => if key b < key a then some b else some a
    | none => some a

/-- A read of the T2 granule `a` through the row cache: a hit, or a fill of the invalid way of lowest number, else of the
least recently used way that is not protected. The reads of a PREFETCH and of a hint count too: DEDUCED (log entry 195). -/
def State.rcRead (s : State) (a : Nat) (pre : Bool) : State :=
  if s.rcSets = 0 then s
  else
    let base := 16 * (a / 256 % s.rcSets)
    let line := fun i => Tab.get none s.emb.rowCache i
    let ways := (upTo 16).map (base + ·)
    let now := s.emb.useClock + 1
    let s := { s with emb := { s.emb with useClock := now } }
    match ways.find? (fun i => ((line i).map (·.addr)) == some a) with
    | some i => (match line i with
      | some l =>
        let s := (s.setRc i (some { l with used := now })).count cEuRcHit 0 1
        if l.pre then s.count cEuRcPrefetchHit 0 1 else s
      | none => s)
    | none =>
      let s := s.count cEuRcMiss 0 1
      let fresh : RcLine := ⟨a, now, if pre then 2 else 0, pre⟩
      match ways.find? (fun i => (line i).isNone) with
      | some i => s.setRc i (some fresh)
      | none =>
        match leastBy (fun i => ((line i).map (·.used)).getD 0)
            (ways.filter (fun i => ((line i).map (·.prot)).getD 0 == 0)) with
        | some i => s.setRc i (some fresh)
        | none => s.count cEuRcBypass 0 1

/-- Row-cache lines found uncorrectable leave the cache (R207). -/
def State.rcBad (s : State) (bad : List Nat) : State :=
  bad.foldl (fun s a =>
    match s.emb.rowCache.find? (fun e => (e.2.map (·.addr)) == some (alignDown 256 a)) with
    | some e => s.rcLineBad e.1
    | none => s) s

/-! ### Rows (R222, R224, R242) -/

/-- Whether a row is affected by a poisoned granule (R242): its record, or its replica record. -/
def State.rowBad (s : State) (k : RowKey) : Bool := (s.rowPlaces k).any (fun h => s.poisoned h.1 h.2.1 h.2.2)

/-- Where a table's row is read here (R222): tier, address, bytes and policy. -/
def State.rowHome (s : State) (part : Nat) (t : TblDesc) (shard slot : Nat) : Option (Nat × Nat × Nat × Nat) :=
  if t.repl then (s.replicaAt part t shard slot).map (fun h => (h.1, h.2, t.rrecLen, 1))
  else (s.recordAt part t shard slot).map (fun h => (h.1, h.2.1, t.recLen, h.2.2))

/-- The lines of a record in the row cache are read (Table 7.4): T2_CACHED_T1 records only, also those of a row that is
unavailable by poison (R203): DEDUCED (log entry 194). -/
def State.touchLines (s : State) (h : Nat × Nat × Nat × Nat) (pre : Bool) : State :=
  if h.2.2.2 = 2 then (granules 2 h.2.1 h.2.2.1).foldl (fun s a => s.rcRead a pre) s else s

/-- The value part of a row read at `h`, or none when it is unavailable. -/
def State.rowValue (s : State) (t : TblDesc) (k : RowKey) (h : Nat × Nat × Nat × Nat) : Option (List Byte) :=
  if s.rowBad k then none else some (s.memRead h.1 (h.2.1 + 8) t.valueLen)

/-- The FP32 elements of a value part: exact, or by R50 for RQ8. -/
def rowElems (t : TblDesc) (v : List Byte) : List Nat :=
  if t.elem = 17 then
    (upTo t.dim).map (fun j => rq8Dec (leAt v 0 2) (sext 8 (leAt v 2 1)) (leAt v (4 + j) 1))
  else
    let w := codeWidth t.elem / 8
    (upTo t.dim).map (fun j => (cvtToFmt false .fp32 .rne (unpackCode t.elem (leAt v (w * j) w))).val)

/-! ### Crema cache (R237 to R239) -/

/-- A row put into the crema cache: the invalid way of lowest number, or the least recently hit (R237). An insertion counts as a hit
in that order: DEDUCED (log entry 196). -/
def State.cremaInsert (s : State) (k : RowKey) (epoch : Nat) (value : List Byte) : State :=
  let base := 8 * cremaSet k
  let line := fun i => Tab.get none s.emb.crema i
  let ways := (upTo 8).map (base + ·)
  let now := s.emb.useClock + 1
  let s := { s with emb := { s.emb with useClock := now } }.count cCremaInsert 0 1
  let l : CremaLine := ⟨k, epoch, value, now⟩
  match s.cremaFind k with
  | some (i, _) => s.setCrema i (some l)
  | none =>
    match ways.find? (fun i => (line i).isNone) with
    | some i => s.setCrema i (some l)
    | none =>
      match leastBy (fun i => ((line i).map (·.used)).getD 0) ways with
      | some i => (s.setCrema i (some l)).count cCremaEvict 0 1
      | none => s

/-- A row inserted from its replica record (R238), unless a poisoned granule affects it (R203). -/
def State.cremaFill (s : State) (k : RowKey) : State :=
  match s.tbl k.part k.table with
  | none => s
  | some t =>
    match s.replicaAt k.part t k.shard k.slot with
    | none => s
    | some h =>
      if s.rowBad k then s
      else s.cremaInsert k (leNat (s.memRead h.1 h.2 4)) (s.memRead h.1 (h.2 + 8) t.valueLen)

/-- A candidate's place emptied or filled. -/
def State.setHot (s : State) (i : Nat) (c : Option HotCand) : State :=
  { s with emb := { s.emb with hot := Tab.put none s.emb.hot i c } }

/-- A crema miss served from T1 by a tile's lookup port (R238). -/
def State.hotMiss (s : State) (tile : Nat) (k : RowKey) : State :=
  match s.tbl k.part k.table with
  | none => s
  | some t =>
    if !t.crema then s
    else
      let lo := 4096 * tile
      let mine := s.emb.hot.filter (fun e => decide (lo ≤ e.1) && decide (e.1 < lo + 4096))
      let place : Option (Nat × Nat) :=
        match mine.find? (fun e => (e.2.map (·.key)) == some k) with
        | some e => some (e.1, ((e.2.map (·.count)).getD 0))
        | none =>
          match (upTo 4096).find? (fun i => (Tab.get none s.emb.hot (lo + i)).isNone) with
          | some i => some (lo + i, 0)
          | none =>
            (leastBy (fun i => ((Tab.get none s.emb.hot i).map (·.count)).getD 0) (mine.map (·.1))).map
              (fun i => (i, ((Tab.get none s.emb.hot i).map (·.count)).getD 0))
      match place with
      | none => s
      | some (i, n) =>
        if t.hot ≠ 0 ∧ t.hot ≤ n + 1 then
          let s := s.setHot i none
          if s.publishing then { s with emb := { s.emb with deferred := (s.emb.deferred ++ [k]).eraseDups } } else s.cremaFill k
        else s.setHot i (some ⟨k, n + 1⟩)

/-! ### The stage (R231) -/

/-- Bytes of a staged record's payload. -/
def StageRec.size (r : StageRec) : Nat := r.bytes.length

/-- The end of the last record in a stage object: the place of the next one. What an earlier record that has been discarded
took stays unused while a later one stands (log entry 162). -/
def State.stageEnd (s : State) (part obj : Nat) : Nat :=
  ((s.emb.stage.filter (fun r => r.part == part && (s.tbl part r.table).any (fun t => t.stageObj == obj))).map
    (fun r => r.pos + 64 + r.size)).foldl max 0

/-- Staged bytes of the step for T1-homed and replica records, or for T2-homed ones, without headers. -/
def State.stagedBytes (s : State) (t2 : Bool) : Nat :=
  ((s.emb.stage.filter (fun r => r.t2 == t2)).map (·.size)).foldl (· + ·) 0

/-- Whether a record of `n` bytes fits in the stage and within the step's limits (R231). -/
def State.stageFits (s : State) (part : Nat) (t : TblDesc) (t2 : Bool) (n : Nat) : Bool :=
  decide (s.stageEnd part t.stageObj + 64 + n ≤ s.objSize part t.stageObj) &&
  decide (s.stagedBytes t2 + n ≤ s.dnum (if t2 then 0x730003 else 0x730002))

/-- The 64-byte header of a staged record (R231). -/
def stageHeader (r : StageRec) : List Byte :=
  let kind := match r.kind with | .own => 0 | .mirror => 1 | .replica => 2
  padTo 64 (leBytes 5 r.slot ++ leBytes 2 r.shard ++ leBytes 1 kind ++
    (if r.kind = .mirror then leBytes 2 r.obj else leBytes 2 0))

/-- A record staged at the end of its table's stage object. -/
def State.stagePut (s : State) (t : TblDesc) (r : StageRec) : State :=
  let r := { r with pos := s.stageEnd r.part t.stageObj }
  let s := { s with emb := { s.emb with stage := s.emb.stage ++ [r] } }
  match s.obj r.part t.stageObj with
  | some o => s.memWrite o.home.1 (o.home.2 + r.pos) (stageHeader r ++ r.bytes)
  | none => s

/-- A stage without room (R231): counted and reported with the bytes staged in the step. -/
def State.stageNote (s : State) (part table : Nat) : State :=
  (s.count cEuStageFull 0 1).raise 0x7010 part table (s.stagedBytes false + s.stagedBytes true)

/-- A stage without room for a record of an APPLY or a replica record: the module is not ready at the vote either (R94, R231). -/
def State.stageRefuse (s : State) (part table : Nat) : State :=
  { s with emb := { s.emb with stageFull := true } }.stageNote part table

/-! ### PUBLISH (R202, R234, R239) -/

/-- The home of a staged record: tier and address. -/
def State.stageHome (s : State) (r : StageRec) : Option (Nat × Nat) :=
  match s.tbl r.part r.table, s.obj r.part r.obj with
  | some t, some o => (match r.kind with
    | .replica => some (o.home.1, o.home.2 + (r.shard * t.rows + r.slot) * t.rrecLen)
    | _ => some (o.home.1, o.home.2 + r.slot * t.recLen))
  | _, _ => none

/-- Whether a row's home granule is under repair: its publishing waits (R202). -/
def State.homeRepairing (s : State) (h : Nat × Nat) (n : Nat) : Bool :=
  s.mem.poison.any (fun p => p.repair && p.gran.tier == h.1 && overlaps p.gran.addr (granLen h.1) h.2 n)

/-- A record written home in one row action, with its crema entry (R234, R239). -/
def State.publishOne (s : State) (r : StageRec) (h : Nat × Nat) : State :=
  let s := s.memWrite h.1 h.2 r.bytes
  let k : RowKey := ⟨r.part, r.table, r.shard, r.slot⟩
  match r.kind, s.cremaFind k, s.tbl r.part r.table with
  | .replica, some (i, l), some t =>
    if s.rowBad k then s
    else s.setCrema i (some { l with epoch := leAt r.bytes 0 4, value := (r.bytes.drop 8).take t.valueLen })
  | _, _, _ => s

/-- Records in table order, then in stage order. -/
def stageOrder (l : List StageRec) : List StageRec :=
  l.mergeSort (fun a b => decide (a.part * 4096 + a.table ≤ b.part * 4096 + b.table))

/-- PUBLISH of a list of records; those whose home is under repair are kept for the repair's end. -/
def State.publishAll (s : State) (l : List StageRec) : State :=
  (stageOrder l).foldl (fun s r =>
    match s.stageHome r with
    | none => s
    | some h =>
      if s.homeRepairing h r.size then { s with emb := { s.emb with late := s.emb.late ++ [r] } }
      else s.publishOne r h) s

/-- What the buddy's mirror stage gives for staged records found uncorrectable (R234): by place in the stage, the
buddy's bytes, or none; then the record's home granules are poisoned, and lost. -/
def State.stageBad (s : State) (bad : List (Nat × Option (List Byte))) : State :=
  bad.foldl (fun s b =>
    match s.emb.stage[b.1]?, b.2 with
    | some r, some bytes =>
      { s with emb := { s.emb with stage := s.emb.stage.set b.1 { r with bytes := bytes } } }
    | some r, none =>
      let s := { s with emb := { s.emb with stage := s.emb.stage.set b.1 { r with done := true } } }
      (match s.stageHome r with
      | some h => (granules h.1 h.2 r.size).foldl (fun s g => s.poisonLost h.1 g) s
      | none => s)
    | none, _ => s) s

/-- Whether a staged record's bytes in STAGE_OBJ are known to be uncorrectable (R201, R234). -/
def State.stagePoisoned (s : State) (r : StageRec) : Bool :=
  match (s.tbl r.part r.table).bind (fun t => s.obj r.part t.stageObj) with
  | some o => s.poisoned o.home.1 (o.home.2 + r.pos) (64 + r.size)
  | none => false

/-- The staged records found uncorrectable at PUBLISH: those that the command names, and those whose granules were found so
before, which the buddy supplies only where the command says so. -/
def State.stageFound (s : State) (bad : List (Nat × Option (List Byte))) : List (Nat × Option (List Byte)) :=
  bad ++ (s.emb.stage.zipIdx.filter (fun e => !e.1.done && !bad.any (fun b => b.1 == e.2) && s.stagePoisoned e.1)).map
    (fun e => (e.2, none))

/-- PUBLISH from t_d (R234): every staged record is written; the stage empties. -/
def State.publish (s : State) (bad : List (Nat × Option (List Byte))) : State :=
  let s := s.stageBad (s.stageFound bad)
  let l := s.emb.stage.filter (fun r => !r.done)
  ({ s with emb := { s.emb with stage := [] } }).publishAll l

/-- After a repair, the rows that waited for it are published (R202). -/
def State.publishLate (s : State) : State :=
  ({ s with emb := { s.emb with late := [] } }).publishAll s.emb.late

/-- A host's read of T1 answered: with its bytes, or with the EP bit where they are poisoned (R425, Table 7.9). -/
def State.bar4Answer (s : State) (part off n : Nat) : State :=
  let a := (s.ptT1 part).1 + off
  if s.poisoned 1 a n then (s.count cHostPoisonRead 0 1).emit (.hostRead part off (List.replicate n 0#8) true)
  else s.emit (.hostRead part off (s.memRead 1 a n) false)

/-- A host's read of T1: answered at once, or kept while a repair of its granules runs (R206). -/
def State.bar4Take (s : State) (r : Nat × Nat × Nat) : State :=
  let a := (s.ptT1 r.1).1 + r.2.1
  if s.mustWait 1 a r.2.2 then
    { s with host := { s.host with reads := s.host.reads ++ [r] } }.noteWait 1 a r.2.2
  else s.bar4Answer r.1 r.2.1 r.2.2

/-- What has waited for repairs goes on where they have ended: rows are published (R202), and kept reads answered (R206). -/
def State.repairsEnd (s : State) : State :=
  s.host.reads.foldl State.bar4Take { s.publishLate with host := { s.host with reads := [] } }

/-- MEM_REPAIR_COMPLETE (R202, R206); T1 and T2 are reached in ON alone (R508). -/
def memRepairComplete (o : RepairDoneOp) (s : State) : State :=
  if s.power != .on then s else (s.repairDone o.tier o.addr o.bytes o.ns.toNat).repairsEnd

def execTblDefine (o : MbxCmdOp) (s : State) : Host.Outcome State Fault Refusal := .next (s.mbxRun 0x0801 o State.tblDefine)
def execTblFree (o : MbxCmdOp) (s : State) : Host.Outcome State Fault Refusal := .next (s.mbxRun 0x0802 o State.tblFree)
def execTblQuery (o : MbxCmdOp) (s : State) : Host.Outcome State Fault Refusal := .next (s.mbxRun 0x0803 o State.tblQuery)
def execObjAlloc (o : MbxCmdOp) (s : State) : Host.Outcome State Fault Refusal := .next (s.mbxRun 0x0701 o State.objAlloc)
def execObjFree (o : MbxCmdOp) (s : State) : Host.Outcome State Fault Refusal := .next (s.mbxRun 0x0702 o State.objFree)
def execObjQuery (o : MbxCmdOp) (s : State) : Host.Outcome State Fault Refusal := .next (s.mbxRun 0x0703 o State.objQuery)
def execRepairRequestServe (o : RepairReqOp) (s : State) : Host.Outcome State Fault Refusal := .next (repairServe o s)
def execMemRepairComplete (o : RepairDoneOp) (s : State) : Host.Outcome State Fault Refusal := .next (memRepairComplete o s)
def execMemRepairLate (o : GranuleOp) (s : State) : Host.Outcome State Fault Refusal := .next (memRepairLate o s)
def execScratchScrub (o : ScrubOp) (s : State) : Host.Outcome State Fault Refusal := .next (scratchScrub o s)
def execHbmPatrol (o : ScrubOp) (s : State) : Host.Outcome State Fault Refusal := .next (hbmPatrol o s)
def execCxlLinkDegraded (o : CxlOp) (s : State) : Host.Outcome State Fault Refusal := .next (cxlDegraded o s)
def execCxlLinkDown (o : CxlOp) (s : State) : Host.Outcome State Fault Refusal := .next (cxlDown o s)
def execHbmStackFail (o : HbmOp) (s : State) : Host.Outcome State Fault Refusal := .next (hbmFail o s)
def execCxlEventRecord (o : CxlEventOp) (s : State) : Host.Outcome State Fault Refusal := .next (cxlEvent o s)

end Sys2Proof.Machine
end

