-- ==== Sys2Proof/Machine/Coll.lean ====
section
/-! DEFINITION. The fabric collectives (file 09): descriptors (R245 to R247), spans and chains (R249 to R251), the slots of
the reduce-scatter and the allgather (R252 to R262, R266), the decode tick and the reduce deadline (R263 to R265, R525),
and the state mirror (R267 to R269). -/

namespace Sys2Proof.Machine

/-! ### Descriptors -/

/-- The collectives in the order in which they run (R248): partition, index, descriptor. -/
def State.colls (s : State) : List (Nat × Nat × CollDesc) :=
  s.coll.defs.filterMap (fun e => e.2.map (fun d => (e.1 / 256, e.1 % 256, collDesc d)))

/-- A collective's descriptor. -/
def State.collAt (s : State) (part idx : Nat) : Option CollDesc :=
  if idx < 256 then (Tab.get none s.coll.defs (256 * part + idx)).map collDesc else none

/-- One slot (R260, Table 9.4): KIND 1 SCALE_RS, 2 SCALE_AG, 3 REDUCE, 4 GATHER. -/
structure Slot where
  part  : Nat
  coll  : Nat
  kind  : Nat
  stage : Nat
  hop   : Nat
  len   : Nat
  deriving DecidableEq, Repr

/-- The slots of one stage of a collective on a ring of n. -/
def stageSlots (part coll : Nat) (c : CollDesc) (gather : Bool) (n stage : Nat) : List Slot :=
  let run := fun kind len => (upTo (n - 1)).map (fun j => (⟨part, coll, kind, stage, j, len⟩ : Slot))
  if gather then run 4 (c.ag.getD stage 0)
  else run 1 c.scale ++ run 2 c.scale ++ run 3 (c.hop.getD stage 0)

/-- The slots of a list of collectives, in order. -/
def State.slotsOf (s : State) (gather : Bool) (l : List (Nat × Nat × CollDesc)) : List Slot :=
  l.flatMap (fun e =>
    if (if gather then e.2.2.gather else e.2.2.reduce) then
      (if gather then [2, 1, 0] else [0, 1, 2]).flatMap (fun g => stageSlots e.1 e.2.1 e.2.2 gather (s.dim g) g)
    else [])

/-- Ticks that a list of slots takes. -/
def slotTicks (l : List Slot) : Nat := (l.map (·.len)).foldl (· + ·) 0

/-- Whether collectives break the budgets of R260: RS + 1 above B_REDUCE, or AG above B_ALLGATHER. -/
def State.planBroken (s : State) (l : List (Nat × Nat × CollDesc)) (bReduce bAllgather : Nat) : Bool :=
  decide (bReduce < slotTicks (s.slotsOf false l) + 1) || decide (bAllgather < slotTicks (s.slotsOf true l))

/-- Bytes of one parameter of PFMT. -/
def CollDesc.psize (c : CollDesc) : Nat := codeWidth c.pfmt / 8

/-- The shard bound Q of R246, in elements. -/
def State.shardBound (s : State) (c : CollDesc) : Nat := 32 * ceilDiv (ceilDiv c.len 32) (max 1 s.podSize)

/-- COLL_DEFINE (R246, Table 9.2). -/
def State.collDefine (s : State) (part : Nat) (payload : List Byte) : Answer :=
  let d := BitVec.ofNat 512 (leNat (padTo 64 payload))
  let c := collDesc d
  match lowestFree (fun i => (Tab.get none s.coll.defs (256 * part + i)).isSome) 256 with
  | none => ⟨s.count cCollDefFail part 1, stNoCollective, []⟩
  | some i =>
    let zeroLen := fun g => decide (1 < s.dim g) &&
      ((c.reduce && (c.hop.getD g 0 == 0 || c.scale == 0)) || (c.gather && c.ag.getD g 0 == 0))
    let pinned := fun j => (s.obj part j).any (fun o => decide (o.policy ≤ 1))
    let ra := 64 * c.resUnit
    let badRes := c.resEn && !covers (s.ptScratch part 0) ra 64
    let badFence := c.doneEn && !inRange (s.ptRange part 12) c.fence
    let badPin := (c.reduce && !pinned c.gradObj) || (c.gather && (!pinned c.param0 || !pinned c.param1))
    let d' := BitVec.ofNat 512 (keepBits collFields d.toNat + i * 2 ^ 32)
    let after := Tab.put none s.coll.defs (256 * part + i) (some d')
    let plan := { s with coll := { s.coll with defs := after } }.colls
    let st := firstFail [
      (s.dnum 0x600008 == 1 && s.sched.state != 13, stSchedRunning),
      (decide (4 < c.pfmt), stBadFormat),
      (c.len == 0 || (!c.reduce && !c.gather) || decide (32 < c.bpe) || (c.mirror && c.bpe == 0) ||
        (upTo 3).any zeroLen, stBadValue),
      (c.objects.any (fun j => (s.obj part j).isNone) ||
        (c.mirror && (s.obj part c.stateObj).any (fun o => !o.mirrored)), stNoSuchObject),
      (badPin || badRes || badFence, stBadAddress),
      ((c.reduce && decide (s.objSize part c.gradObj < 4 * c.len)) ||
        (c.gather && (decide (s.objSize part c.param0 < c.len * c.psize) ||
          decide (s.objSize part c.param1 < c.len * c.psize))) ||
        (c.mirror && decide (s.objSize part c.stateObj < 2 * s.shardBound c * c.bpe)), stBadShape),
      (s.sched.state == 13 && s.planBroken plan (s.dnum 0x610005) (s.dnum 0x610007), stPlanInvalid)]
    if st = stOk then ⟨{ s with coll := { s.coll with defs := after } }, stOk, leBytes 64 d'.toNat⟩
    else if st = stBadAddress && badRes then
      ⟨s.violate part 6 (if ra + 64 ≤ scratchSize then s.rangeReason part 0 ra 64 else 1) ra, st, []⟩
    else if st = stBadAddress && badFence then
      ⟨s.violate part 6 (if (s.fenceOwner c.fence).isSome then 0 else 1) (fenceBase + 8 * c.fence), st, []⟩
    else ⟨s, st, []⟩
where
  fenceBase : Nat := 0x2040000

/-- COLL_FREE (R247). -/
def State.collFree (s : State) (part : Nat) (payload : List Byte) : Answer :=
  let i := leNat payload
  if payload.length ≠ 2 then ⟨s, stBadLength, []⟩
  else if s.dnum 0x600008 == 1 && s.sched.state != 13 then ⟨s, stSchedRunning, []⟩
  else if (s.collAt part i).isNone then ⟨s, stNoSuchCollective, []⟩
  else ⟨{ s with coll := { s.coll with defs := Tab.put none s.coll.defs (256 * part + i) none } }, stOk, []⟩

/-- COLL_QUERY (R245). -/
def State.collQuery (s : State) (part : Nat) (payload : List Byte) : Answer :=
  let i := leNat payload
  if payload.length ≠ 2 then ⟨s, stBadLength, []⟩
  else match (if i < 256 then Tab.get none s.coll.defs (256 * part + i) else none) with
    | some d => ⟨s, stOk, leBytes 64 d.toNat⟩
    | none => ⟨s, stNoSuchCollective, []⟩

/-! ### Spans, chains and positions (R249 to R251, R255) -/

/-- chunk(c, [lo, hi), n) of R250. -/
def chunk (c : Nat) (sp : Nat × Nat) (n : Nat) : Nat × Nat :=
  let m := max 1 n
  (sp.1 + c * (sp.2 - sp.1) / m, sp.1 + (c + 1) * (sp.2 - sp.1) / m)

/-- span[k] of the module of rank r (R250). -/
def State.span (s : State) (r : Nat) (c : CollDesc) : Nat → Nat × Nat
  | 0 => (0, ceilDiv c.len 32)
  | k + 1 => chunk (coordAt (s.coordOf r) k) (State.span s r c k) (s.dim k)

/-- The chunk of a span that holds block b. -/
def chunkOf (b : Nat) (sp : Nat × Nat) (n : Nat) : Nat :=
  ((upTo n).find? (fun c => inRange ((chunk c sp n).1, (chunk c sp n).2 - (chunk c sp n).1) b)).getD 0

/-- The position of p along the chain of block b of chunk c (R251): 0 the originator, n − 1 the owner. -/
def chainPos (b c p n : Nat) : Nat :=
  if b % 2 = 0 then (p + n - c % n + n - 1) % n else (c % n + n - p + n - 1) % n

/-- The distance of p from the owner of chunk c in the direction of block b (R266). -/
def gatherPos (b c p n : Nat) : Nat := if b % 2 = 0 then (p + n - c % n) % n else (c % n + n - p) % n

/-- The place of rank r's position for a block in a slot of a KIND: along the chain for SCALE_RS and REDUCE, from the
owner for SCALE_AG and GATHER. A slot of HOP j is sent from place j and received at place j + 1. -/
def State.slotPos (s : State) (r : Nat) (c : CollDesc) (kind stage b : Nat) : Nat :=
  let n := max 1 (s.dim stage)
  let ch := chunkOf b (s.span r c stage) n
  let p := coordAt (s.coordOf r) stage
  if kind = 1 ∨ kind = 3 then chainPos b ch p n else gatherPos b ch p n

/-- The blocks that rank r's position has at place q in a slot, in direction `neg` (odd blocks), ascending (R258). -/
def State.blockList (s : State) (r : Nat) (c : CollDesc) (kind stage q : Nat) (neg : Bool) : List Nat :=
  let sp := s.span r c stage
  ((upTo (sp.2 - sp.1)).map (fun i => sp.1 + i)).filter
    (fun b => (b % 2 == 1) == neg && s.slotPos r c kind stage b == q)

/-- The neighbour of rank r on the ring of a stage: towards + or −. -/
def State.ringNext (s : State) (r stage : Nat) (neg : Bool) : Nat := s.neighbour r (2 * stage + b2n neg)

/-- The ranks whose positions this module runs: its own and those it stands in for (R255). -/
def State.positions (s : State) : List Nat :=
  s.rank :: (upTo s.podSize).filter (fun r => r != s.rank && s.fab.absent.contains r && s.serves r == s.rank)

/-- Ring members of rank r's ring that are not stood in for (R256). -/
def State.liveMembers (s : State) (r stage : Nat) : Nat :=
  let c := s.coordOf r
  ((upTo (s.dim stage)).filter (fun p =>
    !s.fab.absent.contains (s.rankOf (c - coordAt c stage * 2 ^ (8 * stage) + p * 2 ^ (8 * stage))))).length

/-! ### Blocks held -/

/-- What a position holds of a block in a stage; `g` 3 above the stage in the allgather. -/
def State.blk (s : State) (r part coll g b : Nat) : CollBlk :=
  (s.coll.blks.find? (fun x => x.rank == r && x.part == part && x.coll == coll && x.stage == g && x.block == b)).getD
    { rank := r, part := part, coll := coll, stage := g, block := b }

/-- The state with what a position holds of a block replaced. -/
def State.setBlk (s : State) (x : CollBlk) : State :=
  let same := fun (y : CollBlk) =>
    y.rank == x.rank && y.part == x.part && y.coll == x.coll && y.stage == x.stage && y.block == x.block
  let l := if s.coll.blks.any same then s.coll.blks.map (fun y => if same y then x else y) else s.coll.blks ++ [x]
  { s with coll := { s.coll with blks := l } }

/-- Bytes of an object, poisoned ones open (log entry 38). -/
def State.readOpen (s : State) (part obj off n : Nat) : List Byte :=
  match s.obj part obj with
  | none => List.replicate n 0#8
  | some o =>
    let t := o.home.1
    let a := o.home.2 + off
    (s.memRead t a n).zipIdx.map (fun e => if s.poisoned t (a + e.2) 1 then Config.poisonByte t (a + e.2) s.draws else e.1)

/-- Bytes written to an object. -/
def State.writeObj (s : State) (part obj off : Nat) (b : List Byte) : State :=
  match s.obj part obj with
  | none => s
  | some o => s.memWrite o.home.1 (o.home.2 + off) b

/-- Elements 32b to 32b + 31 of GRAD_OBJ; beyond LEN +0 (R249). -/
def State.gradBlock (s : State) (part : Nat) (c : CollDesc) (b : Nat) : List Nat :=
  let k := min 32 (c.len - 32 * b)
  let bs := s.readOpen part c.gradObj (128 * b) (4 * k)
  (upTo 32).map (fun i => if i < k then leAt bs (4 * i) 4 else 0)

/-- The last stage before `stage` whose ring has more than one member. -/
def State.prevStage (s : State) (stage : Nat) : Option Nat :=
  ((upTo stage).filter (fun g => decide (1 < s.dim g))).getLast?

/-- A contribution (R254): 32 values, or MARKER for none; or the rank of the hole it derives from. -/
def State.contrib (s : State) (r part coll : Nat) (c : CollDesc) (stage b : Nat) : Except Nat (List (Option Nat)) :=
  match s.prevStage stage with
  | none => .ok ((s.gradBlock part c b).map some)
  | some g =>
    let x := s.blk r part coll g b
    match x.res with
    | some bs =>
      let k := bsOfBytes bs
      .ok (k.elems.map (fun m => if m = bsMarker then none else some (bsDecode k.e m)))
    | none => .error (x.hole.getD r)

/-- e_loc of R252: the largest exponent field among finite elements. -/
def eLoc (l : List (Option Nat)) : Nat :=
  (l.map (fun x => match x with
    | some v => let e := bits v 30 23; if e = 255 then 0 else e
    | none => 0)).foldl max 0

/-- e_loc of a position: 0 for a hole (R252) and for one stood in for (R255). -/
def State.positionELoc (s : State) (r part coll : Nat) (c : CollDesc) (stage b : Nat) : Nat :=
  if r ≠ s.rank then 0
  else match s.contrib r part coll c stage b with
    | .ok l => eLoc l
    | .error _ => 0

/-- The maximum of a block at its position: what has been received, and the position's own exponent (R252). It is formed when it
is needed, for a unit of the next stage may come before the position's own result of the stage before (R261). -/
def State.blockMax (s : State) (c : CollDesc) (x : CollBlk) : Nat := max x.mx (s.positionELoc x.rank x.part x.coll c x.stage x.block)

/-- The agreed maximum: the one received, or at the owner that of the whole ring (R252). -/
def State.blockFin (s : State) (c : CollDesc) (x : CollBlk) : Nat := x.fin.getD (s.blockMax c x)

/-- E(b) of R252. -/
def State.agreedE (s : State) (c : CollDesc) (x : CollBlk) : Nat := min 254 (s.blockFin c x + s.dnum 0x620001)

/-- A position's part of the reduction (R254, R255): the block forwarded, or with the contribution added. -/
def State.addBlock (s : State) (r part coll : Nat) (c : CollDesc) (stage b : Nat) (k : BsBlock) :
    Except Nat (Counted BsBlock) :=
  if r ≠ s.rank then .ok ⟨k, {}⟩
  else match s.contrib r part coll c stage b with
    | .ok l => .ok (bsHopAdd k l)
    | .error h => .error h

/-! ### Sending (R258, R259, R289) -/

/-- A unit of a slot's list: nothing to send, a hole, or bytes. -/
inductive CollUnit where
  | none_
  | hole (rank : Nat)
  | bytes (b : List Byte)
  deriving DecidableEq, Repr

/-- KIND and bytes of a unit on the wire. -/
def CollUnit.wire (kind : Nat) : CollUnit → Option (Nat × List Byte)
  | .none_ => none
  | .hole r => some (7, beBytes 2 r ++ [0#8, 0#8])
  | .bytes b => some (kind, b)

/-- Packets of a slot's list: KIND, FIRST, COUNT and the units' bytes; consecutive entries of one KIND, at most 62
REDUCE blocks and 4,144 bytes of units (R258). -/
def collPackets : List (Nat × Option (Nat × List Byte)) → Option (Nat × Nat × Nat × List Byte) →
    List (Nat × Nat × Nat × List Byte)
  | [], cur => cur.toList
  | (_, none) :: r, cur => cur.toList ++ collPackets r none
  | (b, some (k, u)) :: r, cur =>
    match cur with
    | none => collPackets r (some (k, b, 1, u))
    | some (k', f, n, us) =>
      if k = k' && decide (us.length + u.length ≤ 4144) && (k != 3 || decide (n < 62)) then
        collPackets r (some (k', f, n + 1, us ++ u))
      else (k', f, n, us) :: collPackets r (some (k, b, 1, u))

/-- A collective payload (Table 9.3). -/
def State.collPayload (s : State) (kind stage : Nat) (neg : Bool) (part coll hop count first : Nat) (units : List Byte) :
    List Byte :=
  [BitVec.ofNat 8 kind, BitVec.ofNat 8 (stage + 4 * b2n neg + 8 * part)] ++ beBytes 2 coll ++
    [BitVec.ofNat 8 hop, BitVec.ofNat 8 s.sched.repeats] ++ beBytes 2 count ++ beBytes 4 s.stepId ++ beBytes 4 first ++
    units

/-- Packet i to the module that runs rank `dst`'s position: on the (i mod t)-th trained link of the direction (R259), or
of the route's direction where a position is stood in for (R289); to this module itself it is delivered. -/
def State.collSend (s : State) (dst dir : Nat) (own : Bool) (i : Nat) (bytes : List Byte) : State :=
  let m := if s.fab.absent.contains dst then s.serves dst else dst
  let f : Frame := ⟨0, m, s.rank, 255, .coll bytes⟩
  if m = s.rank then s.emit (.delivered f)
  else
    let way := if own && m == dst then some dir else s.nextDir m
    match way with
    | none => s.count cFabUnroutable 48 1
    | some d =>
      let ts := s.trained d
      match ts[i % max 1 ts.length]? with
      | some l => s.setLink l ((s.link l).enqueue f)
      | none => { s with fab := { s.fab with waiting := s.fab.waiting ++ [(d, 0, f)] } }

/-- The units of a slot in one direction sent, with the holes counted (R258, R262). -/
def State.sendUnits (s : State) (r : Nat) (sl : Slot) (neg : Bool) (l : List (Nat × CollUnit)) : State :=
  let holes := (l.filter (fun e => match e.2 with | .hole _ => true | _ => false)).length
  let ps := collPackets (l.map (fun e => (e.1, e.2.wire sl.kind))) none
  ps.zipIdx.foldl (fun s e =>
    s.collSend (s.ringNext r sl.stage neg) (2 * sl.stage + b2n neg) (r == s.rank) e.2
      (s.collPayload e.1.1 sl.stage neg sl.part sl.coll sl.hop e.1.2.2.1 e.1.2.1 e.1.2.2.2)) (s.count cCollHoleTx 0 holes)

/-- Parameter copy that APPLY and the allgather write: (EPOCH + 1) mod 2 (R266). -/
def State.paramObj (s : State) (c : CollDesc) : Nat := if (s.epoch + 1) % 2 = 0 then c.param0 else c.param1

/-- A block of the staged parameter copy as a GATHER unit. -/
def State.paramBlock (s : State) (part : Nat) (c : CollDesc) (b : Nat) : List Byte :=
  let k := min 32 (c.len - 32 * b)
  padTo (32 * c.psize) (s.readOpen part (s.paramObj c) (32 * b * c.psize) (k * c.psize))

/-- The unit of a block in a slot, and the state after it (R252, R254, R262, R266). -/
def State.unitOf (s : State) (r : Nat) (sl : Slot) (c : CollDesc) (b : Nat) : State × CollUnit :=
  if sl.kind = 4 then
    if s.coll.lost.contains (r, sl.part, sl.coll, b) then (s, .none_)
    else if sl.hop = 0 then (s, .bytes (s.paramBlock sl.part c b))
    else (s, .bytes (s.blk r sl.part sl.coll (3 + sl.stage) b).held)
  else
    let x := s.blk r sl.part sl.coll sl.stage b
    match x.hole with
    | some h => (s, .hole h)
    | none =>
      if sl.kind = 1 then
        (s, .bytes [BitVec.ofNat 8 (s.blockMax c x)])
      else if sl.kind = 2 then (s, .bytes [BitVec.ofNat 8 (s.blockFin c x)])
      else if sl.hop ≠ 0 then (s, .bytes x.held)
      else
        match s.addBlock r sl.part sl.coll c sl.stage b ⟨s.agreedE c x, false, false, 0, List.replicate 32 0⟩ with
        | .ok k => (s.countArith 4 k.cnt, .bytes (bsBytes k.val))
        | .error h => (s.setBlk { x with hole := some h }, .hole h)

/-- The units of a slot's list, in order. -/
def State.unitsOf (s : State) (r : Nat) (sl : Slot) (c : CollDesc) : List Nat → State × List (Nat × CollUnit)
  | [] => (s, [])
  | b :: l =>
    let u := s.unitOf r sl c b
    let rest := State.unitsOf u.1 r sl c l
    (rest.1, (b, u.2) :: rest.2)

/-- A slot's units sent by one position in both directions. -/
def State.openFor (s : State) (sl : Slot) (c : CollDesc) (r : Nat) : State :=
  let s := if r ≠ s.rank && sl.hop == 0 && (sl.kind == 1 || sl.kind == 4) then
      let s := s.count cCollStandIn 0 1
      if s.coll.standEv then s
      else { s with coll := { s.coll with standEv := true } }.raiseDev 0x6022 r 0
    else s
  [false, true].foldl (fun s neg =>
    let u := s.unitsOf r sl c (s.blockList r c sl.kind sl.stage sl.hop neg)
    u.1.sendUnits r sl neg u.2) s

/-! ### The slots -/

/-- The slots of the run under way. -/
def State.slots (s : State) : List Slot := s.slotsOf s.coll.gather s.colls

/-- The opening edge of slot i. -/
def State.slotEdge (s : State) (i : Nat) : Nat := (s.coll.start + slotTicks (s.slots.take i)) % 2 ^ 48

/-- Whether the phase of the run is under way: EXCHANGE and REDUCE (6), or ALLGATHER (9). -/
def State.collPhase (s : State) : Bool := s.sched.state == (if s.coll.gather then 9 else 6)

/-- What error correction reports on the collectives' reads of T0 and T1. -/
def State.collEcc (s : State) (t0 t1 : Ecc) : State := (s.noteEcc 0 t0 false).noteEcc 1 t1 false

/-- COLL_MISSING_LOG written when it is empty for the step (R262, Table 9.8). -/
def State.logMissing (s : State) (sl : Slot) (rank : Nat) : State :=
  if (s.dget 0x620003).all (· == 0#8) then
    s.dput 0x620003 (leBytes 8 s.now ++ leBytes 2 rank ++ [BitVec.ofNat 8 sl.coll, BitVec.ofNat 8 sl.part,
      BitVec.ofNat 8 sl.stage, BitVec.ofNat 8 sl.kind, 0#8, 0#8])
  else s

/-- A unit missing at the close of its slot (R262). -/
def State.unitMissing (s : State) (sl : Slot) (rank : Nat) : State :=
  let s := (s.count cCollBlockMissing 0 1).logMissing sl rank
  if s.coll.missed == some s.stepId then s
  else { s with coll := { s.coll with missed := some s.stepId } }.raiseDev 0x6020 rank (sl.coll + 256 * sl.part + 1024 * sl.stage)

/-- The close of a slot for one block that a position was to receive (R262, R268). -/
def State.closeBlock (s : State) (sl : Slot) (r : Nat) (neg : Bool) (b : Nat) : State :=
  let up := s.ringNext r sl.stage (!neg)
  if sl.kind = 4 then
    let x := s.blk r sl.part sl.coll (3 + sl.stage) b
    if x.gotH then s
    else
      let s := s.unitMissing sl up
      { s with coll := { s.coll with lost := s.coll.lost ++ [(r, sl.part, sl.coll, b)], unready := true } }
  else
    let x := s.blk r sl.part sl.coll sl.stage b
    let got := if sl.kind = 1 then x.gotR else if sl.kind = 2 then x.gotA else x.gotH
    if got then s else (s.unitMissing sl up).setBlk { x with hole := some (x.hole.getD up) }

/-- Whether a frame of this module carries units of a slot. -/
def slotFrame (me : Nat) (sl : Slot) (f : Frame) : Bool :=
  match f.pay with
  | .coll b => f.src == me && f.vc == 0 && beAt b 2 2 == sl.coll && (byteAt b 4).toNat == sl.hop &&
      bits (byteAt b 1).toNat 1 0 == sl.stage && bits (byteAt b 1).toNat 4 3 == sl.part &&
      ((byteAt b 0).toNat == sl.kind || (byteAt b 0).toNat == 7)
  | _ => false

/-- Whether a unit of a slot is still unsent (R100). -/
def State.slotUnsent (s : State) (sl : Slot) : Bool :=
  s.fab.links.any (fun e => (Tab.get [] e.2.queue 0).any (slotFrame s.rank sl)) ||
    s.fab.waiting.any (fun w => slotFrame s.rank sl w.2.2)

/-- COLL_SLOT_CLOSE (R261, R262): the slot that closes at this edge. -/
def collSlotClose (s : State) : State :=
  let i := s.coll.slot
  match s.slots[i]? with
  | none => s
  | some sl =>
    if !s.collPhase || s.now != s.slotEdge (i + 1) then s
    else match s.collAt sl.part sl.coll with
      | none => s
      | some c =>
        let s := { s with coll := { s.coll with slot := i + 1, opened := max s.coll.opened (i + 1),
                                                unsent := s.coll.unsent || s.slotUnsent sl } }
        s.positions.foldl (fun s r => [false, true].foldl (fun s neg =>
          (s.blockList r c sl.kind sl.stage (sl.hop + 1) neg).foldl (fun s b => s.closeBlock sl r neg b) s) s) s

/-- COLL_SLOT_OPEN (R261): the slot that opens at this edge. The slot before it closes at the same edge and does so first, so that
a unit that is missing then leaves as a HOLE (R262). -/
def collSlotOpen (o : CollSlotOp) (s : State) : State :=
  let i := s.coll.opened
  match s.slots[i]? with
  | none => s
  | some sl =>
    if !s.collPhase || s.now != s.slotEdge i then s
    else match s.collAt sl.part sl.coll with
      | none => s
      | some c =>
        let s := if s.coll.slot < i then collSlotClose s else s
        let s := { s with coll := { s.coll with opened := i + 1 } }.collEcc o.t0 o.t1
        s.positions.foldl (fun s r => s.openFor sl c r) s

/-! ### Receiving -/

/-- A complete or failed result block at its owner (R256). -/
def State.ownResult (s : State) (r : Nat) (sl : Slot) (neg : Bool) (x : CollBlk) (k : BsBlock) : State :=
  if k.hops = s.liveMembers r sl.stage then s.setBlk { x with gotH := true, res := some (bsBytes k) }
  else
    let s := (s.setBlk { x with gotH := true, hole := some (s.ringNext r sl.stage (!neg)) }).count cCollHopsMismatch 0 1
    if s.coll.hopsEv == some s.stepId then s
    else { s with coll := { s.coll with hopsEv := some s.stepId } }.raiseDev 0x6021 sl.coll x.block

/-- One unit taken by a position (R252, R254, R262, R266); a second copy of a unit changes nothing. Each block received with
E = 0xFF is counted, also one that its position cannot add because the block is a hole there (R54). -/
def State.takeUnit (s : State) (r : Nat) (sl : Slot) (c : CollDesc) (neg hole : Bool) (b : Nat) (u : List Byte) : State :=
  let last := decide (sl.hop + 2 = s.dim sl.stage)
  if sl.kind = 4 then
    let x := s.blk r sl.part sl.coll (3 + sl.stage) b
    if x.gotH then s
    else
      let k := min 32 (c.len - 32 * b)
      (s.setBlk { x with gotH := true, held := u }).writeObj sl.part (s.paramObj c) (32 * b * c.psize)
        (u.take (k * c.psize))
  else
    let x := s.blk r sl.part sl.coll sl.stage b
    let got := if sl.kind = 1 then x.gotR else if sl.kind = 2 then x.gotA else x.gotH
    if got then s
    else
      let x := if sl.kind = 1 then { x with gotR := true } else if sl.kind = 2 then { x with gotA := true }
        else { x with gotH := true }
      if hole then s.setBlk { x with hole := some (x.hole.getD (beAt u 0 2)) }
      else if sl.kind = 1 then s.setBlk (if x.hole.isSome then x else { x with mx := (byteAt u 0).toNat })
      else if sl.kind = 2 then s.setBlk (if x.hole.isSome then x else { x with fin := some (byteAt u 0).toNat })
      else
        let k := bsAccept (s.agreedE c x) (bsOfBytes u)
        let s := s.countArith 4 k.cnt
        if x.hole.isSome then s.setBlk x
        else match s.addBlock r sl.part sl.coll c sl.stage b k.val with
        | .error h => s.setBlk { x with hole := some h }
        | .ok out =>
          let s := s.countArith 4 out.cnt
          if last then s.ownResult r sl neg x out.val else s.setBlk { x with held := bsBytes out.val }

/-- The units of a packet taken one by one. -/
def State.takeUnits (s : State) (r : Nat) (sl : Slot) (c : CollDesc) (neg hole : Bool) : List (Nat × List Byte) → State
  | [] => s
  | (b, u) :: l => State.takeUnits (s.takeUnit r sl c neg hole b u) r sl c neg hole l

/-- The place in the run of the slot that a packet names. A HOLE names the first slot of its stage and HOP that is not
closed (log entry 39). -/
def State.packetSlot (s : State) (part coll kind stage hop : Nat) : Option (Nat × Slot) :=
  let l := (s.slotsOf (kind == 4) s.colls).zipIdx.map (fun e => (e.2, e.1))
  let hit := fun (e : Nat × Slot) => e.2.part == part && e.2.coll == coll && e.2.stage == stage && e.2.hop == hop
  if kind = 7 then
    match l.find? (fun e => hit e && decide (s.coll.slot ≤ e.1)) with
    | some e => some e
    | none => (l.filter hit).getLast?
  else l.find? (fun e => hit e && e.2.kind == kind)

/-- Units cut from a packet's bytes. -/
def cutUnits (size : Nat) : Nat → List Byte → List (List Byte)
  | 0, _ => []
  | n + 1, l => if l.length < size then [] else l.take size :: cutUnits size n (l.drop size)

/-- COLL_PACKET_RECEIVE (R254, R258, R259, R261). -/
def collPacketReceive (o : CollPktOp) (s : State) : State :=
  let h := o.bytes
  let kind := (byteAt h 0).toNat
  let fl := (byteAt h 1).toNat
  let part := bits fl 4 3
  let idx := beAt h 2 2
  if beAt h 8 4 != s.stepId || (byteAt h 5).toNat != s.sched.repeats then s.count cCollStaleDrop 0 1
  else if kind = 0 ∨ 8 ≤ kind then s.count cCollBadPkt 0 1
  else match s.collAt part idx with
    | none => s.count cCollBadPkt 0 1
    | some c =>
      let neg := bit fl 2
      match (if kind = 5 ∨ kind = 6 then none else s.packetSlot part idx kind (bits fl 1 0) (byteAt h 4).toNat) with
      | none => s
      | some (i, sl) =>
        let hole := decide (kind = 7)
        let size := if hole then 4 else if kind ≤ 2 then 1 else if kind = 3 then 66 else 32 * c.psize
        let us := cutUnits size (beAt h 6 2) (h.drop 16)
        let closed := if kind = 4 then s.coll.gather && decide (i < s.coll.slot)
          else s.coll.gather || decide (i < s.coll.slot)
        if closed then (s.count cCollBlockLate 0 us.length).count cSchedEdgeLate 0 us.length
        else
          let s := s.collEcc o.t0 o.t1
          let first := beAt h 12 4
          let serves := fun q => if s.fab.absent.contains q then s.serves q else q
          match s.positions.find? (fun r => serves (s.ringNext r sl.stage (!neg)) == o.src &&
              (s.blockList r c sl.kind sl.stage (sl.hop + 1) neg).contains first) with
          | none => s
          | some r =>
            let bl := (s.blockList r c sl.kind sl.stage (sl.hop + 1) neg).dropWhile (fun b => b != first)
            s.takeUnits r sl c neg hole (bl.zip us)

/-! ### The decode tick and the reduce deadline (R263 to R265, R525) -/

/-- Whether every ring has one member (R525). -/
def State.oneMember (s : State) : Bool := (upTo 3).all (fun g => decide (s.dim g ≤ 1))

/-- What decoding of a shard has found so far: marker elements, the first of them, the largest E, the ranks that its holes name. -/
structure ShardDec where
  nans  : Nat := 0
  first : Option Nat := none
  maxE  : Nat := 0
  holes : List Nat := []

/-- A marker element taken into what decoding has found. -/
def ShardDec.mark (d : ShardDec) (e : Nat) : ShardDec := { d with nans := d.nans + 1, first := some (d.first.getD e) }

/-- One element of a block in a pod of one: left alone, or written as NaN and counted (R525). -/
def State.soloElem (s : State) (part : Nat) (c : CollDesc) (d : ShardDec) (e v : Nat) : State × ShardDec :=
  match unpack .fp32 v with
  | .fin _ _ _ => (s, d)
  | .nan _ _ => ((s.count cGradNan 4 1).writeObj part c.gradObj (4 * e) (leBytes 4 0x7FC00000), d.mark e)
  | .inf _ => ((s.count cGradInf 4 1).writeObj part c.gradObj (4 * e) (leBytes 4 0x7FC00000), d.mark e)

/-- One block of a shard decoded. -/
def State.decodeBlock (s : State) (r part coll : Nat) (c : CollDesc) (p : State × ShardDec) (b : Nat) : State × ShardDec :=
  let k := min 32 (c.len - 32 * b)
  if s.oneMember then
    ((s.gradBlock part c b).take k).zipIdx.foldl (fun q e => q.1.soloElem part c q.2 (32 * b + e.2) e.1) p
  else
    let stages := (upTo 3).filter (fun g => decide (1 < s.dim g))
    let x := p.1.blk r part coll (stages.getLast?.getD 0) b
    match x.res with
    | none => (p.1, { p.2 with holes := (p.2.holes ++ [x.hole.getD r]).eraseDups })
    | some bs =>
      let blk := bsOfBytes bs
      let es := blk.elems.take k
      let d := { p.2 with maxE := max p.2.maxE blk.e }
      let d := es.zipIdx.foldl (fun d e => if e.1 = bsMarker then d.mark (32 * b + e.2) else d) d
      (p.1.writeObj part c.gradObj (128 * b) (es.flatMap (fun m =>
        leBytes 4 (if m = bsMarker then 0x7FC00000 else bsDecode blk.e m))), d)

/-- The policy's effect on a shard with marker elements (R265, Table 9.6). DENSE_NAN_FIRST keeps the first element written since the
last COMMITTED edge: DEDUCED (log entry 200). -/
def State.nanPolicy (s : State) (r part coll : Nat) (c : CollDesc) (d : ShardDec) : State :=
  if d.nans = 0 then s
  else
    let pol := s.dnum 0x620002
    let sp := s.span r c 3
    let s := if pol = 0 then s.count cGradNanSkipped 0 d.nans
      else if pol = 1 then s.count cGradNanSkipped 0 (min (32 * sp.2) c.len - 32 * sp.1)
      else { s with sched := { s.sched with cause := if s.sched.cause = 0 then 3 else s.sched.cause } }
    if (s.dget 0x620004).all (· == 0#8) then
      s.dput 0x620004 (leBytes 8 s.now ++ [BitVec.ofNat 8 coll, BitVec.ofNat 8 part, 0#8, 0#8] ++
        leBytes 4 (d.first.getD 0))
    else s

/-- ESCALATED (Table 9.5): whether a result block of the own position, in any stage, has RESCALED set. -/
def State.escalated (s : State) (part coll : Nat) : Bool :=
  s.coll.blks.any (fun x => x.rank == s.rank && x.part == part && x.coll == coll && decide (x.stage < 3) &&
    x.res.any (fun b => (bsOfBytes b).resc))

/-- A shard of a collective decoded: its record is kept for the own shard, its holes for any. -/
def State.decodeShard (s : State) (part coll : Nat) (c : CollDesc) (r : Nat) : State :=
  let sp := s.span r c 3
  let q := ((upTo (sp.2 - sp.1)).map (fun i => sp.1 + i)).foldl (fun p b => p.1.decodeBlock r part coll c p b) (s, ({} : ShardDec))
  let s := q.1.nanPolicy r part coll c q.2
  let rec_ : CollDec := ⟨part, coll, q.2.nans, q.2.maxE, s.escalated part coll, q.2.holes⟩
  let l := s.coll.dec
  let l' := if r = s.rank then l ++ [rec_]
    else l.map (fun e => if e.part == part && e.coll == coll then { e with holes := (e.holes ++ q.2.holes).eraseDups } else e)
  { s with coll := { s.coll with dec := l' } }

/-- The decode tick (R263, R525): every shard that this module owns. A slot that closes at its edge does so first. -/
def State.collDecode (s : State) : State :=
  if s.coll.decoded then s
  else
    let s := if s.coll.gather then s else collSlotClose s
    let s := { s with coll := { s.coll with decoded := true, dec := [] } }
    s.colls.foldl (fun s e => if e.2.2.reduce then
      s.positions.foldl (fun s r => s.decodeShard e.1 e.2.1 e.2.2 r) s else s) s

/-- One collective at the reduce deadline (R264): record, fence, coll_done; the ranks that its holes name are reported as missing,
and the first is logged (R262). -/
def State.collDone (s : State) (part coll : Nat) (c : CollDesc) (d : CollDec) : State :=
  let sp := s.span s.rank c 3
  let skip := decide (0 < d.nans) && s.dnum 0x620002 == 1
  let s := if c.resEn then
      s.memWrite 0 (64 * c.resUnit) (padTo 64 (leBytes 4 s.stepId ++ leBytes 4 d.nans ++
        [BitVec.ofNat 8 (b2n d.holes.isEmpty + 2 * b2n skip + 4 * b2n d.esc), BitVec.ofNat 8 d.maxE, 0#8, 0#8] ++
        leBytes 4 sp.1 ++ leBytes 4 (sp.2 - sp.1)))
    else s
  match d.holes with
  | h :: l =>
    { s with sched := { s.sched with named := (s.sched.named ++ h :: l).eraseDups } }.logMissing
      ⟨part, coll, 3, ((upTo 3).filter (fun g => decide (1 < s.dim g))).getLast?.getD 0, 0, 0⟩ h
  | [] =>
    let s := if c.doneEn then (upTo s.variant.tiles).foldl (fun s t => s.fenceAdd t c.fence 1) s else s
    s.count cCollDone 0 1

/-- The collectives' part of the reduce deadline edge (R264), and whether a block of a shard is missing. -/
def State.collDeadline (s : State) : State × Bool :=
  let s := s.collDecode
  let bad := s.coll.dec.any (fun d => !d.holes.isEmpty)
  (s.coll.dec.foldl (fun s d => match s.collAt d.part d.coll with
    | some c => s.collDone d.part d.coll c d
    | none => s) s, bad)

/-! ### State mirror and the schedule's edges (R267 to R269) -/

/-- Runs of at most n elements of [0, m). -/
def elemRuns (n m : Nat) : List (Nat × Nat) :=
  (upTo (ceilDiv m (max 1 n))).map (fun i => (i * n, min n (m - i * n)))

/-- The staged half's bytes of the own shard, sent to the buddy (R267). -/
def State.sendState (s : State) (part coll : Nat) (c : CollDesc) : State :=
  match s.obj part c.stateObj with
  | none => s
  | some o =>
    let sp := s.span s.rank c 3
    let m := min (32 * sp.2) c.len - 32 * sp.1
    let half := (s.epoch + 1) % 2 * (s.shardBound c * c.bpe)
    (elemRuns (4144 / max 1 c.bpe) m).foldl (fun s e =>
      let b := s.readOpen part c.stateObj (half + e.1 * c.bpe) (e.2 * c.bpe)
      let s := { s with coll := { s.coll with acks := s.coll.acks ++ [(part, coll, e.1)] } }
      s.sendMsg (s.rankOf o.buddy) 1 (.coll (s.collPayload 5 0 false part coll 0 e.2 e.1 b))) s

/-- When an attempt begins the collectives hold nothing, and units of it are taken from then on, also before the Gate 1 edge of
this module (R261). -/
def State.collAttempt (s : State) : State :=
  { s with coll := { s.coll with gather := false, slot := 0, opened := 0, blks := [], lost := [], decoded := false, dec := [],
                                 acks := [], unsent := false, unready := false },
           fab := { s.fab with spread := [] } }

/-- At the Gate 1 PROCEED edge the reduce-scatter starts (R260). -/
def State.collStartReduce (s : State) : State :=
  { s with coll := { s.coll with start := s.now, gather := false, slot := 0, opened := 0 } }

/-- At the Gate 2 PROCEED edge the allgather starts and the state mirror is sent (R260, R267). -/
def State.collStartGather (s : State) : State :=
  let s := { s with coll := { s.coll with start := s.now, gather := true, slot := 0, opened := 0, unsent := false } }
  s.colls.foldl (fun s e => if e.2.2.mirror then s.sendState e.1 e.2.1 e.2.2 else s) s

/-- STATE_PACKET_RECEIVE (R259, R267): written at the same offset of the same half of the object that the sender's
BUDDY_INDEX names, and acknowledged. -/
def statePacketReceive (o : CollPktOp) (s : State) : State :=
  let h := o.bytes
  let part := bits (byteAt h 1).toNat 4 3
  let idx := beAt h 2 2
  if byteAt h 0 ≠ 5#8 then s
  else if beAt h 8 4 != s.stepId || (byteAt h 5).toNat != s.sched.repeats then s.count cCollStaleDrop 0 1
  else match s.collAt part idx with
    | none => s.count cCollBadPkt 0 1
    | some c =>
      let half := (s.epoch + 1) % 2 * (s.shardBound c * c.bpe)
      let first := beAt h 12 4
      let n := beAt h 6 2
      (s.writeObj part o.obj.toNat (half + first * c.bpe) ((h.drop 16).take (n * c.bpe))).sendMsg o.src 1
        (.coll (s.collPayload 6 0 false part idx 0 n first []))

/-- STATE_ACK_RECEIVE (R268). -/
def stateAckReceive (o : CollPktOp) (s : State) : State :=
  let h := o.bytes
  let part := bits (byteAt h 1).toNat 4 3
  let idx := beAt h 2 2
  if byteAt h 0 ≠ 6#8 then s
  else if beAt h 8 4 != s.stepId || (byteAt h 5).toNat != s.sched.repeats then s.count cCollStaleDrop 0 1
  else if (s.collAt part idx).isNone then s.count cCollBadPkt 0 1
  else { s with coll := { s.coll with acks := s.coll.acks.filter (fun a => a != (part, idx, beAt h 12 4)) } }

/-- At the vote sample (R268): STATE packets unacknowledged are counted; whether the collectives make the module not
ready. -/
def State.collVote (s : State) : State × Bool :=
  let n := s.coll.acks.length
  (s.count cCollStateUnacked 0 n, s.coll.unready || decide (0 < n))

/-- Whether a frame carries a collective packet. -/
def collFrame (f : Frame) : Bool := match f.pay with | .coll _ => true | _ => false

/-- At an ABORT decision edge every collective packet of the attempt is discarded (R269). -/
def State.collAbort (s : State) : State :=
  let keep := fun (l : List Frame) => l.filter (fun f => !collFrame f)
  let links := s.fab.links.map (fun e =>
    (e.1, { e.2 with queue := (upTo 8).foldl (fun q v => Tab.put [] q v (keep (Tab.get [] q v))) e.2.queue }))
  { s with
    fab := { s.fab with links := links, waiting := s.fab.waiting.filter (fun w => !collFrame w.2.2) },
    coll := { s.coll with blks := [], lost := [], acks := [], decoded := false, dec := [], slot := 0, opened := 0,
                          unready := false, unsent := false } }

/-- At the COMMITTED edge the logs of the step are cleared (Table 9.8). -/
def State.collCommitted (s : State) : State :=
  { (s.dput 0x620003 (List.replicate 16 0#8)).dput 0x620004 (List.replicate 16 0#8) with
    coll := { s.coll with missed := none, hopsEv := none } }

def execCollDefine (o : MbxCmdOp) (s : State) : Host.Outcome State Fault Refusal := .next (s.mbxRun 0x0601 o State.collDefine)
def execCollFree (o : MbxCmdOp) (s : State) : Host.Outcome State Fault Refusal := .next (s.mbxRun 0x0602 o State.collFree)
def execCollQuery (o : MbxCmdOp) (s : State) : Host.Outcome State Fault Refusal := .next (s.mbxRun 0x0603 o State.collQuery)
def execCollSlotOpen (o : CollSlotOp) (s : State) : Host.Outcome State Fault Refusal := .next (collSlotOpen o s)
def execCollPacketReceive (o : CollPktOp) (s : State) : Host.Outcome State Fault Refusal := .next (collPacketReceive o s)
def execCollSlotClose (s : State) : Host.Outcome State Fault Refusal := .next (collSlotClose s)
def execStatePacketReceive (o : CollPktOp) (s : State) : Host.Outcome State Fault Refusal := .next (statePacketReceive o s)
def execStateAckReceive (o : CollPktOp) (s : State) : Host.Outcome State Fault Refusal := .next (stateAckReceive o s)

end Sys2Proof.Machine
end

