-- ==== Sys2Proof/Machine/CoreBase.lean ====
section
/-! DEFINITION. What every steward core instruction shares (file 05): when it runs, registers and predicates (R131,
R132), taking an exception (R145) and the lanes of vectors. -/

namespace Sys2Proof.Machine

/-- What a command answers. -/
abbrev Out := Host.Outcome State Fault Refusal

/-- The return from a handler (R145). -/
def Core.eret (c : Core) : Core := { c with inh := false, pc := c.epc, instret := c.instret + 1#64 }

/-- An instruction runs on a core that is RUNNING and neither absent nor mapped out; otherwise the core issues nothing.
Each is counted in sc_busy (R157). -/
def State.onCore (s : State) (k : BitVec 8) (f : State → Core → State) : State :=
  if s.coreOk k.toNat && (s.core k.toNat).mode == .running then
    let s := s.count cScBusy k.toNat 1
    f s (s.core k.toNat)
  else s

/-- The core's new registers, or an exception. -/
def State.finishCore (s : State) (k : BitVec 8) (r : Except Exc Core) : State :=
  match r with
  | .ok c => s.setCore k.toNat c.advance
  | .error e => s.takeExc k.toNat e

/-- An instruction that touches the core's registers only. -/
def State.onRegs (s : State) (k : BitVec 8) (f : Core → Except Exc Core) : State :=
  s.onCore k (fun s c => s.finishCore k (f c))

/-! ### Registers -/

/-- Vector register v[r]. -/
def Core.getV (c : Core) (r : BitVec 5) : Vec := c.v[r.toNat]'r.isLt

/-- v[r] written. -/
def Core.setV (c : Core) (r : BitVec 5) (w : Vec) : Core := { c with v := c.v.set r.toNat w r.isLt }

/-- Predicate p[r]: p0 reads all ones (R131). -/
def Core.getP (c : Core) (r : BitVec 3) : Word64 := if r = 0#3 then BitVec.allOnes 64 else c.p[r.toNat]'r.isLt

/-- p[r] written; a write to p0 is discarded. -/
def Core.setP (c : Core) (r : BitVec 3) (w : Word64) : Core :=
  if r = 0#3 then c else { c with p := c.p.set r.toNat w r.isLt }

/-- The predicate that a 5-bit register field names, when its upper bits are zero (R140). -/
def predOf (r : BitVec 5) : Option (BitVec 3) := if r.toNat < 8 then some (BitVec.ofNat 3 r.toNat) else none

/-- Sticky IEEE flags added (R134). -/
def Core.addFlags (c : Core) (f : Nat) : Core := { c with fflags := c.fflags ||| BitVec.ofNat 5 f }

/-- The rounding of SC_FRM, when it accepts it (R134). -/
def Core.rnd (c : Core) : Option Rnd := if c.frm.toNat ≤ 3 then some (Rnd.ofCode c.frm.toNat) else none

/-- Run `f` under SC_FRM's rounding, or BAD_ROUNDING. -/
def Core.withRnd (c : Core) (f : Rnd → Except Exc Core) : Except Exc Core :=
  match c.rnd with
  | some r => f r
  | none => .error excRounding

/-! ### Lanes (R132, Table 5.2) -/

/-- Width in bits of a lane of element type ET. -/
def etWidth (et : BitVec 3) : Nat :=
  let n := et.toNat
  if n = 0 || n = 3 then 32 else if n = 1 || n = 2 || n = 4 then 16 else if n = 5 then 8 else 64

/-- Lanes of element type ET. -/
def etLanes (et : BitVec 3) : Nat := 512 / etWidth et

/-- Whether ET names an element type; an FP type; an integer type. -/
def etOk (et : BitVec 3) : Bool := et != 7#3
def etFp (et : BitVec 3) : Bool := decide (et.toNat ≤ 2)
def etInt (et : BitVec 3) : Bool := decide (3 ≤ et.toNat) && etOk et

/-- The format of an FP element type. -/
def etFmt (et : BitVec 3) : Fmt := if et.toNat = 0 then .fp32 else if et.toNat = 1 then .bf16 else .fp16

/-- Lane i of width w. -/
def laneOf (v : Vec) (w i : Nat) : Nat := v.toNat / 2 ^ (w * i) % 2 ^ w

/-- A vector from its lanes of width w, lane 0 first. -/
def ofLanes (w : Nat) (ls : List Nat) : Vec := BitVec.ofNat 512 (packElems w ls)

/-- Whether lane i is active under a predicate. -/
def laneOn (p : Word64) (i : Nat) : Bool := p.getLsbD i

/-- The destination with lane i given by `f` where active; an inactive lane is kept, or zeroed under ZM. -/
def mapLanes (et : BitVec 3) (zm : Bool) (p : Word64) (old : Vec) (f : Nat → Nat) : Vec :=
  let w := etWidth et
  ofLanes w ((upTo (etLanes et)).map (fun i =>
    if laneOn p i then f i % 2 ^ w else if zm then 0 else laneOf old w i))

/-- Flags of the active lanes, together. -/
def laneFlags (et : BitVec 3) (p : Word64) (f : Nat → Nat) : Nat :=
  ((upTo (etLanes et)).map (fun i => if laneOn p i then f i else 0)).foldl (· ||| ·) 0

/-- The number of a two's complement lane. -/
def laneInt (w n : Nat) : Int := sext w n

end Sys2Proof.Machine
end

