-- ==== Sys2Proof/Machine/CoreInt.lean ====
section
/-! DEFINITION. Scalar integer instructions, branches and predicate logic of the steward cores (Table 5.5). -/

namespace Sys2Proof.Machine

/-- DST = f SRC1 SRC2. -/
def State.aluA (s : State) (o : OpA) (f : Word64 → Word64 → Word64) : State :=
  s.onRegs o.core (fun c => .ok (c.setX o.dst (f (c.getX o.src1) (c.getX o.src2))))

/-- DST = f SRC1 IMM. -/
def State.aluI (s : State) (o : OpI) (f : Word64 → Half → Word64) : State :=
  s.onRegs o.core (fun c => .ok (c.setX o.dst (f (c.getX o.src1) o.imm)))

/-- A shift amount: SRC2[5:0]. -/
def shamt (b : Word64) : Nat := b.toNat % 64

/-- 1 or 0. -/
def ofBool (b : Bool) : Word64 := if b then 1#64 else 0#64

/-- Signed quotient: all ones for division by zero; −2^63 ÷ −1 gives −2^63. -/
def divS (a b : Word64) : Word64 := if b = 0#64 then BitVec.allOnes 64 else BitVec.ofInt 64 (a.toInt.tdiv b.toInt)

/-- Signed remainder: the dividend for division by zero. -/
def remS (a b : Word64) : Word64 := if b = 0#64 then a else BitVec.ofInt 64 (a.toInt.tmod b.toInt)

/-- Unsigned quotient and remainder, with the same rule for zero. -/
def divU (a b : Word64) : Word64 := if b = 0#64 then BitVec.allOnes 64 else BitVec.ofNat 64 (a.toNat / b.toNat)
def remU (a b : Word64) : Word64 := if b = 0#64 then a else BitVec.ofNat 64 (a.toNat % b.toNat)

/-- The upper half of the signed and of the unsigned product. -/
def mulHi (a b : Word64) : Word64 := BitVec.ofInt 64 ((a.toInt * b.toInt) / ((2 ^ 64 : Nat) : Int))
def mulHiU (a b : Word64) : Word64 := BitVec.ofNat 64 (a.toNat * b.toNat / 2 ^ 64)

/-- Leading zeros; 64 for zero. -/
def clz (a : Word64) : Word64 := if a = 0#64 then 64#64 else BitVec.ofNat 64 (63 - log2n a.toNat)

/-- Set bits. -/
def popcount (a : Word64) : Word64 := BitVec.ofNat 64 (popc 64 a.toNat)

def execAdd (o : OpA) (s : State) : Out := .next (s.aluA o (fun a b => a + b))
def execSub (o : OpA) (s : State) : Out := .next (s.aluA o (fun a b => a - b))
def execAnd (o : OpA) (s : State) : Out := .next (s.aluA o (fun a b => a &&& b))
def execOr (o : OpA) (s : State) : Out := .next (s.aluA o (fun a b => a ||| b))
def execXor (o : OpA) (s : State) : Out := .next (s.aluA o (fun a b => a ^^^ b))
def execSll (o : OpA) (s : State) : Out := .next (s.aluA o (fun a b => a <<< shamt b))
def execSrl (o : OpA) (s : State) : Out := .next (s.aluA o (fun a b => a >>> shamt b))
def execSra (o : OpA) (s : State) : Out := .next (s.aluA o (fun a b => a.sshiftRight (shamt b)))
def execSlt (o : OpA) (s : State) : Out := .next (s.aluA o (fun a b => ofBool (a.slt b)))
def execSltu (o : OpA) (s : State) : Out := .next (s.aluA o (fun a b => ofBool (a.ult b)))
def execMul (o : OpA) (s : State) : Out := .next (s.aluA o (fun a b => a * b))
def execMulh (o : OpA) (s : State) : Out := .next (s.aluA o mulHi)
def execMulhu (o : OpA) (s : State) : Out := .next (s.aluA o mulHiU)
def execDiv (o : OpA) (s : State) : Out := .next (s.aluA o divS)
def execDivu (o : OpA) (s : State) : Out := .next (s.aluA o divU)
def execRem (o : OpA) (s : State) : Out := .next (s.aluA o remS)
def execRemu (o : OpA) (s : State) : Out := .next (s.aluA o remU)
def execMin (o : OpA) (s : State) : Out := .next (s.aluA o (fun a b => if b.slt a then b else a))
def execMax (o : OpA) (s : State) : Out := .next (s.aluA o (fun a b => if a.slt b then b else a))
def execClz (o : OpA) (s : State) : Out := .next (s.aluA o (fun a _ => clz a))
def execPopc (o : OpA) (s : State) : Out := .next (s.aluA o (fun a _ => popcount a))

def execAddi (o : OpI) (s : State) : Out := .next (s.aluI o (fun a i => a + i.signExtend 64))
def execAndi (o : OpI) (s : State) : Out := .next (s.aluI o (fun a i => a &&& i.zeroExtend 64))
def execOri (o : OpI) (s : State) : Out := .next (s.aluI o (fun a i => a ||| i.zeroExtend 64))
def execXori (o : OpI) (s : State) : Out := .next (s.aluI o (fun a i => a ^^^ i.zeroExtend 64))
def execSlli (o : OpI) (s : State) : Out := .next (s.aluI o (fun a i => a <<< (i.toNat % 64)))
def execSrli (o : OpI) (s : State) : Out := .next (s.aluI o (fun a i => a >>> (i.toNat % 64)))
def execSrai (o : OpI) (s : State) : Out := .next (s.aluI o (fun a i => a.sshiftRight (i.toNat % 64)))
def execSlti (o : OpI) (s : State) : Out := .next (s.aluI o (fun a i => ofBool (a.slt (i.signExtend 64))))

/-- LUI: DST = IMM << 16, IMM sign-extended (R140). -/
def execLui (o : OpJ) (s : State) : Out :=
  .next (s.onRegs o.core (fun c => .ok (c.setX o.dst (o.imm.signExtend 64 <<< 16))))

/-! ### Branches and jumps -/

/-- The core after a completed jump to an address (PC is 18 bits, [1:0] zero); a target beyond local memory is cut to them,
DEDUCED from the width of PC beside R136 (log entry 157). -/
def Core.jumpTo (c : Core) (a : Nat) : Core :=
  { c with pc := BitVec.ofNat 18 (a - a % 4), instret := c.instret + 1#64 }

/-- PC + 4 × IMM for an offset of n words. -/
def relTarget (pc : BitVec 18) (n : Int) : Nat := wrap 18 ((pc.toNat : Int) + 4 * n)

/-- A branch taken when `t` holds of SRC1 and SRC2. -/
def State.branch (s : State) (o : OpB) (t : Word64 → Word64 → Bool) : State :=
  s.onCore o.core (fun s c => s.setCore o.core.toNat
    (if t (c.getX o.src1) (c.getX o.src2) then c.jumpTo (relTarget c.pc o.imm.toInt) else c.advance))

def execBeq (o : OpB) (s : State) : Out := .next (s.branch o (fun a b => a == b))
def execBne (o : OpB) (s : State) : Out := .next (s.branch o (fun a b => a != b))
def execBlt (o : OpB) (s : State) : Out := .next (s.branch o (fun a b => a.slt b))
def execBge (o : OpB) (s : State) : Out := .next (s.branch o (fun a b => !a.slt b))
def execBltu (o : OpB) (s : State) : Out := .next (s.branch o (fun a b => a.ult b))
def execBgeu (o : OpB) (s : State) : Out := .next (s.branch o (fun a b => !a.ult b))

/-- JAL: DST = PC + 4; PC = PC + 4 × IMM. -/
def execJal (o : OpJ) (s : State) : Out :=
  .next (s.onCore o.core (fun s c => s.setCore o.core.toNat
    ((c.setX o.dst (BitVec.ofNat 64 (c.pc.toNat + 4))).jumpTo (relTarget c.pc o.imm.toInt))))

/-- JALR: DST = PC + 4; PC = (SRC1 + IMM) with bits [1:0] cleared. -/
def execJalr (o : OpI) (s : State) : Out :=
  .next (s.onCore o.core (fun s c => s.setCore o.core.toNat
    ((c.setX o.dst (BitVec.ofNat 64 (c.pc.toNat + 4))).jumpTo ((c.getX o.src1 + o.imm.signExtend 64).toNat % 2 ^ 18))))

/-! ### Predicates (OP 0x39) -/

/-- DST = f SRC1 SRC2 on predicates; a field whose upper bits are not zero is ILLEGAL (R140). -/
def State.predA (s : State) (o : OpA) (f : Word64 → Word64 → Word64) : State :=
  s.onRegs o.core (fun c => match predOf o.dst, predOf o.src1, predOf o.src2 with
    | some d, some a, some b => .ok (c.setP d (f (c.getP a) (c.getP b)))
    | _, _, _ => .error excIllegal)

/-- A predicate read to a scalar. -/
def State.predX (s : State) (o : OpA) (f : Word64 → Word64) : State :=
  s.onRegs o.core (fun c => match predOf o.src1 with
    | some a => .ok (c.setX o.dst (f (c.getP a)))
    | none => .error excIllegal)

/-- A predicate made from a scalar. -/
def State.predP (s : State) (o : OpA) (f : Word64 → Word64) : State :=
  s.onRegs o.core (fun c => match predOf o.dst with
    | some d => .ok (c.setP d (f (c.getX o.src1)))
    | none => .error excIllegal)

/-- Bits 0 to n − 1 set. -/
def firstBits (n : Word64) : Word64 := if 64 ≤ n.toNat then BitVec.allOnes 64 else BitVec.ofNat 64 (2 ^ n.toNat - 1)

def execPand (o : OpA) (s : State) : Out := .next (s.predA o (fun a b => a &&& b))
def execPor (o : OpA) (s : State) : Out := .next (s.predA o (fun a b => a ||| b))
def execPxor (o : OpA) (s : State) : Out := .next (s.predA o (fun a b => a ^^^ b))
/-- PANDN: SRC1 and not SRC2 (DEDUCED, log entry 29). -/
def execPandn (o : OpA) (s : State) : Out := .next (s.predA o (fun a b => a &&& ~~~b))
def execPfirst (o : OpA) (s : State) : Out := .next (s.predP o firstBits)
def execPcnt (o : OpA) (s : State) : Out := .next (s.predX o popcount)
def execPmovx (o : OpA) (s : State) : Out := .next (s.predX o id)
def execPmovp (o : OpA) (s : State) : Out := .next (s.predP o id)

end Sys2Proof.Machine
end

