-- ==== Sys2Proof/Machine/CoreFp.lean ====
section
/-! DEFINITION. FP64 instructions of the steward cores (Table 5.5, OP 0x08): operands in x registers, rounding from
SC_FRM, sticky flags in SC_FFLAGS (R134). -/

namespace Sys2Proof.Machine

/-- An FP64 result written with its flags. -/
def Core.fpOut (c : Core) (dst : BitVec 5) (r : FRes) : Core := (c.setX dst (BitVec.ofNat 64 r.bits)).addFlags r.flags

/-- A rounded FP64 operation of two operands and of DST. -/
def State.fpR (s : State) (o : OpA) (f : Rnd → Nat → Nat → Nat → FRes) : State :=
  s.onRegs o.core (fun c => c.withRnd (fun r =>
    .ok (c.fpOut o.dst (f r (c.getX o.src1).toNat (c.getX o.src2).toNat (c.getX o.dst).toNat))))

/-- An FP64 operation that does not round. -/
def State.fpN (s : State) (o : OpA) (f : Nat → Nat → FRes) : State :=
  s.onRegs o.core (fun c => .ok (c.fpOut o.dst (f (c.getX o.src1).toNat (c.getX o.src2).toNat)))

/-- A compare: 1 or 0, false on NaN; a signalling NaN is invalid (log entry 25). -/
def cmp64 (f : Fmt → Nat → Nat → Bool) (a b : Nat) : FRes := ⟨b2n (f .fp64 a b), snanFlag .fp64 [a, b]⟩

/-- FP64 to a 64-bit integer: out of range, infinite or NaN is an open value with NV (log entry 12). -/
def cvtToL (r : Rnd) (a : Nat) : FRes :=
  match unpack .fp64 a with
  | .fin n m e =>
    let q := roundShift r n m (-e)
    let v : Int := if n then -(q.1 : Int) else q.1
    if v < -(2 ^ 63 : Nat) ∨ (2 ^ 63 : Nat) ≤ v then ⟨(Config.cvtToLong a).toNat, 16⟩ else ⟨wrap 64 v, b2n q.2⟩
  | _ => ⟨(Config.cvtToLong a).toNat, 16⟩

/-- A 64-bit integer to FP64. -/
def cvtFromL (r : Rnd) (a : Nat) : FRes :=
  let v := sext 64 a
  if v = 0 then ⟨0, 0⟩ else finish .fp64 r (decide (v < 0)) v.natAbs 0

/-- FP64 to FP32 with [63:32] zero; a NaN keeps its payload. -/
def cvtDtoS (r : Rnd) (a : Nat) : FRes :=
  match unpack .fp64 a with
  | .nan _ _ => ⟨nanMove .fp64 .fp32 a, snanFlag .fp64 [a]⟩
  | .inf n => ⟨withSign .fp32 n Fmt.fp32.infBits, 0⟩
  | .fin n m e => if m = 0 then ⟨withSign .fp32 n 0, 0⟩ else finish .fp32 r n m e

/-- FP32 in [31:0] to FP64, exactly. -/
def cvtStoD (a : Nat) : FRes :=
  let w := a % 2 ^ 32
  match unpack .fp32 w with
  | .nan _ _ => ⟨nanMove .fp32 .fp64 w, snanFlag .fp32 [w]⟩
  | .inf n => ⟨withSign .fp64 n Fmt.fp64.infBits, 0⟩
  | .fin n m e => if m = 0 then ⟨withSign .fp64 n 0, 0⟩ else finish .fp64 .rne n m e

/-- Whether FP64 to FP32 overflows to the largest finite value (R523): counted in cvt_sat. -/
def satDtoS (r : Rnd) (a : Nat) : Bool :=
  match unpack .fp64 a with
  | .fin n m e => (roundMag .fp32 r n m e).overl && !(r.overInf n)
  | _ => false

def execFaddD (o : OpA) (s : State) : Out := .next (s.fpR o (fun r a b _ => fAdd .payload .fp64 r a b))
def execFsubD (o : OpA) (s : State) : Out := .next (s.fpR o (fun r a b _ => fSub .payload .fp64 r a b))
def execFmulD (o : OpA) (s : State) : Out := .next (s.fpR o (fun r a b _ => fMul .payload .fp64 r a b))
def execFdivD (o : OpA) (s : State) : Out := .next (s.fpR o (fun r a b _ => fDiv .payload .fp64 r a b))
def execFsqrtD (o : OpA) (s : State) : Out := .next (s.fpR o (fun r a _ _ => fSqrt .payload .fp64 r a))
def execFmaD (o : OpA) (s : State) : Out := .next (s.fpR o (fun r a b d => fFma .payload .fp64 r a b d))
def execFminD (o : OpA) (s : State) : Out := .next (s.fpN o (fMinMax .fp64 false))
def execFmaxD (o : OpA) (s : State) : Out := .next (s.fpN o (fMinMax .fp64 true))
def execFeqD (o : OpA) (s : State) : Out := .next (s.fpN o (cmp64 fEq))
def execFltD (o : OpA) (s : State) : Out := .next (s.fpN o (cmp64 fLt))
def execFleD (o : OpA) (s : State) : Out := .next (s.fpN o (cmp64 fLe))
def execFcvtLD (o : OpA) (s : State) : Out := .next (s.fpR o (fun r a _ _ => cvtToL r a))
def execFcvtDL (o : OpA) (s : State) : Out := .next (s.fpR o (fun r a _ _ => cvtFromL r a))
def execFcvtDS (o : OpA) (s : State) : Out := .next (s.fpN o (fun a _ => cvtStoD a))

/-- FCVT.S.D, counted in cvt_sat where it saturates (R60, R71). -/
def execFcvtSD (o : OpA) (s : State) : Out :=
  .next (s.onCore o.core (fun s c => match c.rnd with
    | none => s.takeExc o.core.toNat excRounding
    | some r =>
      let a := (c.getX o.src1).toNat
      let s := s.finishCore o.core (.ok (c.fpOut o.dst (cvtDtoS r a)))
      s.countArith (s.byPart o.core.toNat) { cvtSat := b2n (satDtoS r a) }))

end Sys2Proof.Machine
end

