-- ==== Sys2Proof/Machine/TreeBank.lean ====
section
/-! DEFINITION. The tree engine's banks (file 14): model and tree directories (R396, R397), footprints (R405) and the
protection of the tree store (R406, R410). -/

namespace Sys2Proof.Machine

/-- A model descriptor (Table 14.3). -/
structure ModelDesc where
  id       : Nat
  valid    : Bool
  layout   : Nat
  k        : Nat
  link     : Nat
  treeBase : Nat
  trees    : Nat
  nodeBase : Nat
  leafBase : Nat
  thresh   : Nat
  base     : List Nat
  raw      : List Byte
  deriving DecidableEq, Repr

/-- A bank's copy of a banked entry. -/
def State.bankGet (s : State) (b k : Nat) : List Byte := s.dget (b * 2 ^ 24 + k)

/-- The descriptor of 128 bytes. -/
def modelOf (d : List Byte) : ModelDesc :=
  { id := leAt d 0 2 % 4096, valid := bit (leAt d 2 1) 0, layout := leAt d 3 1 % 64, k := leAt d 4 1, link := leAt d 5 1,
    treeBase := leAt d 8 4, trees := leAt d 12 4, nodeBase := leAt d 16 4, leafBase := leAt d 20 4,
    thresh := leAt d 24 4, base := (upTo 16).map (fun i => leAt d (64 + 4 * i) 4), raw := d }

/-- A bank's valid models with their places in the model directory (R396). -/
def State.models (s : State) (b : Nat) : List (Nat × ModelDesc) :=
  (((chunks 128 256 (s.bankGet b 0x520101)).zipIdx).map (fun d => (d.2, modelOf d.1))).filter (fun m => m.2.valid)

/-- The raw tree directory entries that a model uses (R397). -/
def State.treeEntries (s : State) (b : Nat) (m : ModelDesc) : List Nat :=
  let dir := (s.bankGet b 0x520201).drop (2 * m.treeBase)
  (upTo m.trees).map (fun t => leAt dir (2 * t) 2)

/-- Leaves of each tree of a model. -/
def State.treeLeaves (s : State) (b : Nat) (m : ModelDesc) : List Nat := (s.treeEntries b m).map (· % 512)

/-- A model's internal nodes and leaves in all. -/
def State.modelSize (s : State) (b : Nat) (m : ModelDesc) : Nat × Nat :=
  let ls := s.treeLeaves b m
  ((ls.map (· - 1)).foldl (· + ·) 0, ls.foldl (· + ·) 0)

/-- Bytes of the tree store that a model uses: its node records and its leaves, where it has any (R394, R405). -/
def State.modelRange (s : State) (b : Nat) (m : ModelDesc) : List (Nat × Nat) :=
  let z := s.modelSize b m
  [(8 * m.nodeBase, 8 * z.1), (33554432 + 4 * m.leafBase, 4 * z.2)].filter (fun r => r.2 != 0)

/-- A bank's footprint (R405). -/
def State.footprint (s : State) (b : Nat) : List (Nat × Nat) := (s.models b).flatMap (fun m => s.modelRange b m.2)

/-- Whether bytes of the tree store belong to the active bank for the DMA check (R406). -/
def State.treeProtected (s : State) (a n : Nat) : Bool :=
  s.bank.mode == 1 ||
  ((s.footprint s.bank.active) ++ (if s.bank.mode = 2 then s.footprint (1 - s.bank.active) else [])).any
    (fun r => overlaps r.1 r.2 a n)

/-- Whether bytes of the tree store meet a word with an uncorrectable error. -/
def State.treeBad (s : State) (a n : Nat) : Bool := s.bank.bad.any (fun w => overlaps w 8 a n)

/-- Bytes written to the tree store: a bad word is cleared by a write of its whole 8 bytes, a part of one has no effect
(R205, R410). -/
def State.treeWrite (s : State) (a : Nat) (bs : List Byte) : State :=
  let whole := s.bank.bad.filter (fun w => decide (a ≤ w) && decide (w + 8 ≤ a + bs.length))
  let s := { s with bank := { s.bank with bad := s.bank.bad.filter (fun w => !whole.contains w) } }
  (upTo bs.length).foldl (fun s i =>
    if s.treeBad (a + i) 1 then s else { s with tree := s.tree.write (a + i) (byteAt bs i) }) s

end Sys2Proof.Machine
end

