-- ==== Sys2Proof/Machine/Dma.lean ====
section
/-! DEFINITION. Steward DMA (file 06): register sets, START, ARM, ABORT and requests, the checks of Table 6.6, bursts,
completion and the shadow hand-over. A channel is keyed 64 × tile + c; tile 2 is NT. -/

namespace Sys2Proof.Machine

/-! ### Register fields (Table 6.4) -/

namespace DmaMode
/-- Fields of DMA_CH_MODE. -/
def srcFixed (m : Word32) : Bool := m.getLsbD 0
def dstFixed (m : Word32) : Bool := m.getLsbD 1
def paced (m : Word32) : Bool := m.getLsbD 2
def sched (m : Word32) : Bool := m.getLsbD 3
def doneEn (m : Word32) : Bool := m.getLsbD 4
def irq (m : Word32) : Bool := m.getLsbD 5
def fence (m : Word32) : Nat := bits m.toNat 15 6
def fenceTile (m : Word32) : Nat := bits m.toNat 16 16
def irqCore (m : Word32) : Nat := bits m.toNat 31 24
end DmaMode

/-- OP and TAG of DMA_CH_OP. -/
def DmaSet.kind (d : DmaSet) : Nat := bits d.op.toNat 1 0
def DmaSet.tag (d : DmaSet) : Nat := bits d.op.toNat 31 20

/-- Region and offset of an address (R160). -/
def regionOf (a : Word64) : Nat := a.toNat / 2 ^ 56
def offsetOf (a : Word64) : Nat := a.toNat % 2 ^ 56

/-- BURST × 64. -/
def DmaSet.burstLen (d : DmaSet) : Nat := 64 * d.burst.toNat

/-- Bytes that a side's extent covers (R160). -/
def DmaSet.srcLen (d : DmaSet) : Nat := if DmaMode.srcFixed d.mode then d.burstLen else d.len.toNat
def DmaSet.dstLen (d : DmaSet) : Nat := if DmaMode.dstFixed d.mode then d.burstLen else d.len.toNat

/-- Bursts of the set (R165). -/
def DmaSet.bursts (d : DmaSet) : Nat := ceilDiv d.len.toNat (max 1 d.burstLen)

/-- Bytes of burst i. -/
def DmaSet.burstBytes (d : DmaSet) (i : Nat) : Nat := min d.burstLen (d.len.toNat - i * d.burstLen)

/-- Offset in its region of burst i on each side. -/
def DmaSet.srcAt (d : DmaSet) (i : Nat) : Nat := offsetOf d.src + (if DmaMode.srcFixed d.mode then 0 else i * d.burstLen)
def DmaSet.dstAt (d : DmaSet) (i : Nat) : Nat := offsetOf d.dst + (if DmaMode.dstFixed d.mode then 0 else i * d.burstLen)

/-- A register of a set written: a reserved encoding leaves its field as it was (R13, R160). -/
def DmaSet.write (d : DmaSet) (reg : Nat) (v : Word64) : DmaSet :=
  let n := v.toNat
  let addr := fun (old : Word64) => if 8 ≤ regionOf v then
    BitVec.ofNat 64 (regionOf old * 2 ^ 56 + offsetOf v) else v
  if reg = 0 then { d with src := addr d.src }
  else if reg = 1 then { d with dst := addr d.dst }
  else if reg = 2 then { d with len := BitVec.ofNat 40 n }
  else if reg = 3 then { d with mode := BitVec.ofNat 32 (bits n 16 0 + bits n 31 24 * 2 ^ 24) }
  else if reg = 4 then
    (let b := n % 128; if b = 0 || decide (64 < b) then d else { d with burst := BitVec.ofNat 7 b })
  else if reg = 5 then { d with reqSel := BitVec.ofNat 8 n }
  else if reg = 6 then
    (let k := if n % 4 = 3 then d.kind else n % 4
     { d with op := BitVec.ofNat 32 (k + bits n 31 20 * 2 ^ 20) })
  else { d with fill := v }

/-! ### Regions (Table 6.2) -/

/-- Bytes of a region. -/
def State.regionSize (s : State) (r : Nat) : Nat :=
  if r = 1 then scratchSize
  else if r = 2 then (if s.variant.tiles = 2 then scratchSize else 0)
  else if r = 3 then 2 ^ 26
  else if r = 4 then s.variant.t1Size
  else if r = 5 then 2 ^ 40
  else if r = 6 then 94371840
  else if r = 7 then (if s.variant.shot then 2 ^ 26 else 0)
  else 0

/-- Whether channels of a tile reach a region (Table 6.2). -/
def regionReached (tile r : Nat) : Bool :=
  r == 1 || r == 2 || r == 4 || r == 5 || (r == 3 && decide (tile < 2)) || ((r == 6 || r == 7) && tile == 2)

/-- Tier and address of an offset of a memory-tier region. -/
def tierAddr (r off : Nat) : Nat × Nat :=
  if r = 1 then (0, off) else if r = 2 then (0, scratchSize + off) else if r = 4 then (1, off) else (2, off)

/-- Bytes of a region. No channel reads the tree store (R394). -/
def State.regionRead (s : State) (r off n : Nat) : List Byte :=
  if r = 3 then s.lmem.readN off n
  else if r = 6 then s.pkt.readN off n
  else if r = 7 then List.replicate n 0#8
  else s.memRead (tierAddr r off).1 (tierAddr r off).2 n

/-- Bytes written to a region. -/
def State.regionWrite (s : State) (r off : Nat) (b : List Byte) : State :=
  if r = 3 then s.lmWrite off b
  else if r = 6 then { s with pkt := s.pkt.writeN off b }
  else if r = 7 then s.treeWrite off b
  else
    let t := tierAddr r off
    let s := s.memWrite t.1 t.2 b
    if t.1 = 2 then s.dropLines t.2 b.length else s

/-- What the error correction of a read of a region reports is taken in. -/
def State.regionEcc (s : State) (r : Nat) (e : Ecc) : State :=
  if r = 3 || r = 6 || r = 7 then s
  else s.noteEcc (tierAddr r 0).1 { e with ue := e.ue.map (fun a => (tierAddr r a).2) } false

/-- Whether a read of [off, off+n) of a region meets an uncorrectable error. -/
def State.regionBad (s : State) (r off n : Nat) (e : Ecc) : Bool :=
  if r = 3 || r = 6 then (r == 3 && s.lmPoisoned off n) || e.ue.any (fun a => overlaps a 1 off n)
  else if r = 7 then false
  else s.poisoned (tierAddr r off).1 (tierAddr r off).2 n

/-! ### The checks (Table 6.6) -/

/-- The failing cause of ST_BAD_ADDRESS on one side, which the set writes or not: 0 none, 1 plain, 2 outside the partition's
range, 3 not admitted under R524. Admission comes before size and protection, and an extent beyond a tier's region lies outside
the partition's range too. TREE is written only (R394). DEDUCED (log entry 94). -/
def State.sideCheck (s : State) (tile part owner : Nat) (wr : Bool) (a : Word64) (n : Nat) : Nat :=
  let r := regionOf a
  let off := offsetOf a
  let beyond := decide (s.regionSize r < off + n)
  if r = 6 then (if tile = 2 ∧ owner = 4 then b2n beyond else 3)
  else if r = 7 then
    if tile ≠ 2 ∨ (owner ≠ 4 ∧ part ≠ s.dnum 0x500001) then 3
    else b2n (!wr || beyond || s.treeProtected off n)
  else if r = 0 || !regionReached tile r then 1
  else if r = 3 then
    let k := off / 2 ^ 18
    b2n (beyond || decide (k / 128 ≠ tile) || decide (2 ^ 18 < off % 2 ^ 18 + n) || !s.coreOk k || s.coreOwner k != some part)
  else
    let t := tierAddr r off
    if s.regionSize r = 0 then 1 else if beyond || !s.inPart part t.1 t.2 n then 2 else 0

/-- Whether DONE_FENCE lies outside the partition's fences. -/
def State.fenceBad (s : State) (part : Nat) (d : DmaSet) : Bool :=
  DmaMode.doneEn d.mode && !inRange (s.ptRange part 12) (DmaMode.fence d.mode)

/-- The code of Table 6.6, whether the fence is the cause, so that it gets no increment, and the violations (reason, address). A
fence outside the range is a cause beside another one of ST_BAD_ADDRESS too. DEDUCED (log entry 177). -/
def State.dmaCheck (s : State) (tile part owner : Nat) (d : DmaSet) : Nat × Bool × List (Nat × Nat) :=
  let fill := d.kind == 1
  let len := d.len.toNat
  let shape := decide (len = 0) || (decide (len % max 1 d.burstLen ≠ 0) &&
    (DmaMode.dstFixed d.mode || (DmaMode.srcFixed d.mode && !fill)))
  let cs := if fill then 0 else s.sideCheck tile part owner false d.src d.srcLen
  let cd := s.sideCheck tile part owner (d.kind != 2) d.dst d.dstLen
  let viol := fun (c : Nat) (a : Word64) (n : Nat) =>
    if c = 2 then [(s.rangeReason part (tierAddr (regionOf a) (offsetOf a)).1 (tierAddr (regionOf a) (offsetOf a)).2 n, a.toNat)]
    else if c = 3 then [(1, a.toNat)] else []
  if shape then (1, false, [])
  else if cs ≠ 0 ∨ cd ≠ 0 then (2, s.fenceBad part d, (viol cs d.src d.srcLen ++ viol cd d.dst d.dstLen).take 1)
  else if s.fenceBad part d then (2, true, [])
  else if d.kind = 0 && regionOf d.src == regionOf d.dst &&
      overlaps (offsetOf d.src) d.srcLen (offsetOf d.dst) d.dstLen then (3, false, [])
  else (0, false, [])

/-! ### Completion and hand-over (R168, R169, R175) -/

/-- The result registers at a completion: a COMPARE's count and first difference (R166), and the poisoned burst's offset at an
ST_POISON completion (R170). -/
def Chan.results (c : Chan) (code : Nat) : Chan :=
  let c := if c.act.kind = 2 then
      { c with count := BitVec.ofNat 64 c.mism, first := (c.mismFirst.map (BitVec.ofNat 64)).getD (BitVec.allOnes 64),
               mismatch := c.mismatch || decide (0 < c.mism) }
    else c
  if code = 4 then { c with first := (c.badAt.map (BitVec.ofNat 64)).getD c.first } else c

/-- The completion word (R168). -/
def Chan.doneWord (c : Chan) (ch code : Nat) : Nat :=
  ch % 64 + 256 * code + 4096 * b2n (c.act.kind == 2 && decide (0 < c.mism)) + 2 ^ 20 * c.act.tag

/-- The completion word of channel `ch` posted (R168): to IRQ_CORE of the channel's own tile and partition, else dropped; on NT to
the programming host's queue or to the MC. -/
def State.dmaPost (s : State) (ch : Nat) (c : Chan) (code : Nat) : State :=
  let word := c.doneWord ch code
  if ch / 64 < 2 then
    let k := DmaMode.irqCore c.act.mode
    if k / 128 = ch / 64 && s.coreOk k && (s.chanOwner ch).isSome && s.coreOwner k == s.chanOwner ch then s.mbxPost k 3 (ch % 64) word
    else s.count cDmaIrqDrop ch 1
  else if c.owner = 4 then s.emit (.mcPost word) else s.hcqPost c.owner 0 word 1 (ch % 64)

/-- What a completed set does but for the hand-over (R168). -/
def State.dmaFinish (s : State) (ch code : Nat) : State :=
  let c := s.chan ch
  let tile := ch / 64
  let s := s.setChan ch { c.results code with code := code, outst := [], stop := 0 }
  let s := if DmaMode.doneEn c.act.mode && !c.fenceBad then
    s.fenceAdd (if tile = 2 then DmaMode.fenceTile c.act.mode else tile) (DmaMode.fence c.act.mode) 1 else s
  let s := if DmaMode.irq c.act.mode then s.dmaPost ch c code else s
  s.count cDmaDone ch 1

/-- A set is loaded and checked (R167): its code, 0 when it runs. -/
def State.dmaLoad (s : State) (ch : Nat) : State × Nat :=
  let part := (s.chanOwner ch).getD 0
  let c := s.chan ch
  let r := s.dmaCheck (ch / 64) part c.owner c.act
  let c := { c with mode := .running, progress := 0#64, next := 0, outst := [], stop := 0, badAt := none,
                    fenceBad := r.2.1, mism := 0, mismFirst := none }
  let s := r.2.2.foldl (fun s v => s.violate part 6 v.1 v.2) (s.setChan ch c)
  (s, r.1)

/-- The channel without a set: IDLE. -/
def State.dmaIdle (s : State) (ch : Nat) : State := s.setChan ch { s.chan ch with mode := .idle }

/-- The hand-over (R175): the shadow becomes active, is checked and runs; a set that fails completes at once. -/
def State.dmaHandover (s : State) (ch : Nat) : State :=
  let c := s.chan ch
  let s := (s.setChan ch { c with act := c.shw, owner := c.armOwner, armed := false, crossed := true, seen := [] }).count cDmaHandover ch 1
  let r := s.dmaLoad ch
  if r.2 = 0 then r.1 else ((r.1.count cDmaErr ch 1).dmaFinish ch r.2).dmaIdle ch

/-- A set completes with a code and hands over an armed shadow, or the channel is IDLE (R168, R169): one edge, and one pulse of
the channel's line for it, also where the set handed over completes on it. A shadow armed after an ABORT stays armed past
ST_ABORTED. DEDUCED (log entry 177). -/
def State.dmaComplete (s : State) (ch code : Nat) : State :=
  let s := s.dmaFinish ch code
  let s := if (s.chan ch).armed && code != 5 then s.dmaHandover ch else s.dmaIdle ch
  s.pulseLine (ch / 64) (64 + ch % 64)

/-- The edge after a command (R175): an IDLE channel with an armed shadow hands over. A set that fails there completes on that
edge. DESIGN CHOICE (log entry 93). -/
def State.dmaNextEdge (s : State) (ch : Nat) : State :=
  let c := s.chan ch
  if c.armed && c.mode == .idle then
    let s := s.dmaHandover ch
    if (s.chan ch).mode == .idle then s.pulseLine (ch / 64) (64 + ch % 64) else s
  else s

/-- A tick edge: no channel's last edge is the present one any more. -/
def State.chansMoveOn (s : State) : State :=
  s.chans.keys.foldl (fun s ch => s.setChan ch { s.chan ch with crossed := false, reqd := false }) s

/-! ### The commands -/

/-- The key of channel c of a tile. -/
def chanKey (tile : BitVec 2) (c : BitVec 6) : Nat := 64 * tile.toNat + c.toNat

/-- The core address of register `off` of a CT channel, or its BAR2 offset less CT0's window for an NT channel (Table 15.6). -/
def chanAddr (ch off : Nat) : Nat := (if ch / 64 = 2 then 0x5000000 else dmaBase) + 0x100 * (ch % 64) + off

/-- Whether a requester's access to a channel block is admitted (R159, R163, R423): a core reaches its own tile's channels. -/
def State.admitChan (s : State) (r : Requester) (ch off : Nat) : State × Bool :=
  match r with
  | .core _ => s.grantAccess r (ch / 64) (s.chanOk ch) (s.chanOwner ch) (chanAddr ch off)
  | .mc => (s, s.chanOk ch && ch / 64 == 2 && s.power == .on)
  | .host _ => s.grantAccess r (if ch / 64 = 2 then 0 else ch / 64) (s.chanOk ch) (s.chanOwner ch) (chanAddr ch off)

/-- Who programs a channel: a host's partition, 4 the MC, 5 a core. -/
def progCode : Requester → Nat
  | .host p => p.toNat
  | .mc => 4
  | .core _ => 5

/-- A write to the active set (R164): ignored with ACTIVE_BUSY unless the channel is IDLE. -/
def State.dmaActive (s : State) (ch reg : Nat) (v : Word64) : State :=
  let c := s.chan ch
  if c.mode == .idle then s.setChan ch { c with act := c.act.write reg v }
  else s.setChan ch { c with activeBusy := true }

/-- A write meets the hand-over edge (Table 6.8): LATE_WRITE. -/
def State.dmaLate (s : State) (ch : Nat) : State :=
  (s.setChan ch { s.chan ch with lateWrite := true }).count cDmaLateWrite ch 1

/-- A write meets SHADOW_ARMED = 1 (Table 6.8): SHADOW_BUSY. -/
def State.dmaBusy (s : State) (ch : Nat) : State :=
  (s.setChan ch { s.chan ch with shadowBusy := true }).count cDmaShadowBusy ch 1

/-- Whether an access of a requester meets the channel's hand-over edge: it falls on the channel's last edge, which was one, and
the requester has not read SHADOW_ARMED = 0 since (R177). -/
def Chan.meets (c : Chan) (r : Requester) (sameEdge : Bool) : Bool := sameEdge && c.crossed && !c.seen.contains (reqCode r)

/-- A requester reads STATUS: one that reads SHADOW_ARMED = 0 is past the hand-over edge (R177). -/
def State.statusSeen (s : State) (r : Requester) (ch : Nat) : State :=
  let c := s.chan ch
  if c.armed || !c.crossed || c.seen.contains (reqCode r) then s else s.setChan ch { c with seen := c.seen ++ [reqCode r] }

/-- A write to the shadow set (R164, Table 6.8); `sameEdge` where it falls on the channel's last edge. -/
def State.dmaShadow (s : State) (ch reg : Nat) (v : Word64) (r : Requester) (sameEdge : Bool) : State :=
  let c := s.chan ch
  if c.armed then s.dmaBusy ch
  else
    let s := s.setChan ch { c with shw := c.shw.write reg v }
    if c.meets r sameEdge then s.dmaLate ch else s

/-- START (R167). One for a channel that no partition owns is ignored and not counted: DEDUCED (log entry 193). -/
def State.dmaStart (s : State) (ch owner : Nat) : State :=
  let c := s.chan ch
  if (s.chanOwner ch).isNone then s
  else if c.mode != .idle then s.count cDmaStartBusy ch 1
  else
    let r := (s.setChan ch { c with pend := 0, owner := owner }).dmaLoad ch
    if r.2 = 0 then r.1 else (r.1.count cDmaErr ch 1).dmaComplete ch r.2

/-- ARM (R175, Table 6.8): SHADOW_ARMED is set; the hand-over of an IDLE channel is on the next edge. -/
def State.dmaArm (s : State) (ch : Nat) (r : Requester) (sameEdge : Bool) : State :=
  let c := s.chan ch
  if (s.chanOwner ch).isNone then s
  else if c.armed then s.dmaBusy ch
  else if c.meets r sameEdge then s.dmaLate ch
  else s.setChan ch { c with armed := true, armOwner := progCode r }

/-- ABORT (R171). The first cause that stops a set, ABORT or an uncorrectable error (R170), decides its code. DEDUCED (log entry
177). -/
def State.dmaAbort (s : State) (ch : Nat) : State :=
  let c := s.chan ch
  if c.mode == .idle then s
  else s.setChan ch { c with armed := false, stop := if c.stop = 0 then 5 else c.stop }

/-- The offset of register `i` in its set (Table 6.3). -/
def dmaRegOff (i : Nat) : Nat := [0, 8, 0x10, 0x18, 0x1C, 0x20, 0x24, 0x28].getD i 0

/-- DMA_ACTIVE_WRITE (R164). -/
def dmaActiveWrite (o : DmaWriteOp) (s : State) : State :=
  let ch := chanKey o.tile o.c
  let a := s.admitChan o.req ch (dmaRegOff o.reg.toNat)
  if a.2 then a.1.dmaActive ch o.reg.toNat o.value else a.1

/-- DMA_SHADOW_WRITE (R164, Table 6.8). -/
def dmaShadowWrite (o : DmaWriteOp) (s : State) : State :=
  let ch := chanKey o.tile o.c
  let a := s.admitChan o.req ch (0x40 + dmaRegOff o.reg.toNat)
  if a.2 then a.1.dmaShadow ch o.reg.toNat o.value o.req o.sameEdge else a.1

/-- A CTRL action by a requester, and the edge after it. -/
def State.dmaCtrl (s : State) (o : DmaCtrlOp) (f : State → Nat → State) : State :=
  let ch := chanKey o.tile o.c
  let a := s.admitChan o.req ch 0x80
  if a.2 then (f a.1 ch).dmaNextEdge ch else a.1

/-- DMA_START (R167). -/
def dmaStartCmd (o : DmaCtrlOp) (s : State) : State := s.dmaCtrl o (fun s ch => s.dmaStart ch (progCode o.req))

/-- DMA_ARM (R175). -/
def dmaArmCmd (o : DmaCtrlOp) (s : State) : State := s.dmaCtrl o (fun s ch => s.dmaArm ch o.req o.sameEdge)

/-- DMA_ABORT (R171). -/
def dmaAbortCmd (o : DmaCtrlOp) (s : State) : State := s.dmaCtrl o State.dmaAbort

/-- DMA_REQ (R172). -/
def dmaReqCmd (o : DmaCtrlOp) (s : State) : State := s.dmaCtrl o (fun s ch => s.dmaRequest ch o.sameEdge)

/-- The issue latency L of a region (Table 6.2). -/
def issueLatency (tile r : Nat) : Nat :=
  if tile = 2 then (if r = 1 || r = 2 then 640 else if r = 4 then 1100 else if r = 5 then 1500 else 40)
  else if r = 1 || r = 2 then (if r = tile + 1 then 48 else 160)
  else if r = 3 then 16 else if r = 4 then 900 else 1500

/-- W of R173 for burst i. -/
def DmaSet.cost (d : DmaSet) (tile i : Nat) : Nat :=
  ceilDiv (d.burstBytes i) (if tile = 2 then 64 else 128) +
    (if d.kind = 1 then 0 else issueLatency tile (regionOf d.src)) + issueLatency tile (regionOf d.dst)

/-- The first edge of the channel's clock at or after the start of the tick's guard (R73, R173): TICK_GUARD REFCLK before the
tick's end, with 10 NCLK to a REFCLK on NT, and MHz × 64 / 10,000 ACLK on a CT, counted from the tick edge. DEDUCED (log entry
178). -/
def State.guardEdge (s : State) (tile : Nat) : Nat :=
  let lead := s.clk.len - s.dnum 0x600003
  if tile = 2 then 10 * lead else ceilDiv (lead * (Tab.get ({} : CtClk) s.health.clk tile).mhz * 64) 10000

/-- Whether the channel has a burst to issue at clock edge `a` (R158, R172, R174): a held one waits for a tick's first edge. -/
def Chan.mayIssue (c : Chan) (a : Nat) : Bool :=
  c.mode != .idle && c.stop == 0 && decide (c.next < c.act.bursts) && decide (c.outst.length < 16) &&
    !(DmaMode.paced c.act.mode && c.pend == 0) && !(c.mode == .held && a != 0)

/-- DMA_BURST_ISSUE (R158, R172 to R174). -/
def dmaBurstIssue (o : DmaIssueOp) (s : State) : State :=
  let ch := chanKey o.tile o.c
  let c := s.chan ch
  if !c.mayIssue o.a then s
  else if DmaMode.sched c.act.mode && decide (s.guardEdge (ch / 64) < o.a + c.act.cost (ch / 64) c.next) then
    (s.setChan ch { c with mode := .held, crossed := false, reqd := false }).count cSchedBurstHeld 0 1
  else s.setChan ch { c with mode := .running, next := c.next + 1, outst := c.outst ++ [c.next], crossed := false, reqd := false,
                             pend := if DmaMode.paced c.act.mode then c.pend - 1 else c.pend }

/-- A burst moves its bytes (R166): COPY, FILL, or COMPARE's tally. -/
def State.dmaMove (s : State) (ch i : Nat) : State :=
  let c := s.chan ch
  let d := c.act
  let n := d.burstBytes i
  let dst := d.dstAt i
  if d.kind = 0 then s.regionWrite (regionOf d.dst) dst (s.regionRead (regionOf d.src) (d.srcAt i) n)
  else if d.kind = 1 then
    s.regionWrite (regionOf d.dst) dst ((upTo n).map (fun j => BitVec.ofNat 8 (d.fill.toNat / 256 ^ ((dst + j) % 8))))
  else
    let a := s.regionRead (regionOf d.src) (d.srcAt i) n
    let b := s.regionRead (regionOf d.dst) dst n
    let diff := (upTo n).filter (fun j => byteAt a j != byteAt b j)
    let f := match c.mismFirst, diff with
      | some x, _ => some x
      | none, j :: _ => some (i * d.burstLen + j)
      | none, [] => none
    s.setChan ch { c with mism := c.mism + diff.length, mismFirst := f }

/-- Whether a read of a region waits for a repair (R206). -/
def State.regionWait (s : State) (r off n : Nat) : Bool :=
  (r == 4 || r == 5) && s.mustWait (tierAddr r off).1 off n

/-- What error correction reports on the reads of a burst is taken in: of the source, and of a COMPARE's other side. -/
def State.burstEcc (s : State) (d : DmaSet) (src dst : Ecc) : State :=
  let s := if d.kind = 1 then s else s.regionEcc (regionOf d.src) src
  if d.kind = 2 then s.regionEcc (regionOf d.dst) dst else s

/-- The side of burst i whose read waits for a repair (R206): its tier and address. -/
def State.burstWait (s : State) (d : DmaSet) (i : Nat) : Option (Nat × Nat) :=
  let n := d.burstBytes i
  if d.kind != 1 && s.regionWait (regionOf d.src) (d.srcAt i) n then some ((tierAddr (regionOf d.src) 0).1, d.srcAt i)
  else if d.kind == 2 && s.regionWait (regionOf d.dst) (d.dstAt i) n then some ((tierAddr (regionOf d.dst) 0).1, d.dstAt i)
  else none

/-- Whether a read of burst i meets an uncorrectable error (R170). -/
def State.burstBad (s : State) (d : DmaSet) (i : Nat) (src dst : Ecc) : Bool :=
  let n := d.burstBytes i
  (d.kind != 1 && s.regionBad (regionOf d.src) (d.srcAt i) n src) ||
    (d.kind == 2 && s.regionBad (regionOf d.dst) (d.dstAt i) n dst)

/-- Burst i, the oldest outstanding one, ends in an uncorrectable error (R170): it writes nothing and the set stops. -/
def Chan.poisonStop (c : Chan) (i : Nat) (rest : List Nat) : Chan :=
  { c with outst := rest, stop := if c.stop = 0 then 4 else c.stop,
           badAt := match c.badAt with | some x => some x | none => some (i * c.act.burstLen) }

/-- Burst i completes: its bytes move, PROGRESS and the counters advance, and its line pulses (R165, R166, Table 6.7). -/
def State.burstDone (s : State) (ch i : Nat) (rest : List Nat) : State :=
  let n := (s.chan ch).act.burstBytes i
  let s := (s.setChan ch { s.chan ch with outst := rest }).dmaMove ch i
  let s := s.setChan ch { s.chan ch with progress := (s.chan ch).progress + BitVec.ofNat 64 n }
  ((s.count cDmaBurst ch 1).count cDmaBytes ch n).pulseLine (ch / 64) (ch % 64)

/-- DMA_BURST_COMPLETE (R165, R166, R170): the channel's oldest outstanding burst. -/
def dmaBurstComplete (o : DmaBurstOp) (s : State) : State :=
  let ch := chanKey o.tile o.c
  let d := (s.chan ch).act
  match (s.chan ch).outst with
  | [] => s
  | i :: r =>
    let s := s.burstEcc d o.src o.dst
    match s.burstWait d i with
    | some t => s.noteWait t.1 t.2 (d.burstBytes i)
    | none =>
      if s.burstBad d i o.src o.dst then s.setChan ch ((s.chan ch).poisonStop i r) else s.burstDone ch i r

/-- DMA_SET_COMPLETE (R168 to R171): once no burst is outstanding and every burst is done or the set has stopped. -/
def dmaSetComplete (o : DmaSetOp) (s : State) : State :=
  let ch := chanKey o.tile o.c
  let c := s.chan ch
  if c.mode == .idle || !c.outst.isEmpty || (decide (c.stop = 0) && decide (c.next < c.act.bursts)) then s
  else
    let s := if c.stop = 4 then s.count cDmaPoison ch 1 else if c.stop = 5 then s.count cDmaAbort ch 1 else s
    s.dmaComplete ch c.stop

def execDmaActiveWrite (o : DmaWriteOp) (s : State) : Host.Outcome State Fault Refusal := .next (dmaActiveWrite o s)
def execDmaShadowWrite (o : DmaWriteOp) (s : State) : Host.Outcome State Fault Refusal := .next (dmaShadowWrite o s)
def execDmaStart (o : DmaCtrlOp) (s : State) : Host.Outcome State Fault Refusal := .next (dmaStartCmd o s)
def execDmaArm (o : DmaCtrlOp) (s : State) : Host.Outcome State Fault Refusal := .next (dmaArmCmd o s)
def execDmaAbort (o : DmaCtrlOp) (s : State) : Host.Outcome State Fault Refusal := .next (dmaAbortCmd o s)
def execDmaReq (o : DmaCtrlOp) (s : State) : Host.Outcome State Fault Refusal := .next (dmaReqCmd o s)
def execDmaBurstIssue (o : DmaIssueOp) (s : State) : Host.Outcome State Fault Refusal := .next (dmaBurstIssue o s)
def execDmaBurstComplete (o : DmaBurstOp) (s : State) : Host.Outcome State Fault Refusal := .next (dmaBurstComplete o s)
def execDmaSetComplete (o : DmaSetOp) (s : State) : Host.Outcome State Fault Refusal := .next (dmaSetComplete o s)

end Sys2Proof.Machine
end

