-- ==== Sys2Proof/Machine/Eu.lean ====
section
/-! DEFINITION. Embedding units (file 08): queues and checks (R219 to R221), GATHER and pooling (R222 to R224), SCATTER_ADD
and the exchange (R225 to R229), the optimizers (R230), staging and mirrors (R231 to R233), PREFETCH (R235). -/

namespace Sys2Proof.Machine

/-! ### Commands (R220, Table 8.5) -/

/-- The fields of an EU command; scratch addresses and strides in bytes. -/
structure EuCmd where
  op     : Nat
  irq    : Bool
  waitEn : Bool
  doneEn : Bool
  waitF  : Nat
  doneF  : Nat
  tag    : Nat
  table  : Nat
  pool   : Nat
  outFmt : Nat
  bps    : Nat
  nbags  : Nat
  ldo    : Nat
  ids    : Nat
  offs   : Nat
  last   : Bool
  maskEn : Bool
  auxEn  : Bool
  wts    : Nat
  out    : Nat
  mask   : Nat
  aux    : Nat
  lr     : Nat
  waitV  : Nat
  deriving DecidableEq, Repr

/-- The fields of a 64-byte command. -/
def euCmd (d : Vec) : EuCmd :=
  let n := d.toNat
  let f := fun w hi lo => bits n (64 * w + hi) (64 * w + lo)
  let b := fun w i => bit n (64 * w + i)
  { op := f 0 3 0, irq := b 0 25, waitEn := b 0 28, doneEn := b 0 29, waitF := f 0 41 32, doneF := f 0 51 42,
    tag := f 0 63 52, table := f 1 11 0, pool := f 1 13 12, outFmt := f 1 15 14, bps := f 1 23 16, nbags := f 1 47 24,
    ldo := 64 * f 1 63 48, ids := 64 * f 2 23 0, offs := 64 * f 2 47 24, last := b 2 48, maskEn := b 2 49,
    auxEn := b 2 50, wts := 64 * f 3 23 0, out := 64 * f 3 47 24, mask := 64 * f 4 23 0, aux := 64 * f 4 47 24,
    lr := f 5 31 0, waitV := f 7 31 0 }

/-- EU n. -/
def State.eu (s : State) (n : Nat) : Eu := Tab.get {} s.eus n

/-- The state with an EU replaced. -/
def State.setEu (s : State) (n : Nat) (e : Eu) : State := { s with eus := Tab.put {} s.eus n e }

/-- The EU's view of its tile's scratch. -/
def State.euRead (s : State) (n a k : Nat) : List Byte := s.t0.readN (n / 8 * scratchSize + a) k

/-- Offset b of the bag array. -/
def State.euOffs (s : State) (n : Nat) (c : EuCmd) (b : Nat) : Nat := leNat (s.euRead n (c.offs + 4 * b) 4)

/-- ID i of the list. -/
def State.euId (s : State) (n : Nat) (c : EuCmd) (i : Nat) : Nat := leNat (s.euRead n (c.ids + 8 * i) 8)

/-- Lookups of the command: all IDs of its bags, or the ID count of a PREFETCH. -/
def State.euIds (s : State) (n : Nat) (c : EuCmd) : Nat := if c.op = 3 then c.nbags else s.euOffs n c c.nbags

/-- A row of the pooled output or of the gradient. -/
def EuCmd.rowLen (c : EuCmd) (t : TblDesc) : Nat := if c.op = 2 || c.outFmt = 0 then 4 * t.dim else 2 * t.dim

/-- The scratch arrays of a command, but OFFS, as (address, bytes). -/
def State.euArrays (s : State) (n : Nat) (c : EuCmd) (t : TblDesc) : List (Nat × Nat) :=
  let ids := s.euIds n c
  if c.op = 3 then [(c.ids, 8 * ids)]
  else
    [(c.ids, 8 * ids), (c.out, (c.nbags - 1) * c.ldo + c.rowLen t)] ++
    (if c.pool = 3 then [(c.wts, 4 * ids)] else []) ++
    (if c.maskEn then [(c.mask, ceilDiv c.nbags c.bps)] else []) ++
    (if c.pool = 2 && c.auxEn then [(c.aux, c.nbags * 2 * t.dim)] else [])

/-- The scratch arrays that a command reads, but OFFS: GATHER writes its output, mask and positions, and reads none of them. -/
def State.euReads (s : State) (n : Nat) (c : EuCmd) (t : TblDesc) : List (Nat × Nat) :=
  let ids := s.euIds n c
  [(c.ids, 8 * ids)] ++ (if c.op != 3 && c.pool == 3 then [(c.wts, 4 * ids)] else []) ++
    (if c.op = 2 then [(c.out, (c.nbags - 1) * c.ldo + c.rowLen t)] ++
      (if c.maskEn then [(c.mask, ceilDiv c.nbags c.bps)] else []) ++
      (if c.pool = 2 then [(c.aux, c.nbags * 2 * t.dim)] else []) else [])

/-- Whether an array fails the address check: 1 beyond the tile's scratch, 2 outside the partition's range. -/
def State.arrayBad (s : State) (n part : Nat) (r : Nat × Nat) : Nat :=
  if r.2 = 0 then 0
  else if scratchSize < r.1 + r.2 then 1
  else if covers (s.ptScratch part (n / 8)) r.1 r.2 then 0 else 2

/-- Whether Gate 1 has decided PROCEED in the current step (Table 8.6, code 8). -/
def State.pastGate1 (s : State) : Bool := decide (6 ≤ s.sched.state) && decide (s.sched.state ≤ 11)

/-- What a table holds in the step. -/
def State.step_ (s : State) (part table : Nat) : TblStep := Tab.get {} s.emb.steps (4096 * part + table)

/-- The state with a table's step contents replaced. -/
def State.setStep (s : State) (part table : Nat) (x : TblStep) : State :=
  { s with emb := { s.emb with steps := Tab.put {} s.emb.steps (4096 * part + table) x } }

/-- The completion code of the checks (Table 8.6), and an array outside the partition's range. -/
def State.euCheck (s : State) (n part : Nat) (c : EuCmd) : Nat × Option Nat :=
  if c.op = 0 || decide (5 < c.op) then (1, none)
  else if c.op = 5 then (0, none)
  else match s.tbl part c.table with
    | none => (2, none)
    | some t =>
      if c.op = 4 then (0, none)
      else
        let pooled := c.op != 3
        let plain := c.nbags == 0 || (pooled && c.bps == 0) || (c.op == 1 && c.outFmt == 3) ||
          (pooled && decide (c.ldo < c.rowLen t)) || (c.op == 2 && c.pool == 2 && !c.auxEn)
        let offs := (c.offs, 4 * (c.nbags + 1))
        let ob := if pooled then s.arrayBad n part offs else 0
        if plain then (3, none)
        else if ob ≠ 0 then (4, if ob = 2 then some c.offs else none)
        else if pooled && s.poisoned 0 (n / 8 * scratchSize + c.offs) offs.2 then (5, none)
        else
          let os := (upTo (c.nbags + 1)).map (s.euOffs n c)
          let falls := (upTo c.nbags).any (fun b => decide (s.euOffs n c (b + 1) < s.euOffs n c b))
          if pooled && (os.headD 0 != 0 || falls || decide (16777216 < os.getLastD 0)) then (3, none)
          else match (s.euArrays n c t).find? (fun r => s.arrayBad n part r != 0) with
            | some r => (4, if s.arrayBad n part r = 2 then some r.1 else none)
            | none =>
              if (s.euReads n c t).any (fun r => s.poisoned 0 (n / 8 * scratchSize + r.1) r.2) then (5, none)
              else if c.op == 2 && (s.pastGate1 || (s.step_ part c.table).last) then (8, none)
              else (0, none)

/-! ### FP32 arithmetic of an EU (R59, R64, R67) -/

def f32Add (a b : Nat) : Nat := (fAdd .canonical .fp32 .rne a b).bits
def f32Sub (a b : Nat) : Nat := (fSub .canonical .fp32 .rne a b).bits
def f32Mul (a b : Nat) : Nat := (fMul .canonical .fp32 .rne a b).bits
def f32Div (a b : Nat) : Nat := (fDiv .canonical .fp32 .rne a b).bits
def f32Sqrt (a : Nat) : Nat := (fSqrt .canonical .fp32 .rne a).bits
def f32Fma (a b c : Nat) : Nat := (fFma .canonical .fp32 .rne a b c).bits
def f32One : Nat := 0x3F800000
def f32Nan (a : Nat) : Bool := (unpack .fp32 a).isNan

/-- An integer as FP32. -/
def f32OfNat (k : Nat) : Nat := if k = 0 then 0 else (finish .fp32 .rne false k 0).bits

/-! ### Completion (R221) -/

/-- A failing command is recorded in EU_ERR. -/
def Eu.record (e : Eu) (code tag : Nat) : Eu :=
  if e.errValid then { e with errMore := true } else { e with errValid := true, errCode := code, errTag := tag }

/-- A command completes (R221). -/
def State.euFinish (s : State) (n : Nat) (q : Queued) (code : Nat) : State :=
  let c := euCmd q.word
  let tile := n / 8
  let s := s.count cEuCmdDone n 1
  let s := if c.doneEn && !((s.fenceOwner c.doneF).any (fun p => p != s.byPart q.by_)) then s.fenceAdd tile c.doneF 1 else s
  let s := if c.irq && decide (q.by_ < 256) then s.mbxPost q.by_ 2 n (n + 256 * code + 2 ^ 20 * c.tag) else s
  s.pulseLine tile (129 + n % 8)

/-- A command that has run completes with its code: a failing one is recorded (Table 8.4). -/
def State.euEnd (s : State) (n : Nat) (q : Queued) (code : Nat) : State :=
  let e := { s.eu n with run := none }
  (s.setEu n (if code = 0 then e else e.record code (euCmd q.word).tag)).euFinish n q code

/-- The head fails its check. -/
def State.euFail (s : State) (n : Nat) (q : Queued) (rest : List Queued) (code : Nat) (viol : Option Nat) : State :=
  let e := s.eu n
  let part := s.byPart q.by_
  let s := (s.setEu n ({ e with queue := rest }.record code (euCmd q.word).tag)).count cEuCmdErr n 1
  let s := match viol with
    | some a => s.violate part 6 (s.rangeReason part 0 (n / 8 * scratchSize + a) 1) a
    | none => s
  s.euFinish n q code

/-- Whether the head's fence is satisfied. -/
def State.euReady (s : State) (n : Nat) (c : EuCmd) : Bool :=
  !c.waitEn || fenceSat (s.fenceVal (n / 8) c.waitF) c.waitV

/-- Whether an APPLY's reduce deadline has come in this step (R229). -/
def State.applyDue (s : State) : Bool := decide (7 ≤ s.sched.state) && decide (s.sched.state ≤ 10)

/-- Whether the head waits: on its fence, or on the reduce deadline (Table 8.4). -/
def State.euWaiting (s : State) (n : Nat) : Bool :=
  let e := s.eu n
  match e.run, e.queue with
  | none, q :: _ => !s.euReady n (euCmd q.word) || ((euCmd q.word).op == 4 && !s.applyDue)
  | _, _ => false

/-! ### GATHER (R222 to R224) -/

/-- The key of an ID's row. -/
def rowKeyOf (part table : Nat) (t : TblDesc) (id : Nat) : RowKey :=
  let p := t.locate id
  ⟨part, table, p.1, p.2⟩

/-- Whether a row is served here (R214, R222). -/
def State.servedHere (s : State) (t : TblDesc) (shard : Nat) : Bool :=
  t.repl || s.serves (t.shardRank shard) == s.rank

/-- The elements of a row, here or as a remote module answered. -/
def State.gatherRow (s : State) (t : TblDesc) (run : EuRun) (k : RowKey) : Option (List Nat) :=
  if s.servedHere t k.shard then
    (match s.rowHome k.part t k.shard k.slot with
    | some h => (s.rowValue t k h).map (rowElems t)
    | none => none)
  else match run.got.find? (fun g => g.1 == k) with
    | some g => g.2.map (rowElems t)
    | none => none

/-- MAX of two elements with the position of each: NaN wins, equal values keep the earlier (R223). -/
def maxPick (a b : Nat × Nat) : Nat × Nat :=
  if f32Nan a.1 then a else if f32Nan b.1 then b else if fLt .fp32 a.1 b.1 then b else a

/-- One element of a pooled bag, with its position for MAX: `col` is the bag's column, `ws` its weights (R223). -/
def poolElem (pool : Nat) (col ws : List Nat) : Nat × Nat :=
  if pool = 2 then
    (match col.zipIdx with
    | [] => (0, 0xFFFF)
    | a :: r => r.foldl maxPick a)
  else if pool = 3 then ((col.zip ws).foldl (fun acc x => f32Fma x.1 x.2 acc) 0, 0)
  else
    let s := col.foldl f32Add 0
    (if pool = 1 && !col.isEmpty then f32Div s (f32OfNat col.length) else s, 0)

/-- A bag's output: its elements in OUT_FMT and its positions; none when a row is unavailable. -/
def State.gatherBag (s : State) (n part : Nat) (c : EuCmd) (t : TblDesc) (run : EuRun) (b : Nat) :
    Option (List (Nat × Nat)) :=
  let lo := s.euOffs n c b
  let hi := s.euOffs n c (b + 1)
  let is_ := (upTo (hi - lo)).map (lo + ·)
  let rows := is_.map (fun i => s.gatherRow t run (rowKeyOf part c.table t (s.euId n c i)))
  if rows.any Option.isNone then none
  else
    let ws := is_.map (fun i => leNat (s.euRead n (c.wts + 4 * i) 4))
    let rs := rows.map (fun r => r.getD [])
    some ((upTo t.dim).map (fun j => poolElem c.pool (rs.map (fun r => r.getD j 0)) ws))

/-- A sample of a masked bag (R224): its mask byte is set and it is counted once in the attempt. -/
def State.maskSample (s : State) (n part : Nat) (c : EuCmd) (b : Nat) : State :=
  let a := n / 8 * scratchSize + c.mask + b / max 1 c.bps
  let key := part * 2 ^ 40 + a
  let s := s.memWrite 0 a [1#8]
  if s.emb.masked.contains key then s
  else { s with emb := { s.emb with masked := s.emb.masked ++ [key] } }.count cMemUeMaskedSample 0 1

/-- One bag written (R222 to R224). Of a MAX position beyond 65,535 the low 16 bits are written: DESIGN CHOICE (log entry 198). -/
def State.writeBag (s : State) (n part : Nat) (c : EuCmd) (t : TblDesc) (run : EuRun) (b : Nat) : State :=
  let base := n / 8 * scratchSize
  let w := codeWidth c.outFmt / 8
  let positions := c.pool == 2 && c.auxEn
  match s.gatherBag n part c t run b with
  | some es =>
    let q := Counted.mapL (fun e => cvtFromF32 (s.dnum 0x201001 == 1) .rne c.outFmt e.1) es
    let s := (s.memWrite 0 (base + c.out + b * c.ldo) (q.val.flatMap (leBytes w))).countArith part q.cnt
    if positions then s.memWrite 0 (base + c.aux + b * 2 * t.dim) (es.flatMap (fun e => leBytes 2 e.2)) else s
  | none =>
    let fill := if c.maskEn then 0 else ((fmtOfCode c.outFmt).map Fmt.nanBits).getD 0
    let s := s.memWrite 0 (base + c.out + b * c.ldo) ((upTo t.dim).flatMap (fun _ => leBytes w fill))
    let s := if positions then s.memWrite 0 (base + c.aux + b * 2 * t.dim) (List.replicate (2 * t.dim) 255#8) else s
    if c.maskEn then s.maskSample n part c b else s.count cEuUnavailUnmasked 0 1

/-- The keys of a command's lookups, each once, in list order. -/
def State.euKeys (s : State) (n part : Nat) (c : EuCmd) (t : TblDesc) : List RowKey :=
  ((upTo (s.euIds n c)).map (fun i => rowKeyOf part c.table t (s.euId n c i))).eraseDups

/-- Whether a GATHER waits for a repair of a row it reads (R206). -/
def State.gatherWaits (s : State) (t : TblDesc) (ks : List RowKey) : List (Nat × Nat × Nat) :=
  ks.flatMap (fun k => if s.servedHere t k.shard then (s.rowPlaces k).filter (fun h => s.mustWait h.1 h.2.1 h.2.2) else [])

/-- A GATHER whose remote rows have all come writes its bags, unless a repair must end first. It reads every line of the record of
each distinct row once through the row cache (R235): DEDUCED (log entry 195). -/
def State.gatherTry (s : State) (n : Nat) : State :=
  let e := s.eu n
  match e.run with
  | none => s
  | some run =>
    let c := euCmd run.item.word
    let part := s.byPart run.item.by_
    match s.tbl part c.table with
    | none => s.setEu n { e with run := some { run with ready := true } }
    | some t =>
      if c.op ≠ 1 ∨ run.ready ∨ !run.need.isEmpty then s
      else
        let ks := s.euKeys n part c t
        match s.gatherWaits t ks with
        | w :: r => (w :: r).foldl (fun s w => s.noteWait w.1 w.2.1 w.2.2) s
        | [] =>
          let s := (ks.filter (fun k => s.servedHere t k.shard)).foldl (fun s k =>
            match s.rowHome k.part t k.shard k.slot with
            | some h => s.touchLines h false
            | none => s) s
          let s := (upTo c.nbags).foldl (fun s b => s.writeBag n part c t run b) s
          s.setEu n { s.eu n with run := some { run with ready := true } }

/-! ### SCATTER_ADD and the exchange (R225 to R229) -/

/-- Entries that a half of the exchange object holds. -/
def State.halfCap (s : State) (part : Nat) (t : TblDesc) : Nat := s.objSize part t.exchObj / 2 / t.exchLen

/-- The bytes of an exchange entry (R225). -/
def exchBytes (t : TblDesc) (x : ExchEnt) : List Byte :=
  padTo t.exchLen (leBytes 5 x.slot ++ leBytes 2 x.shard ++ leBytes 2 x.src ++ List.replicate 7 0#8 ++
    x.grads.flatMap (leBytes 4))

/-- Where entry i of a half lies: tier and address; the receive half begins at half the object (log entry 33). -/
def State.exchAt (s : State) (part : Nat) (t : TblDesc) (recv : Bool) (i : Nat) : Option (Nat × Nat) :=
  (s.obj part t.exchObj).map (fun o =>
    (o.home.1, o.home.2 + (if recv then o.size / 2 else 0) + i * t.exchLen))

/-- An entry written to its place in the exchange object. -/
def State.exchStore (s : State) (part : Nat) (t : TblDesc) (recv : Bool) (i : Nat) (x : ExchEnt) : State :=
  match s.exchAt part t recv i with
  | some h => s.memWrite h.1 h.2 (exchBytes t x)
  | none => s

/-- A contribution added to a slot's send entry (R226); false when the half has no room for a new one. Tables that name one
EXCH_OBJ each have the whole half: DESIGN CHOICE (log entry 199). -/
def State.contribute (s : State) (part table : Nat) (t : TblDesc) (k : Nat × Nat) (g : List Nat) : State × Bool :=
  let x := s.step_ part table
  match x.send.findIdx? (fun e => e.shard == k.1 && e.slot == k.2) with
  | some i =>
    (match x.send[i]? with
    | some e =>
      let e' := { e with grads := List.zipWith f32Add e.grads g }
      ((s.setStep part table { x with send := x.send.set i e' }).exchStore part t false i e', true)
    | none => (s, true))
  | none =>
    if s.halfCap part t ≤ x.send.length then (s, false)
    else
      let e : ExchEnt := ⟨k.1, k.2, s.rank, g.map (f32Add 0)⟩
      ((s.setStep part table { x with send := x.send ++ [e] }).exchStore part t false x.send.length e, true)

/-- The contributions of one bag: (shard and slot, elements) in list order (R226). -/
def State.bagContribs (s : State) (n : Nat) (c : EuCmd) (t : TblDesc) (b : Nat) : List ((Nat × Nat) × List Nat) :=
  let lo := s.euOffs n c b
  let cnt := s.euOffs n c (b + 1) - lo
  let g := (upTo t.dim).map (fun j => leNat (s.euRead n (c.out + b * c.ldo + 4 * j) 4))
  (upTo cnt).filterMap (fun i =>
    let k := t.locate (s.euId n c (lo + i))
    if c.pool = 2 then
      let aux := fun j => leNat (s.euRead n (c.aux + b * 2 * t.dim + 2 * j) 2)
      if i ≠ 0xFFFF ∧ (upTo t.dim).any (fun j => aux j == i) then
        some (k, g.zipIdx.map (fun x => if aux x.2 = i then x.1 else 0))
      else none
    else if c.pool = 1 then some (k, g.map (fun x => f32Div x (f32OfNat cnt)))
    else if c.pool = 3 then some (k, g.map (fun x => f32Mul x (leNat (s.euRead n (c.wts + 4 * (lo + i)) 4))))
    else some (k, g))

/-- Whether a bag's sample is masked (R224, R226). -/
def State.bagMasked (s : State) (n : Nat) (c : EuCmd) (b : Nat) : Bool :=
  c.maskEn && leNat (s.euRead n (c.mask + b / max 1 c.bps) 1) != 0

/-- A SCATTER_ADD's work: its code. -/
def State.scatter (s : State) (n part : Nat) (c : EuCmd) (t : TblDesc) : State × Nat :=
  let cs := (upTo c.nbags).flatMap (fun b => if s.bagMasked n c b then [] else s.bagContribs n c t b)
  let r := cs.foldl (fun (a : State × Bool) x => if a.2 then a.1.contribute part c.table t x.1 x.2 else a) (s, true)
  if r.2 then
    let x := r.1.step_ part c.table
    (r.1.setStep part c.table { x with last := x.last || c.last }, 0)
  else ({ r.1 with emb := { r.1.emb with full := true } }.count cEuExchFull 0 1, 6)

/-- A received entry takes its place in the receive half, or is refused (R228); one after the deadline edge is late (R77).
Tables that name one EXCH_OBJ each have the whole half: DESIGN CHOICE (log entry 199). -/
def State.exchReceive (s : State) (part table : Nat) (e : ExchEnt) : State :=
  match s.tbl part table with
  | none => s
  | some t =>
    let x := s.step_ part table
    if !s.exchOpen then s.count cSchedEdgeLate 0 1
    else if s.halfCap part t ≤ x.recv.length then s.count cEuExchFull 0 1
    else (s.setStep part table { x with recv := x.recv ++ [e] }).exchStore part t true x.recv.length e

/-- A received END (R227, R228) with the number of entries sent before it; one after the deadline edge is late (R77). -/
def State.endReceive (s : State) (part table src count : Nat) : State :=
  let x := s.step_ part table
  if !s.exchOpen then s.count cSchedEdgeLate 0 1
  else if x.ends.any (fun e => e.1 == src) then s
  else s.setStep part table { x with ends := x.ends ++ [(src, count)] }

/-- The serving ranks of a table's shards. -/
def State.servers (s : State) (t : TblDesc) : List Nat :=
  ((upTo t.nshard).map (fun i => s.serves (t.shardRank i))).eraseDups

/-- What one table sends at the Gate 1 PROCEED edge (R227). -/
def State.exchSend (s : State) (part table : Nat) : State :=
  let x := s.step_ part table
  match s.tbl part table with
  | none => s
  | some t =>
    if !x.last || x.sent then s
    else
      let s := s.setStep part table { x with sent := true }
      let s := x.send.foldl (fun s e =>
        let to_ := s.serves (t.shardRank e.shard)
        if to_ = s.rank then s.exchReceive part table e
        else s.sendMsg to_ 1 (.exch part table e.shard e.slot e.src e.grads)) s
      (s.servers t).foldl (fun s r =>
        let n := (x.send.filter (fun e => s.serves (t.shardRank e.shard) == r)).length
        if r = s.rank then s.endReceive part table s.rank n else s.sendMsg r 1 (.exchEnd part table s.rank n)) s

/-- Every table's sending at the Gate 1 PROCEED edge. -/
def State.exchangeAll (s : State) : State :=
  (s.emb.steps.map (·.1)).foldl (fun s k => s.exchSend (k / 4096) (k % 4096)) s

/-- The ranks of a table's shard group that are still in the pod. -/
def State.groupRanks (s : State) (t : TblDesc) : List Nat :=
  ((upTo t.nshard).map t.shardRank).filter (fun r => !s.fab.absent.contains r)

/-- Whether a rank's contribution to a table is whole: its END has come, and as many entries as it announces (R228). -/
def TblStep.whole (x : TblStep) (r : Nat) : Bool :=
  x.ends.any (fun e => e.1 == r && decide (e.2 ≤ (x.recv.filter (fun y => y.src == r)).length))

/-- The ranks whose contribution to a table that this module serves is missing (R228), or none. -/
def State.exchMissing (s : State) : List Nat :=
  (s.emb.tables.flatMap (fun e => match e.2 with
    | none => []
    | some d =>
      let t := tblDesc d
      let x := Tab.get {} s.emb.steps e.1
      if !(s.servers t).contains s.rank then []
      else
        let bad := (upTo x.recv.length).filterMap (fun i =>
          match s.exchAt (e.1 / 4096) t true i, x.recv[i]? with
          | some h, some r => if s.poisoned h.1 h.2 t.exchLen then some r.src else none
          | _, _ => none)
        (s.groupRanks t).filter (fun r => !x.whole r) ++ bad)).eraseDups

/-! ### Optimizers (R230, Table 8.7) -/

/-- pow(β, t) by binary exponentiation in FP32. -/
def f32Pow : Nat → Nat → Nat → Nat → Nat
  | 0, _, _, r => r
  | k + 1, t, p, r => f32Pow k (t / 2) (f32Mul p p) (if t % 2 = 1 then f32Mul r p else r)

/-- A row's optimizer state: per-element first and second moments, the row's scalar a, and t. -/
structure OptState where
  m : List Nat := []
  v : List Nat := []
  a : Nat := 0
  t : Nat := 0
  deriving DecidableEq, Repr

/-- The state part of a record decoded (Table 8.2). -/
def optRead (t : TblDesc) (b : List Byte) : OptState :=
  let f := fun (base n : Nat) => (upTo n).map (fun j => leAt b (base + 4 * j) 4)
  if t.opt = 2 then { m := f 0 t.dim }
  else if t.opt = 3 then { a := leAt b 0 4 }
  else if t.opt = 4 then { m := f 0 t.dim, v := f (4 * t.dim) t.dim, t := leAt b (8 * t.dim) 4 }
  else if t.opt = 5 then
    { m := (upTo t.dim).map (fun j =>
        f32Mul (leAt b 0 4) (finish .fp32 .rne (decide (sext 8 (leAt b (12 + j) 1) < 0)) (sext 8 (leAt b (12 + j) 1)).natAbs 0).bits),
      v := (upTo t.dim).map (fun j => f32Mul (leAt b 4 4) (f32OfNat (leAt b (12 + t.dim + j) 1))), t := leAt b 8 4 }
  else {}

/-- The largest of FP32 numbers; with a NaN among them it is open (log entry 34). -/
def f32Max (l : List Nat) : Nat :=
  if l.any f32Nan then Config.maxOfNan l
  else match l with
    | [] => 0
    | x :: r => r.foldl (fun a y => if fLt .fp32 a y then y else a) x

/-- x / s in FP32, rounded to the nearest integer and clamped; 0 for a scale of 0 (Table 8.7). -/
def requant (lo hi : Int) (s x : Nat) : Int :=
  match unpack .fp32 s with
  | .fin _ 0 _ => 0
  | _ =>
    match unpack .fp32 s, unpack .fp32 (f32Div x s) with
    | .fin _ _ _, .fin n m e =>
      let num : Nat := if 0 ≤ e then m * 2 ^ e.toNat else m
      clampI lo hi (rneQ (if n then -(num : Int) else num) (if 0 ≤ e then 1 else 2 ^ (-e).toNat))
    | _, _ => Config.requantOpen x s

/-- The state part of a record encoded. -/
def optWrite (t : TblDesc) (o : OptState) : List Byte :=
  if t.opt = 2 then o.m.flatMap (leBytes 4)
  else if t.opt = 3 then leBytes 4 o.a
  else if t.opt = 4 then o.m.flatMap (leBytes 4) ++ o.v.flatMap (leBytes 4) ++ leBytes 4 o.t
  else if t.opt = 5 then
    let sm := f32Div (f32Max (o.m.map (fAbs .fp32))) (f32OfNat 127)
    let sv := f32Div (f32Max o.v) (f32OfNat 255)
    leBytes 4 sm ++ leBytes 4 sv ++ leBytes 4 o.t ++ o.m.map (fun x => BitVec.ofInt 8 (requant (-127) 127 sm x)) ++
      o.v.map (fun x => BitVec.ofInt 8 (requant 0 255 sv x))
  else []

/-- One element's update: new w, m and v (Table 8.7). `c1`, `c2` are ADAM's corrections, `a` ADAGRAD's new scalar. -/
def optElem (t : TblDesc) (lr a c1 c2 w g m v : Nat) : Nat × Nat × Nat :=
  let wd := f32Add g (f32Mul t.wd w)
  if t.opt = 0 then (f32Add w g, m, v)
  else if t.opt = 1 then (f32Sub w (f32Mul lr wd), m, v)
  else if t.opt = 2 then
    let m' := f32Add (f32Mul t.b1 m) wd
    (f32Sub w (f32Mul lr m'), m', v)
  else if t.opt = 3 then (f32Sub w (f32Div (f32Mul lr wd) (f32Add (f32Sqrt a) t.eps)), m, v)
  else
    let m' := f32Add (f32Mul t.b1 m) (f32Mul (f32Sub f32One t.b1) g)
    let v' := f32Add (f32Mul t.b2 v) (f32Mul (f32Sub f32One t.b2) (f32Mul g g))
    let u := f32Div (f32Div m' c1) (f32Add (f32Sqrt (f32Div v' c2)) t.eps)
    (f32Sub w (f32Mul lr (f32Add u (f32Mul t.wd w))), m', v')

/-- A row's update: new elements and state, the elements that met a NaN, before the policy acts. Elements that met one
keep their value and state. -/
def optRow (t : TblDesc) (lr : Nat) (ws gs : List Nat) (o : OptState) : List Nat × OptState × List Nat :=
  let ok := gs.filter (fun g => !f32Nan g)
  let a' := if t.opt = 3 && !ok.isEmpty then
    f32Add o.a (f32Div (ok.foldl (fun acc g => f32Add acc (f32Mul g g)) 0) (f32OfNat ok.length)) else o.a
  let t' := min (o.t + 1) (2 ^ 32 - 1)
  let adam := t.opt == 4 || t.opt == 5
  let c1 := if adam then f32Sub f32One (f32Pow 32 t' t.b1 f32One) else 0
  let c2 := if adam then f32Sub f32One (f32Pow 32 t' t.b2 f32One) else 0
  let rs := (upTo t.dim).map (fun j =>
    let w := ws.getD j 0
    let g := gs.getD j 0
    let m := o.m.getD j 0
    let v := o.v.getD j 0
    let r := optElem t lr a' c1 c2 w g m v
    if f32Nan g || f32Nan r.1 then (w, m, v, true) else (r.1, r.2.1, r.2.2, false))
  let bad := (upTo t.dim).filter (fun j => (rs.map (·.2.2.2)).getD j false)
  let moved := decide (bad.length < t.dim)
  (rs.map (·.1),
   { m := (if o.m.isEmpty then [] else rs.map (·.2.1)), v := (if o.v.isEmpty then [] else rs.map (·.2.2.1)), a := a',
     t := (if adam && moved then t' else o.t) }, bad)

/-- The value part of a record from its FP32 elements (R51, R60 to R62); kept elements take their old bytes. -/
def rowEncode (t : TblDesc) (ovf8 : Bool) (rnd : Nat → Rnd) (old : List Byte) (es : List Nat) (kept : List Nat) :
    Counted (List Byte) :=
  if t.elem = 17 then
    let q := rq8Encode es
    ⟨rq8Bytes q.val, q.cnt⟩
  else
    let w := codeWidth t.elem / 8
    let q := Counted.mapL (fun (x : Nat × Nat) =>
      if kept.contains x.2 then (⟨(old.drop (w * x.2)).take w, {}⟩ : Counted (List Byte))
      else let c := cvtFromF32 ovf8 (rnd x.2) t.elem x.1; ⟨leBytes w c.val, c.cnt⟩) es.zipIdx
    ⟨q.val.flatten, q.cnt⟩

/-- The gradient of a slot: its entries in ascending source rank (R229). -/
def slotGrad (es : List ExchEnt) : List Nat :=
  match es.mergeSort (fun a b => decide (a.src ≤ b.src)) with
  | [] => []
  | e :: r => r.foldl (fun acc x => List.zipWith f32Add acc x.grads) e.grads

/-- The slots with a gradient, ascending shard and then slot. -/
def gradSlots (x : TblStep) : List (Nat × Nat) :=
  ((x.recv.map (fun e => (e.shard, e.slot))).eraseDups).mergeSort pairLe
where
  pairLe (a b : Nat × Nat) : Bool := decide (a.1 < b.1) || (a.1 == b.1 && decide (a.2 ≤ b.2))

/-- The record of the first NaN of the step, 0x7300.05. -/
def State.nanFirst (s : State) (part table shard slot elem : Nat) : State :=
  if leNat (s.dget 0x730005) = 0 then
    s.dput 0x730005 (leBytes 8 s.now ++ leBytes 2 table ++ leBytes 2 shard ++ leBytes 5 slot ++ leBytes 2 elem ++
      leBytes 1 part ++ leBytes 4 0)
  else s

/-- A mirror record for the buddy of a MIRRORED home object (R232). -/
def State.mirrorSend (s : State) (n part : Nat) (t : TblDesc) (r : StageRec) : State :=
  match s.obj part t.homeObj with
  | none => s
  | some o =>
    let b := s.rankOf o.buddy
    if !o.mirrored || r.obj != t.homeObj then s
    else if s.fab.absent.contains b then s.count cEuMirrorAbsent 0 1
    else
      let s := s.sendMsg b 1 (.mirror part o.buddyIx r.shard r.slot s.rank r.bytes)
      let e := s.eu n
      match e.run with
      | some run => s.setEu n { e with run := some { run with acks := run.acks ++ [(o.buddyIx, ⟨part, r.table, r.shard, r.slot⟩)] } }
      | none => s

/-- How APPLY of one slot ends: goes on, the stage is full, the policy drops the table, or the row waits. -/
inductive RowEnd where
  | ok | full | drop
  deriving DecidableEq, Repr

/-- APPLY of one slot (R230, R242). -/
def State.applyRow (s : State) (n part : Nat) (c : EuCmd) (t : TblDesc) (k : Nat × Nat) (es : List ExchEnt) :
    State × RowEnd :=
  match s.recordAt part t k.1 k.2 with
  | none => (s, .ok)
  | some h =>
    if s.rowBad ⟨part, c.table, k.1, k.2⟩ then (s.count cEuApplyLost 0 1, .ok)
    else
      let s := s.touchLines (h.1, h.2.1, t.recLen, h.2.2) false
      let g := slotGrad es
      let rec_ := s.memRead h.1 h.2.1 t.recLen
      let old := (rec_.drop 8).take t.valueLen
      let r := optRow t c.lr (rowElems t old) g (optRead t (rec_.drop (8 + t.valueLen)))
      let s := match r.2.2 with
        | j :: _ => s.nanFirst part c.table k.1 k.2 j
        | [] => s
      let policy := s.dnum 0x620002
      if !r.2.2.isEmpty && policy != 0 then (s, .drop)
      else
        let srOn := s.dnum 0x201003 == 1
        let rnd := fun j => if t.round = 4 then
            (if srOn then .sr (srRandom s.stepId (part * 65536 + t.homeObj) (s.dnum 0x201002) (k.2 * t.dim + j)) else .rne)
          else Rnd.ofCode t.round
        let v := rowEncode t (s.dnum 0x201001 == 1) rnd old r.1 r.2.2
        let t2 := h.1 == 2
        if !s.stageFits part t t2 t.recLen then (s, .full)
        else
          let bytes := padTo t.recLen (leBytes 4 (s.epoch + 1) ++ leBytes 4 0 ++ v.val ++ optWrite t r.2.1)
          let sr : StageRec := ⟨part, c.table, .own, k.1, k.2, (s.recordObj t k.1).getD 0, s.rank, bytes, t2, false, 0⟩
          let s := (s.count cGradNanSkipped 0 r.2.2.length).countArith part v.cnt
          ((s.stagePut t sr).mirrorSend n part t sr, .ok)

/-- The table's updates of the step discarded (R230): own and replica records of it leave the stage, and its buddy is asked to
drop its mirrors (log entry 188). -/
def State.dropTable (s : State) (n part : Nat) (c : EuCmd) (t : TblDesc) : State :=
  let keep := s.emb.stage.filter (fun r => !(r.part == part && r.table == c.table && r.kind != .mirror))
  let s := { s with emb := { s.emb with stage := keep } }
  let x := s.step_ part c.table
  let s := s.setStep part c.table { x with dropped := true }
  match s.obj part t.homeObj with
  | none => s
  | some o =>
    let b := s.rankOf o.buddy
    if !o.mirrored || s.fab.absent.contains b then s
    else
      let s := s.sendMsg b 1 (.discard part o.buddyIx s.rank)
      let e := s.eu n
      match e.run with
      | some run => s.setEu n { e with run := some { run with acks := [], discard := [(part, o.buddyIx)] } }
      | none => s

/-- A replica record staged for REPLICA_OBJ, or refused (R231, R232); none of a table whose updates the policy has discarded in
the step (R230). -/
def State.replicaStage (s : State) (part table shard slot src : Nat) (bytes : List Byte) : State :=
  match s.tbl part table with
  | none => s
  | some t =>
    let rec_ := padTo t.rrecLen (leBytes 4 (s.epoch + 1) ++ leBytes 4 0 ++ bytes)
    if (s.step_ part table).dropped then s
    else if !s.stageFits part t false t.rrecLen then s.stageRefuse part table
    else s.stagePut t ⟨part, table, .replica, shard, slot, t.replObj, src, rec_, false, false, 0⟩

/-- The value part of an own record of a REPLICATED table goes to every module of its shard group, this one included (R232). -/
def State.replicaOne (s : State) (r : StageRec) : State :=
  match s.tbl r.part r.table with
  | none => s
  | some t =>
    if !t.repl then s
    else
      let v := (r.bytes.drop 8).take t.valueLen
      (s.groupRanks t).foldl (fun s q =>
        if q = s.rank then s.replicaStage r.part r.table r.shard r.slot s.rank v
        else s.sendMsg q 1 (.replica r.part r.table r.shard r.slot s.rank v)) s

/-- What an APPLY that runs in ALLGATHER, after the Gate 2 PROCEED edge, has staged travels at once: the records beyond the
first `n` of the stage (R232). -/
def State.replicaLate (s : State) (n : Nat) : State :=
  if s.sched.state = 9 ∨ s.sched.state = 10 then
    ((s.emb.stage.drop n).filter (fun r => r.kind == .own)).foldl State.replicaOne s
  else s

/-- APPLY over every slot (R230); its code. Where the policy has dropped the table's updates in the step, no further row of it
is updated. One with ROUND 4 under SR_ENABLE 0 counts in sr_demoted whether it converts a row or not (R63): DEDUCED (log entry 191).
-/
def State.applyAll (s : State) (n part : Nat) (c : EuCmd) (t : TblDesc) : State × Nat :=
  let x := s.step_ part c.table
  if x.dropped then (s, 0) else
  let before := s.emb.stage.length
  let ks := gradSlots x
  let r := ks.foldl (fun (a : State × RowEnd) k =>
    if a.2 = .ok then a.1.applyRow n part c t k (x.recv.filter (fun e => e.shard == k.1 && e.slot == k.2)) else a) (s, .ok)
  let s := if t.round = 4 && s.dnum 0x201003 != 1 then r.1.countArith part { srDemoted := 1 } else r.1
  match r.2 with
  | .ok => (s.replicaLate before, 0)
  | .full => ((s.stageRefuse part c.table).replicaLate before, 7)
  | .drop =>
    let s := s.dropTable n part c t
    if s.dnum 0x620002 = 2 then ({ s with sched := { s.sched with cause := if s.sched.cause = 0 then 3 else s.sched.cause } }, 0)
    else (s.count cGradNanSkipped 0 (ks.length * t.dim), 0)

/-- Whether an APPLY's rows wait for a repair (R242). -/
def State.applyWaits (s : State) (part : Nat) (c : EuCmd) : Bool :=
  (gradSlots (s.step_ part c.table)).any (fun k =>
    (s.rowPlaces ⟨part, c.table, k.1, k.2⟩).any (fun h => s.homeRepairing (h.1, h.2.1) h.2.2))

/-- An APPLY whose rows are free of repairs does its work once. -/
def State.applyTry (s : State) (n : Nat) : State :=
  let e := s.eu n
  match e.run with
  | none => s
  | some run =>
    let c := euCmd run.item.word
    let part := s.byPart run.item.by_
    if c.op ≠ 4 ∨ run.ready then s
    else match s.tbl part c.table with
      | none => s.setEu n { e with run := some { run with ready := true } }
      | some t =>
        if s.applyWaits part c then s
        else
          let r := s.applyAll n part c t
          let e := r.1.eu n
          match e.run with
          | some run' => r.1.setEu n { e with run := some { run' with code := r.2, ready := true } }
          | none => r.1

/-! ### The commands -/

/-- The address of an EU's register. -/
def euAddr (n off : Nat) : Nat := euBase + 0x1000 * (n % 8) + off

/-- A command accepted or discarded whole (R219). -/
def State.euPush (s : State) (n by_ : Nat) (w : Vec) : State :=
  let e := s.eu n
  if 32 ≤ e.queue.length then (s.setEu n { e with overflow := true }).count cEuQOverflow n 1
  else s.setEu n { e with queue := e.queue ++ [⟨w, by_⟩] }

/-- Every queued command discarded (R219). -/
def State.euFlush (s : State) (n : Nat) : State :=
  let e := s.eu n
  (s.setEu n { e with queue := [] }).count cEuQFlushed n e.queue.length

/-- EU_Q_PUSH (R219, R423). -/
def euQPush (o : PushOp) (s : State) : State :=
  let n := o.unit.toNat
  let a := s.grantAccess o.req (n / 8) (s.euOk n) (s.euOwner n) (euAddr n 0)
  if a.2 then a.1.euPush n (reqCode o.req) o.word else a.1

/-- EU_FLUSH (R219). -/
def euFlushCmd (o : FlushOp) (s : State) : State :=
  let n := o.unit.toNat
  let a := s.grantAccess o.req (n / 8) (s.euOk n) (s.euOwner n) (euAddr n 0x50)
  if a.2 then a.1.euFlush n else a.1

/-- The head of an idle EU is checked and starts (R221): `op` is the opcode that this row runs, `go` its work once running. An
APPLY that passes its checks before the reduce deadline waits (R229). -/
def State.euStart (s : State) (n op : Nat) (o : EuStartOp) (go : State → Nat → EuCmd → State) : State :=
  let e := s.eu n
  match e.run, e.queue with
  | none, q :: rest =>
    let c := euCmd q.word
    if !s.euOk n || c.op != op || !s.euReady n c then s
    else
      let part := s.byPart q.by_
      let r := (((s.noteEcc 0 o.ecc false).noteEcc 1 o.t1 false).noteEcc 2 o.t2 false).rcBad o.bad
      let k := r.euCheck n part c
      if k.1 ≠ 0 then r.euFail n q rest k.1 k.2
      else if op == 4 && !s.applyDue then s
      else go (r.setEu n { r.eu n with queue := rest, run := some { item := q, code := 0 }, headTag := c.tag }) part c
  | _, _ => s

/-- The EU's work is done with a code. -/
def State.euDone (s : State) (n code : Nat) : State :=
  let e := s.eu n
  match e.run with
  | some run => s.setEu n { e with run := some { run with code := code, ready := true } }
  | none => s

/-- EU_GATHER (R222): remote rows are asked for once each; the bags are written when all have come. -/
def euGather (o : EuStartOp) (s : State) : State :=
  let n := o.unit.toNat
  s.euStart n 1 o (fun s part c =>
    match s.tbl part c.table with
    | none => s
    | some t =>
      let far := (s.euKeys n part c t).filter (fun k => !s.servedHere t k.shard)
      let s := far.foldl (fun s k =>
        s.sendMsg (s.serves (t.shardRank k.shard)) 3 (.rowReq part c.table k.shard k.slot s.rank)) s
      let e := s.eu n
      let s := match e.run with
        | some run => s.setEu n { e with run := some { run with need := far.map (fun k => (k, s.clk.edges)) } }
        | none => s
      s.gatherTry n)

/-- EU_SCATTER_ADD (R226). -/
def euScatterAdd (o : EuStartOp) (s : State) : State :=
  let n := o.unit.toNat
  s.euStart n 2 o (fun s part c =>
    match s.tbl part c.table with
    | none => s
    | some t => let r := s.scatter n part c t; r.1.euDone n r.2)

/-- EU_PREFETCH (R235): lines of rows served here are filled, hints go where others serve. -/
def euPrefetch (o : EuStartOp) (s : State) : State :=
  let n := o.unit.toNat
  s.euStart n 3 o (fun s part c =>
    match s.tbl part c.table with
    | none => s
    | some t =>
      let s := ((upTo c.nbags).map (fun i => rowKeyOf part c.table t (s.euId n c i))).foldl (fun s k =>
        let to_ := s.serves (t.shardRank k.shard)
        if to_ = s.rank then
          (match s.recordAt part t k.shard k.slot with
          | some h => s.touchLines (h.1, h.2.1, t.recLen, h.2.2) true
          | none => s)
        else if ((s.obj part t.homeObj).map (·.policy)) == some 2 then s.sendMsg to_ 3 (.hint part c.table k.shard k.slot)
        else s) s
      s.euDone n 0)

/-- EU_APPLY (R230): starts at the reduce deadline or after it. -/
def euApply (o : EuStartOp) (s : State) : State :=
  s.euStart o.unit.toNat 4 o (fun s _ _ => s.applyTry o.unit.toNat)

/-- EU_SYNC (R220, R112). -/
def euSync (o : UnitOp) (s : State) : State :=
  s.euStart o.unit.toNat 5 ⟨o.unit, {}, {}, {}, []⟩ (fun s _ _ => s.euDone o.unit.toNat 0)

/-- EU_CMD_COMPLETE (R221, R232): a command whose work is done, with its mirror records and discard acknowledged; a head
with a reserved opcode fails at once. -/
def euCmdComplete (o : UnitOp) (s : State) : State :=
  let n := o.unit.toNat
  let s := (s.gatherTry n).applyTry n
  let e := s.eu n
  match e.run, e.queue with
  | some run, _ =>
    if !run.ready || !run.acks.isEmpty || !run.discard.isEmpty then s
    else
      let c := euCmd run.item.word
      let part := s.byPart run.item.by_
      let s := if c.op = 4 && run.code == 0 then
        s.setStep part c.table { s.step_ part c.table with applied := true } else s
      s.euEnd n run.item run.code
  | none, q :: rest =>
    let c := euCmd q.word
    if (s.euCheck n (s.byPart q.by_) c).1 = 1 && s.euReady n c && s.euOk n then s.euFail n q rest 1 none else s
  | none, [] => s

/-- REMOTE_ROW_REQUEST (R222, R224): the committed row, or the unavailable flag. -/
def remoteRowRequest (o : RowOp) (s : State) : State :=
  let p := o.part.toNat
  let tb := o.table.toNat
  let s := ((s.noteEcc 1 o.t1 false).noteEcc 2 o.t2 false).rcBad o.bad
  match s.tbl p tb with
  | none => s.sendMsg o.src 5 (.rowReply p tb o.shard o.slot none)
  | some t =>
    match s.recordAt p t o.shard o.slot with
    | none => s.sendMsg o.src 5 (.rowReply p tb o.shard o.slot none)
    | some h =>
      let h := (h.1, h.2.1, t.recLen, h.2.2)
      let s := s.touchLines h false
      s.sendMsg o.src 5 (.rowReply p tb o.shard o.slot (s.rowValue t ⟨p, tb, o.shard, o.slot⟩ h))

/-- A remote row has come, or will not: the waiting GATHERs take it. -/
def State.rowArrived (s : State) (only : Option Nat) (k : RowKey) (row : Option (List Byte)) : State :=
  (upTo 16).foldl (fun s n =>
    let e := s.eu n
    match e.run with
    | some run =>
      if (only.getD n = n) && run.need.any (fun x => x.1 == k) then
        (s.setEu n { e with run := some { run with
          need := run.need.filter (fun x => x.1 != k), got := run.got ++ [(k, row)] } }).gatherTry n
      else s
    | none => s) s

/-- REMOTE_ROW_REPLY (R224); a late reply is discarded (R290). -/
def remoteRowReply (o : RowReplyOp) (s : State) : State :=
  s.rowArrived none ⟨o.part.toNat, o.table.toNat, o.shard, o.slot⟩ o.row

/-- REMOTE_REQUEST_TIMEOUT (R290): 64 ticks after the request. -/
def remoteRequestTimeout (o : RowTimeoutOp) (s : State) : State :=
  let k : RowKey := ⟨o.part.toNat, o.table.toNat, o.shard, o.slot⟩
  match (s.eu o.unit.toNat).run with
  | some run =>
    if run.need.any (fun x => x.1 == k && decide (x.2 + 64 ≤ s.clk.edges)) then
      (s.count cFabReqTimeout 48 1).rowArrived (some o.unit.toNat) k none
    else s
  | none => s

/-- CACHE_HINT (R235). -/
def cacheHint (o : RowOp) (s : State) : State :=
  let s := ((s.noteEcc 1 o.t1 false).noteEcc 2 o.t2 false).rcBad o.bad
  match s.tbl o.part.toNat o.table.toNat with
  | none => s
  | some t => match s.recordAt o.part.toNat t o.shard o.slot with
    | some h => s.touchLines (h.1, h.2.1, t.recLen, h.2.2) true
    | none => s

/-- EXCH_ENTRY_RECEIVE (R228). -/
def exchEntryReceive (o : ExchOp) (s : State) : State :=
  s.exchReceive o.part.toNat o.table.toNat ⟨o.shard, o.slot, o.src, o.grads.map (·.toNat)⟩

/-- EXCH_END_RECEIVE (R227, R228). -/
def exchEndReceive (o : ExchEndOp) (s : State) : State := s.endReceive o.part.toNat o.table.toNat o.src o.count

/-- The table of a partition whose MIRROR_OBJ is an object (R232). -/
def State.mirrorTable (s : State) (part obj : Nat) : Option (Nat × TblDesc) :=
  s.emb.tables.findSome? (fun e => match e.2 with
    | some d => if e.1 / 4096 == part && (tblDesc d).mirror == obj && obj != 0xFFFF then some (e.1 % 4096, tblDesc d) else none
    | none => none)

/-- MIRROR_RECORD_RECEIVE (R231, R232): one that does not fit is counted and not acknowledged. A record says nothing of its step
or attempt, so one that comes after an ABORT is staged like any other (log entry 188). -/
def mirrorRecordReceive (o : MirrorOp) (s : State) : State :=
  let p := o.part.toNat
  match s.mirrorTable p o.obj.toNat with
  | none => s.count cEuMirrorUnmatched 0 1
  | some (i, t) =>
    let t2 := ((s.obj p t.mirror).map (fun x => x.home.1 == 2)).getD false
    if !s.stageFits p t t2 o.record.length then s.stageNote p i
    else
      let r : StageRec := ⟨p, i, .mirror, o.shard, o.slot, o.obj.toNat, o.src, o.record, t2, false, 0⟩
      (s.stagePut t r).sendMsg o.src 1 (.mirrorAck p o.obj.toNat o.shard o.slot)

/-- MIRROR_ACK_RECEIVE (R232). -/
def mirrorAckReceive (o : MirrorOp) (s : State) : State :=
  (upTo 16).foldl (fun s n =>
    let e := s.eu n
    match e.run with
    | some run =>
      let mine := fun (a : Nat × RowKey) =>
        a.1 == o.obj.toNat && a.2.part == o.part.toNat && a.2.shard == o.shard && a.2.slot == o.slot
      s.setEu n { e with run := some { run with acks := run.acks.filter (fun a => !mine a) } }
    | none => s) s

/-- MIRROR_DISCARD_RECEIVE (R230). -/
def mirrorDiscardReceive (o : MirrorOp) (s : State) : State :=
  let p := o.part.toNat
  let keep := s.emb.stage.filter (fun r =>
    !(r.part == p && r.kind == .mirror && r.obj == o.obj.toNat && r.src == o.src))
  ({ s with emb := { s.emb with stage := keep } }).sendMsg o.src 1 (.discardAck p o.obj.toNat)

/-- DISCARD_ACK_RECEIVE (R230). -/
def discardAckReceive (o : MirrorOp) (s : State) : State :=
  (upTo 16).foldl (fun s n =>
    let e := s.eu n
    match e.run with
    | some run =>
      let left := run.discard.filter (fun d => !(d.1 == o.part.toNat && d.2 == o.obj.toNat))
      s.setEu n { e with run := some { run with discard := left } }
    | none => s) s

/-- REPLICA_RECORD_RECEIVE (R231, R232). -/
def replicaRecordReceive (o : ReplicaOp) (s : State) : State :=
  s.replicaStage o.part.toNat o.table.toNat o.shard o.slot o.src o.value

/-- At the Gate 2 PROCEED edge the value parts of the own records staged so far go to their shard groups (R232). -/
def State.replicaSend (s : State) : State := (s.emb.stage.filter (fun r => r.kind == .own)).foldl State.replicaOne s

/-- What the EUs do at an ABORT decision edge (R92, R233). -/
def State.euAbort (s : State) : State :=
  let s := { s with emb := { s.emb with steps := [], stage := [], masked := [], full := false, stageFull := false } }
  (upTo 16).foldl (fun s n =>
    let e := s.eu n
    match e.run with
    | some run =>
      let op := (euCmd run.item.word).op
      if op = 2 ∨ op = 4 then s.euEnd n run.item 9 else s
    | none => s) s

/-- What the embedding side does at COMMITTED (R235, R238, R243): put-off insertions run, candidates empty, protection
ages, the step's contents go. -/
def State.euCommitted (s : State) : State :=
  let s := s.emb.deferred.foldl State.cremaFill { s with emb := { s.emb with deferred := [] } }
  let aged := s.emb.rowCache.map (fun e => (e.1, e.2.map (fun l => { l with prot := l.prot - 1 })))
  { s with emb := { s.emb with rowCache := aged, hot := [], steps := [], masked := [], full := false,
                                stageFull := false } }.dput 0x730005 (List.replicate 24 0#8)

def execEuQPush (o : PushOp) (s : State) : Host.Outcome State Fault Refusal := .next (euQPush o s)
def execEuFlush (o : FlushOp) (s : State) : Host.Outcome State Fault Refusal := .next (euFlushCmd o s)
def execEuGather (o : EuStartOp) (s : State) : Host.Outcome State Fault Refusal := .next (euGather o s)
def execEuScatterAdd (o : EuStartOp) (s : State) : Host.Outcome State Fault Refusal := .next (euScatterAdd o s)
def execEuPrefetch (o : EuStartOp) (s : State) : Host.Outcome State Fault Refusal := .next (euPrefetch o s)
def execEuApply (o : EuStartOp) (s : State) : Host.Outcome State Fault Refusal := .next (euApply o s)
def execEuSync (o : UnitOp) (s : State) : Host.Outcome State Fault Refusal := .next (euSync o s)
def execEuCmdComplete (o : UnitOp) (s : State) : Host.Outcome State Fault Refusal := .next (euCmdComplete o s)
def execRemoteRowRequest (o : RowOp) (s : State) : Host.Outcome State Fault Refusal := .next (remoteRowRequest o s)
def execRemoteRowReply (o : RowReplyOp) (s : State) : Host.Outcome State Fault Refusal := .next (remoteRowReply o s)
def execRemoteRequestTimeout (o : RowTimeoutOp) (s : State) : Host.Outcome State Fault Refusal := .next (remoteRequestTimeout o s)
def execCacheHint (o : RowOp) (s : State) : Host.Outcome State Fault Refusal := .next (cacheHint o s)
def execExchEntryReceive (o : ExchOp) (s : State) : Host.Outcome State Fault Refusal := .next (exchEntryReceive o s)
def execExchEndReceive (o : ExchEndOp) (s : State) : Host.Outcome State Fault Refusal := .next (exchEndReceive o s)
def execMirrorRecordReceive (o : MirrorOp) (s : State) : Host.Outcome State Fault Refusal := .next (mirrorRecordReceive o s)
def execMirrorAckReceive (o : MirrorOp) (s : State) : Host.Outcome State Fault Refusal := .next (mirrorAckReceive o s)
def execMirrorDiscardReceive (o : MirrorOp) (s : State) : Host.Outcome State Fault Refusal := .next (mirrorDiscardReceive o s)
def execDiscardAckReceive (o : MirrorOp) (s : State) : Host.Outcome State Fault Refusal := .next (discardAckReceive o s)
def execReplicaRecordReceive (o : ReplicaOp) (s : State) : Host.Outcome State Fault Refusal := .next (replicaRecordReceive o s)

end Sys2Proof.Machine
end

