-- ==== Sys2Proof/Machine/Me.lean ====
section
/-! DEFINITION. Matrix engines (file 04): queues (R115, R117), fences (R116), descriptor checks (R113), GEMM and
REDUCE_PARTIALS arithmetic (R65, R66, R110, R111), completion (R114) and poison (R127). -/

namespace Sys2Proof.Machine

/-! ### Descriptors (R108, Table 4.2) -/

/-- The fields of a kernel descriptor. -/
structure MeDesc where
  op     : Nat
  fa     : Nat
  fb     : Nat
  fc     : Nat
  round  : Nat
  ta     : Bool
  tb     : Bool
  accI   : Bool
  scale  : Bool
  bias   : Bool
  relu   : Bool
  irq    : Bool
  waitEn : Bool
  doneEn : Bool
  waitF  : Nat
  doneF  : Nat
  tag    : Nat
  m      : Nat
  n      : Nat
  k      : Nat
  lda    : Nat
  aAddr  : Nat
  bAddr  : Nat
  ldb    : Nat
  cAddr  : Nat
  dAddr  : Nat
  ldc    : Nat
  sa     : Nat
  sb     : Nat
  ldd    : Nat
  es     : Nat
  eb     : Nat
  srObj  : Nat
  waitV  : Nat
  srRow  : Nat
  srBase : Nat
  cls    : Nat
  deriving DecidableEq, Repr

/-- A descriptor's fields: word w, bits [hi:lo] are bits [64w+hi : 64w+lo]. Addresses and strides are in bytes here. -/
def meDesc (d : Vec) : MeDesc :=
  let n := d.toNat
  let f := fun w hi lo => bits n (64 * w + hi) (64 * w + lo)
  let b := fun w i => bit n (64 * w + i)
  { op := f 0 3 0, fa := f 0 7 4, fb := f 0 11 8, fc := f 0 15 12, round := f 0 18 16, ta := b 0 19, tb := b 0 20,
    accI := b 0 21, scale := b 0 22, bias := b 0 23, relu := b 0 24, irq := b 0 25, cls := f 0 27 26,
    waitEn := b 0 28, doneEn := b 0 29, waitF := f 0 41 32, doneF := f 0 51 42, tag := f 0 63 52, m := f 1 15 0,
    n := f 1 31 16, k := f 1 47 32, lda := 64 * f 1 63 48, aAddr := 64 * f 2 23 0, bAddr := 64 * f 2 47 24,
    ldb := 64 * f 2 63 48, cAddr := 64 * f 3 23 0, dAddr := 64 * f 3 47 24, ldc := 64 * f 3 63 48,
    sa := 64 * f 4 23 0, sb := 64 * f 4 47 24, ldd := 64 * f 4 63 48, es := 64 * f 5 23 0, eb := 64 * f 5 47 24,
    srObj := f 5 63 48, waitV := f 6 31 0, srRow := f 6 55 32, srBase := f 7 39 0 }

/-- Whether a format code is an MX one, an integer one. -/
def isMx (c : Nat) : Bool := decide (5 ≤ c) && decide (c ≤ 10)
def isInt (c : Nat) : Bool := c == 11 || c == 12

/-- Whether Table 4.1 has the operand pair. -/
def mePair (a b : Nat) : Bool :=
  (a == b && decide (a ≤ 2)) || ((a == 3 || a == 4) && (b == 3 || b == 4)) || (isMx a && isMx b) || (isInt a && isInt b)

/-- Whether the descriptor's accumulators are INT32. -/
def MeDesc.int (d : MeDesc) : Bool := d.op == 1 && isInt d.fa

/-- Whether the output is allowed (R104). -/
def MeDesc.outOk (d : MeDesc) : Bool :=
  if d.int then (d.fc == 13 && !d.scale && !d.bias && !d.relu) || decide (d.fc ≤ 2) else decide (d.fc ≤ 4)

/-- Bytes of `n` elements of a format packed in one row. -/
def rowBytes (c n : Nat) : Nat := ceilDiv (codeWidth c * n) 8

/-- The bytes that `rows` rows of `len` bytes at a stride cover, as first byte and length. -/
def extent (addr rows stride len : Nat) : Nat × Nat := (addr, (rows - 1) * stride + len)

/-- Rows, stride and row length of A and of B as they lie (R105). -/
def MeDesc.aRows (d : MeDesc) : Nat × Nat × Nat :=
  if d.ta then (d.k, d.lda, rowBytes d.fa d.m) else (d.m, d.lda, rowBytes d.fa d.k)
def MeDesc.bRows (d : MeDesc) : Nat × Nat × Nat :=
  if d.tb then (d.k, d.ldb, rowBytes d.fb d.n) else (d.n, d.ldb, rowBytes d.fb d.k)

/-- The extents that the descriptor reads. -/
def MeDesc.reads (d : MeDesc) : List (Nat × Nat) :=
  (if d.op = 1 then
    [extent d.aAddr d.aRows.1 d.lda d.aRows.2.2, extent d.bAddr d.bRows.1 d.ldb d.bRows.2.2] ++
    (if isMx d.fa then [(d.sa, d.m * (d.k / 32)), (d.sb, d.n * (d.k / 32))] else []) ++
    (if d.accI then [extent d.dAddr d.m d.ldd (4 * d.n)] else [])
   else (upTo d.k).map (fun p => extent (d.dAddr + p * d.sa) d.m d.ldd (4 * d.n))) ++
  (if d.scale then [(d.es, 4 * d.n)] else []) ++ (if d.bias then [(d.eb, 4 * d.n)] else [])

/-- The extent of C. -/
def MeDesc.writes (d : MeDesc) : Nat × Nat := extent d.cAddr d.m d.ldc (rowBytes d.fc d.n)

/-- The completion code of the checks (Table 4.4). -/
def MeDesc.check (d : MeDesc) : Nat :=
  if d.op = 0 || decide (3 < d.op) then 1
  else if d.op = 3 then 0
  else
    let gemm := d.op == 1
    let c := d.writes
    firstFail [
      ((gemm && (decide (13 ≤ d.fa) || decide (13 ≤ d.fb) || !mePair d.fa d.fb)) || decide (14 ≤ d.fc) || !d.outOk, 2),
      (!(d.round == 0 || d.round == 1 || d.round == 4) ||
        (d.round == 4 && !(d.fc == 1 || d.fc == 3 || d.fc == 4)), 3),
      (d.m == 0 || d.n == 0 || d.k == 0 || (gemm && (isMx d.fa || isMx d.fb) && d.k % 32 != 0) ||
        (gemm && (d.fa == 12 || d.fb == 12) && d.k % 2 == 1) || (!gemm && decide (8 < d.k)), 4),
      ((gemm && (decide (d.lda < d.aRows.2.2) || decide (d.ldb < d.bRows.2.2))) ||
        ((!gemm || d.accI) && decide (d.ldd < 4 * d.n)) || decide (d.ldc < rowBytes d.fc d.n) ||
        (gemm && ((d.ta && (isMx d.fa || d.fa == 12)) || (d.tb && (isMx d.fb || d.fb == 12)))) ||
        d.reads.any (fun r => overlaps c.1 c.2 r.1 r.2), 5),
      ((c :: d.reads).any (fun r => decide (scratchSize < r.1 + r.2)), 6)]

/-! ### Arithmetic (R65, R110, R111) -/

/-- A product as a tree input: exact, or a canonical NaN (R45, R64). -/
def prodU (a b : Nat) (u v : Unp) : Unp :=
  let cn := fun (n : Bool) => Unp.nan n (withSign .fp32 n Fmt.fp32.nanBits)
  match u, v with
  | .nan n _, .nan k _ => cn (if n == k then n else Config.mergedNanSign a b)
  | .nan n _, _ => cn n
  | _, .nan n _ => cn n
  | .inf x, .inf y => .inf (x != y)
  | .inf x, .fin y m _ => if m = 0 then cn (Config.invalidNanSign 1 a b) else .inf (x != y)
  | .fin x m _, .inf y => if m = 0 then cn (Config.invalidNanSign 1 a b) else .inf (x != y)
  | .fin n1 m1 e1, .fin n2 m2 e2 => .fin (n1 != n2) (m1 * m2) (e1 + e2)

/-- The exact sum of two values; NaN and infinities as IEEE 754, a zero sum under RNE. -/
def addU (u v : Unp) : Unp :=
  let cn := fun (n : Bool) => Unp.nan n (withSign .fp32 n Fmt.fp32.nanBits)
  match u, v with
  | .nan n a, .nan k b => cn (if n == k then n else Config.mergedNanSign a b)
  | .nan n _, _ => cn n
  | _, .nan n _ => cn n
  | .inf x, .inf y => if x == y then .inf x else cn (Config.invalidNanSign 0 Fmt.fp32.infBits Fmt.fp32.infBits)
  | .inf x, _ => .inf x
  | _, .inf y => .inf y
  | .fin n1 m1 e1, .fin n2 m2 e2 =>
    let s := exactSum n1 m1 e1 n2 m2 e2
    if s.1 = 0 then .fin (zeroSumSign .rne n1 n2) 0 0 else .fin (decide (s.1 < 0)) s.1.natAbs s.2

/-- A value rounded to FP32 with RNE. -/
def roundU (u : Unp) : Nat :=
  match u with
  | .nan n _ => withSign .fp32 n Fmt.fp32.nanBits
  | .inf n => withSign .fp32 n Fmt.fp32.infBits
  | .fin n m e => if m = 0 then withSign .fp32 n 0 else (finish .fp32 .rne n m e).bits

/-- One level of the binary tree: adjacent pairs summed, each node rounded to FP32. -/
def treeLevel : List Unp → List Unp
  | a :: b :: r => unpack .fp32 (roundU (addU a b)) :: treeLevel r
  | l => l

/-- `k` levels of the tree. -/
def treeSum : Nat → List Unp → List Unp
  | 0, l => l
  | k + 1, l => treeSum k (treeLevel l)

/-- A list filled to `n` places with exact +0. -/
def padU (n : Nat) (l : List Unp) : List Unp := l ++ List.replicate (n - l.length) (.fin false 0 0)

/-- The sum of up to 128 products (R65): the seven-level tree. -/
def passSum (l : List Unp) : Nat := roundU ((treeSum 7 (padU 128 l)).headD (.fin false 0 0))

/-- The sum of the up to four block results of an MX pass: the tree from its sixth level. -/
def blockSum (l : List Unp) : Nat := roundU ((treeSum 2 (padU 4 l)).headD (.fin false 0 0))

/-- A value times a power of two. -/
def Unp.scale2 (u : Unp) (k : Int) : Unp :=
  match u with
  | .fin n m e => .fin n m (e + k)
  | x => x

/-- A subnormal FP32 or BF16 input is flushed to a zero of its sign (R64), and counted. -/
def flushIn (c w : Nat) : Counted Nat :=
  if c = 0 then
    (if w / 2 ^ 23 % 256 = 0 && decide (w % 2 ^ 23 ≠ 0) then ⟨w / 2 ^ 31 % 2 * 2 ^ 31, { ftzIn := 1 }⟩ else ⟨w, {}⟩)
  else if c = 1 then
    (if w / 2 ^ 7 % 256 = 0 && decide (w % 2 ^ 7 ≠ 0) then ⟨w / 2 ^ 15 % 2 * 2 ^ 15, { ftzIn := 1 }⟩ else ⟨w, {}⟩)
  else ⟨w, {}⟩

/-- The engine's view of its scratch: byte `a` of the tile. -/
abbrev Scratch := Nat → Nat → List Byte

/-- Element `j` of a packed row. -/
def rowElem (rd : Scratch) (c addr j : Nat) : Nat :=
  let w := codeWidth c
  let lo := w * j
  leNat (rd (addr + lo / 8) ((lo % 8 + w + 7) / 8)) / 2 ^ (lo % 8) % 2 ^ w

/-- A(i, k) and B(k, j) as they lie (R105). -/
def MeDesc.elemA (d : MeDesc) (rd : Scratch) (i k : Nat) : Nat :=
  if d.ta then rowElem rd d.fa (d.aAddr + k * d.lda) i else rowElem rd d.fa (d.aAddr + i * d.lda) k
def MeDesc.elemB (d : MeDesc) (rd : Scratch) (k j : Nat) : Nat :=
  if d.tb then rowElem rd d.fb (d.bAddr + k * d.ldb) j else rowElem rd d.fb (d.bAddr + j * d.ldb) k

/-- A 32-bit value of a vector or a row. -/
def word32At (rd : Scratch) (a : Nat) : Nat := leNat (rd a 4)

/-- An FP32 value the engine reads, flushed. -/
def fp32At (rd : Scratch) (a : Nat) : Counted Nat := flushIn 0 (word32At rd a)

/-- The products of pass `p` for element (i, j), non-MX: k from 128 p up to K. -/
def MeDesc.products (d : MeDesc) (rd : Scratch) (i j p : Nat) : List Unp :=
  (upTo (min 128 (d.k - 128 * p))).map (fun q =>
    let k := 128 * p + q
    let a := (flushIn d.fa (d.elemA rd i k)).val
    let b := (flushIn d.fb (d.elemB rd k j)).val
    prodU a b (unpackCode d.fa a) (unpackCode d.fb b))

/-- The 32 products of an MX block, without its scales. -/
def MeDesc.mxProducts (d : MeDesc) (rd : Scratch) (i j b : Nat) : List Unp :=
  (upTo 32).map (fun q =>
    let x := d.elemA rd i (32 * b + q)
    let y := d.elemB rd (32 * b + q) j
    prodU x y (mxElem d.fa 127 x) (mxElem d.fb 127 y))

/-- Whether a number is −0. -/
def Unp.negZero (u : Unp) : Bool :=
  match u with
  | .fin n m _ => n && m == 0
  | _ => false

/-- The result of an MX block: the exact sum of its 32 products times both scales, rounded once (R65). A scale of 0xFF makes
it a NaN, whose sign is open (log entry 10), and so is the sign of a sum of products that are all −0 (log entry 153). -/
def MeDesc.mxBlock (d : MeDesc) (rd : Scratch) (i j b : Nat) : Unp :=
  let sa := leNat (rd (d.sa + i * (d.k / 32) + b) 1)
  let sb := leNat (rd (d.sb + j * (d.k / 32) + b) 1)
  if sa = 255 || sb = 255 then
    let n := Config.mxNanSign (if sa = 255 then d.fa else d.fb)
    .nan n (withSign .fp32 n Fmt.fp32.nanBits)
  else
    let ps := d.mxProducts rd i j b
    let s := ps.foldl addU (.fin (ps.all Unp.negZero && Config.mxZeroNeg) 0 0)
    unpack .fp32 (roundU (s.scale2 ((sa : Int) + sb - 254)))

/-- An accumulator after its passes: the element's bits, and counts. -/
def MeDesc.accumulate (d : MeDesc) (rd : Scratch) (i j : Nat) : Counted Nat :=
  let d0 := d.dAddr + i * d.ldd + 4 * j
  if d.int then
    let init : Int := if d.accI then sext 32 (word32At rd d0) else 0
    let r := (upTo (ceilDiv d.k 128)).foldl (fun (acc : Int × Bool) p =>
      let ps := (upTo (min 128 (d.k - 128 * p))).map (fun q =>
        let k := 128 * p + q
        let w := fun c => if c = 12 then 4 else 8
        sext (w d.fa) (d.elemA rd i k) * sext (w d.fb) (d.elemB rd k j))
      let v := ps.foldl (· + ·) acc.1
      let c := clampI (-(2 ^ 31 : Nat)) ((2 ^ 31 : Nat) - 1) v
      (c, acc.2 || c != v)) (init, false)
    ⟨wrap 32 r.1, { intSat := b2n r.2 }⟩
  else
    let init : Counted Nat := if d.accI then fp32At rd d0 else ⟨0, {}⟩
    (upTo (ceilDiv d.k 128)).foldl (fun acc p =>
      if isMx d.fa then
        let bs := (upTo (min 4 (d.k / 32 - 4 * p))).map (fun q => d.mxBlock rd i j (4 * p + q))
        ⟨(fAdd .canonical .fp32 .rne acc.val (blockSum bs)).bits, acc.cnt⟩
      else
        ⟨(fAdd .canonical .fp32 .rne acc.val (passSum (d.products rd i j p))).bits, acc.cnt⟩) init

/-- The sum of the partials of element (i, j) in increasing p (R111). -/
def MeDesc.partials (d : MeDesc) (rd : Scratch) (i j : Nat) : Counted Nat :=
  let at_ := fun p => fp32At rd (d.dAddr + p * d.sa + i * d.ldd + 4 * j)
  (upTo (d.k - 1)).foldl (fun acc p =>
    let x := at_ (p + 1)
    ⟨(fAdd .canonical .fp32 .rne acc.val x.val).bits, acc.cnt.add x.cnt⟩) (at_ 0)

/-- A negative result becomes +0; −0 and NaN are returned unchanged (R110). -/
def reluF (w : Nat) : Nat :=
  match unpack .fp32 w with
  | .nan .. => w
  | .inf n => if n then 0 else w
  | .fin n m _ => if n && decide (m ≠ 0) then 0 else w

/-- The epilogue on an FP32 value of column j (R110). -/
def MeDesc.epilogue (d : MeDesc) (rd : Scratch) (j w : Nat) : Nat :=
  let w := if d.scale then (fMul .canonical .fp32 .rne w (fp32At rd (d.es + 4 * j)).val).bits else w
  let w := if d.bias then (fAdd .canonical .fp32 .rne w (fp32At rd (d.eb + 4 * j)).val).bits else w
  if d.relu then reluF w else w

/-- How C is rounded: the mode of ROUND, or the random value of an element (R62, R109); `none` is code 4 demoted. -/
structure MeRound where
  ovf8 : Bool
  rnd  : Nat → Nat → Rnd

/-- Element (i, j) of C (R110, R111). -/
def MeDesc.elemC (d : MeDesc) (rd : Scratch) (q : MeRound) (i j : Nat) : Counted Nat :=
  let acc := if d.op = 1 then d.accumulate rd i j else d.partials rd i j
  if d.fc = 13 then acc
  else
    let w := if d.int then (cvtToFmt q.ovf8 .fp32 .rne (unpInt (sext 32 acc.val))).val else acc.val
    let c := cvtFromF32 q.ovf8 (q.rnd i j) d.fc (d.epilogue rd j w)
    ⟨c.val, acc.cnt.add c.cnt⟩

/-- The subnormal inputs flushed for output tile (mt, nt): its rows of A streamed once, its tiles of B loaded once, its
part of the epilogue vectors read once (R64, R119). -/
def MeDesc.tileFlush (d : MeDesc) (rd : Scratch) (mt nt : Nat) : ArithCnt :=
  let is_ := (upTo (min 128 (d.m - 128 * mt))).map (128 * mt + ·)
  let js := (upTo (min 128 (d.n - 128 * nt))).map (128 * nt + ·)
  let sum := fun (l : List ArithCnt) => l.foldl ArithCnt.add {}
  let gemm : ArithCnt := if d.op = 1 then
    (sum (is_.flatMap (fun i => (upTo d.k).map (fun k => (flushIn d.fa (d.elemA rd i k)).cnt)))).add
      (sum (js.flatMap (fun j => (upTo d.k).map (fun k => (flushIn d.fb (d.elemB rd k j)).cnt)))) else {}
  (gemm.add (if d.scale then sum (js.map (fun j => (fp32At rd (d.es + 4 * j)).cnt)) else {})).add
    (if d.bias then sum (js.map (fun j => (fp32At rd (d.eb + 4 * j)).cnt)) else {})

/-- The places of a tile of `m` rows and `n` columns of a 128 × 128 buffer that a function fills, written to it; the others keep
what they hold (log entry 165). -/
def fillTile (t : Tab Nat) (m n : Nat) (f : Nat → Nat → Nat) : Tab Nat :=
  (upTo (min 128 m)).foldl (fun t i => (upTo (min 128 n)).foldl (fun t j => Tab.put 0 t (128 * i + j) (f i j)) t) t

/-- The stationary tile of K pass kt for output column tile nt, elements of B as they lie, loaded into the free half (R101,
R119). -/
def Engine.load (e : Engine) (d : MeDesc) (rd : Scratch) (kt nt : Nat) : Engine :=
  let fill := fun t => fillTile t (d.k - 128 * kt) (d.n - 128 * nt) (fun k j => d.elemB rd (128 * kt + k) (128 * nt + j))
  if e.loadOdd then { e with half1 := fill e.half1, loadOdd := false } else { e with half0 := fill e.half0, loadOdd := true }

/-- Output tile (mt, nt) accumulated in the next set, which alternates per output tile: the values after its last pass, as bits of
FP32 or INT32. -/
def Engine.accumulated (e : Engine) (d : MeDesc) (mt nt : Nat) (acc : Nat → Nat → Nat) : Engine :=
  let fill := fun t => fillTile t (d.m - 128 * mt) (d.n - 128 * nt) acc
  if e.accOdd then { e with acc1 := fill e.acc1, accOdd := false } else { e with acc0 := fill e.acc0, accOdd := true }

/-- What an output tile leaves in the engine (R119): the stationary tiles of its K passes in increasing K, and its accumulators;
those of a poisoned tile are open values of the draw counter (R127 does not state them). -/
def Engine.runTile (e : Engine) (d : MeDesc) (rd : Scratch) (draw mt nt : Nat) (bad : Bool) : Engine :=
  let acc := fun i j => (if d.op = 1 then d.accumulate rd (128 * mt + i) (128 * nt + j)
    else d.partials rd (128 * mt + i) (128 * nt + j)).val
  ((upTo (if d.op = 1 then ceilDiv d.k 128 else 0)).foldl (fun e kt => e.load d rd kt nt) e).accumulated d mt nt
    (if bad then fun i j => (Config.poisonAcc draw (16384 * (mt * ceilDiv d.n 128 + nt) + 128 * i + j)).toNat else acc)

/-- The data that contributes to the output tile (mt, nt): ranges within the tile's scratch (R127). -/
def MeDesc.tileReads (d : MeDesc) (mt nt : Nat) : List (Nat × Nat) :=
  let i0 := 128 * mt
  let j0 := 128 * nt
  let mi := min 128 (d.m - i0)
  let nj := min 128 (d.n - j0)
  let part := fun (addr ld c lo n : Nat) => (upTo d.k).map (fun k =>
    let b := codeWidth c * lo / 8
    (addr + k * ld + b, ceilDiv (codeWidth c * (lo + n)) 8 - b))
  (if d.op = 1 then
    (if d.ta then part d.aAddr d.lda d.fa i0 mi
     else (upTo mi).map (fun i => (d.aAddr + (i0 + i) * d.lda, rowBytes d.fa d.k))) ++
    (if d.tb then part d.bAddr d.ldb d.fb j0 nj
     else (upTo nj).map (fun j => (d.bAddr + (j0 + j) * d.ldb, rowBytes d.fb d.k))) ++
    (if isMx d.fa then [(d.sa + i0 * (d.k / 32), mi * (d.k / 32)), (d.sb + j0 * (d.k / 32), nj * (d.k / 32))] else []) ++
    (if d.accI then (upTo mi).map (fun i => (d.dAddr + (i0 + i) * d.ldd + 4 * j0, 4 * nj)) else [])
   else (upTo d.k).flatMap (fun p => (upTo mi).map (fun i =>
     (d.dAddr + p * d.sa + (i0 + i) * d.ldd + 4 * j0, 4 * nj)))) ++
  (if d.scale then [(d.es + 4 * j0, 4 * nj)] else []) ++ (if d.bias then [(d.eb + 4 * j0, 4 * nj)] else [])

/-- ACLK cycles without a stall (R121), for a row slot of `s2` half cycles. -/
def gemmCycles (s2 m n k : Nat) : Nat :=
  let mt := ceilDiv m 128
  let nt := ceilDiv n 128
  let kt := ceilDiv k 128
  s2 * 64 + mt * nt * max (s2 * 64 * kt) 128 + 128 + 24

/-! ### Completion (R113, R114) -/

/-- The state with an engine replaced. -/
def State.setEngine (s : State) (n : Nat) (e : Engine) : State := { s with engines := Tab.put {} s.engines n e }

/-- Engine n. -/
def State.engine (s : State) (n : Nat) : Engine := Tab.get {} s.engines n

/-- A failing code is recorded in ME_ERR (R113, Table 4.7). -/
def Engine.record (e : Engine) (code tag : Nat) : Engine :=
  if e.errValid then { e with errMore := true } else { e with errValid := true, errCode := code, errTag := tag }

/-- Whether a fence lies in another enabled partition's range (R434, log entry 20). -/
def State.fenceForeign (s : State) (part f : Nat) : Bool :=
  match s.fenceOwner f with
  | some p => p != part
  | none => false

/-- Whether an extent of the engine's scratch reaches another enabled partition's range (R434, log entry 20). -/
def State.meForeign (s : State) (tile part : Nat) (d : MeDesc) : Bool :=
  d.op != 3 && (d.writes :: d.reads).any (fun r => (upTo 4).any (fun p => p != part && s.ptEnabled p &&
    (let w := s.ptScratch p tile; overlaps w.1 w.2 r.1 r.2)))

/-- A descriptor completes (R114): fence, completion word to a pushing core, request line and count. -/
def State.meFinish (s : State) (n : Nat) (q : Queued) (code : Nat) : State :=
  let d := meDesc q.word
  let tile := n / 36
  let s := s.count cMeDescDone n 1
  let s := if d.doneEn && !s.fenceForeign (s.byPart q.by_) d.doneF then s.fenceAdd tile d.doneF 1 else s
  let s := if d.irq && decide (q.by_ < 256) then s.mbxPost q.by_ 1 n (n + 256 * code + 2 ^ 20 * d.tag) else s
  s.pulseLine tile (137 + n % 36)

/-- The head fails its check (R113). It has not run, so ME_HEAD_TAG keeps the tag of the last one that has; the spec does not say
whether a failing descriptor counts as run. DESIGN CHOICE (log entry 167). -/
def State.meFail (s : State) (n : Nat) (q : Queued) (rest : List Queued) (code : Nat) : State :=
  let e := s.engine n
  ((s.setEngine n ({ e with queue := rest }.record code (meDesc q.word).tag)).count cMeDescErr n 1).meFinish n q code

/-- Whether the head's fence is satisfied (R116, R126). -/
def State.meReady (s : State) (n : Nat) (d : MeDesc) : Bool :=
  !d.waitEn || fenceSat (s.fenceVal (n / 36) d.waitF) d.waitV

/-- Whether the first queued descriptor is the head (R125): nothing runs, or the GEMM that streams is loading its last stationary
tile, as it is from its start on in a model where a descriptor's tiles are one step (log entry 165). Behind a descriptor whose
first tile alone is loaded it is not. -/
def Engine.headed (e : Engine) : Bool :=
  e.next.isNone && (match e.run with
  | none => true
  | some r => (meDesc (e.ahead.getD r).item.word).op == 1)

/-- The descriptor whose first stationary tile is loaded goes on to stream: its first K pass takes the half that holds the tile
(log entry 165). -/
def Engine.unload (e : Engine) : Engine := { e with next := none, loadOdd := !e.loadOdd }

/-- A head that finds both accumulator sets in use loads its first stationary tile into the free half (R120, R125); so it has
started, and a flush no longer discards it (R117). -/
def State.mePreload (s : State) (n : Nat) (ecc : Ecc) (q : Queued) (rest : List Queued) : State :=
  let s := s.noteEcc 0 ecc false
  let e := (s.engine n).load (meDesc q.word) (fun a k => s.t0.readN (n / 36 * scratchSize + a) k) 0 0
  s.setEngine n { e with queue := rest, next := some q }

/-- A descriptor starts: it runs, or streams behind the one that drains (R125). ME_HEAD_TAG shows its TAG from then on, also while
the one before it still drains: DESIGN CHOICE (log entry 167). -/
def Engine.starts (e : Engine) (rest : List Queued) (r : Running) (tag : Nat) : Engine :=
  match e.run with
  | none => { e with queue := rest, run := some r, headTag := tag }
  | some _ => { e with queue := rest, ahead := some r, headTag := tag }

/-- The head is checked once its fence is satisfied, and starts: `op` is the opcode that this row runs. Beside a GEMM that still
runs a GEMM starts (R125); a third one, which finds both accumulator sets in use (R120), loads its first stationary tile and
streams at its next command after a completion; any other descriptor waits for a completion. -/
def State.meStart (s : State) (n op : Nat) (load : State → Queued → List Queued → State)
    (run : State → Queued → MeDesc → State × Nat) : State :=
  let e := s.engine n
  match e.next, e.queue with
  | some q, rest =>
    if !s.meOk n || op != 1 || e.ahead.isSome then s
    else
      let r := run (s.setEngine n e.unload) q (meDesc q.word)
      r.1.setEngine n ((r.1.engine n).starts rest ⟨q, r.2⟩ (meDesc q.word).tag)
  | none, q :: rest =>
    let d := meDesc q.word
    if !s.meOk n || d.op != op || !e.headed || !s.meReady n d then s
    else if d.check ≠ 0 then s.meFail n q rest d.check
    else if s.meForeign (n / 36) (s.byPart q.by_) d then s.meFail n q rest 6
    else if e.run.isSome && op != 1 then s
    else if e.ahead.isSome then load s q rest
    else
      let r := run s q d
      r.1.setEngine n ((r.1.engine n).starts rest ⟨q, r.2⟩ d.tag)
  | none, [] => s

/-- The rows of C written tile by tile; a tile to which bad data contributes is written as NaN (R127). Inputs flushed for a
poisoned tile are not counted: the spec does not say whether they are. DESIGN CHOICE (log entry 166). -/
def State.meCompute (s : State) (n : Nat) (ecc : Ecc) (q : Queued) (d : MeDesc) : State × Nat :=
  let tile := n / 36
  let base := tile * scratchSize
  let s := s.noteEcc 0 ecc false
  let part := s.byPart q.by_
  let srOn := s.dnum 0x201003 == 1
  let rnd := fun i j =>
    if d.round = 4 then
      (if srOn then .sr (srRandom s.stepId (part * 65536 + d.srObj) (s.dnum 0x201002)
        ((d.srBase + i * d.srRow + j) % 2 ^ 40)) else .rne)
    else Rnd.ofCode d.round
  let mr : MeRound := ⟨s.dnum 0x201001 == 1, rnd⟩
  let rd : Scratch := fun a k => s.t0.readN (base + a) k
  let w := codeWidth d.fc / 8
  let bad := fun mt nt => (d.tileReads mt nt).any (fun r => s.poisoned 0 (base + r.1) r.2)
  let nanC := if d.fc = 13 then 2 ^ 31 else match fmtOfCode d.fc with
    | some f => f.nanBits
    | none => 0
  let tiles := (upTo (ceilDiv d.m 128)).flatMap (fun mt => (upTo (ceilDiv d.n 128)).map (fun nt => (mt, nt)))
  let r := tiles.foldl (fun (acc : State × Nat) t =>
    let poisoned := bad t.1 t.2
    let rows := upTo (min 128 (d.m - 128 * t.1))
    let cols := upTo (min 128 (d.n - 128 * t.2))
    let s' := rows.foldl (fun (a : State) i =>
      let i := 128 * t.1 + i
      let es := Counted.mapL (fun j => if poisoned then ⟨nanC, {}⟩ else d.elemC rd mr i (128 * t.2 + j)) cols
      (a.memWrite 0 (base + d.cAddr + i * d.ldc + w * (128 * t.2)) (es.val.flatMap (leBytes w))).countArith part es.cnt)
      acc.1
    if poisoned then (s'.count cMePoisonTile n 1, acc.2 + 1)
    else (s'.countArith part (d.tileFlush rd t.1 t.2), acc.2)) (s, 0)
  let s' := if d.round = 4 && !srOn then r.1.countArith part { srDemoted := 1 } else r.1
  let e := tiles.foldl (fun e t => e.runTile d rd s.draws t.1 t.2 (bad t.1 t.2)) (s'.engine n)
  let s' := if r.2 = 0 then s' else { s' with draws := s'.draws + 1 }
  (s'.setEngine n e, if r.2 = 0 then 0 else 7)

/-! ### The commands -/

/-- The address of an engine's register. -/
def meAddr (n off : Nat) : Nat := meBase + 0x1000 * (n % 36) + off

/-- A descriptor accepted or discarded whole (R115). -/
def State.mePush (s : State) (n by_ : Nat) (w : Vec) : State :=
  let e := s.engine n
  if 64 ≤ e.queue.length then (s.setEngine n { e with overflow := true }).count cMeQOverflow n 1
  else s.setEngine n { e with queue := e.queue ++ [⟨w, by_⟩] }

/-- Every queued descriptor discarded (R117). -/
def State.meFlush (s : State) (n : Nat) : State :=
  let e := s.engine n
  (s.setEngine n { e with queue := [] }).count cMeQFlushed n e.queue.length

/-- ME_Q_PUSH (R115, R423). -/
def meQPush (o : PushOp) (s : State) : State :=
  let n := o.unit.toNat
  let a := s.grantAccess o.req (n / 36) (s.meOk n) (s.meOwner n) (meAddr n 0)
  if a.2 then a.1.mePush n (reqCode o.req) o.word else a.1

/-- ME_FLUSH (R117). -/
def meFlushCmd (o : FlushOp) (s : State) : State :=
  let n := o.unit.toNat
  let a := s.grantAccess o.req (n / 36) (s.meOk n) (s.meOwner n) (meAddr n 0x50)
  if a.2 then a.1.meFlush n else a.1

/-- Whether a requester's access to a fence is admitted: a core's unless the fence lies in another partition's range
(R152), a host's within PT_FENCE (R423). -/
def State.admitFence (s : State) (r : Requester) (tile f off : Nat) : State × Bool :=
  match r with
  | .core k =>
    if k.toNat / 128 ≠ tile then (s, false)
    else if (s.fenceOwner f).all (fun p => some p == s.coreOwner k.toNat) then (s, true)
    else (s.coreFault k.toNat (⟨5, 0, fenceBase + 8 * f + off⟩, some 0), false)
  | _ => s.grantAccess r tile (decide (tile < s.variant.tiles)) (s.fenceOwner f) (fenceBase + 8 * f + off)

/-- ME_FENCE_ADD (R116). -/
def meFenceAdd (o : FenceOp) (s : State) : State :=
  let a := s.admitFence o.req o.tile.toNat o.f.toNat 4
  if a.2 then a.1.fenceAdd o.tile.toNat o.f.toNat o.value.toNat else a.1

/-- ME_FENCE_VAL (R116). -/
def meFenceVal (o : FenceOp) (s : State) : State :=
  let a := s.admitFence o.req o.tile.toNat o.f.toNat 0
  if a.2 then a.1.fenceSet o.tile.toNat o.f.toNat o.value.toNat else a.1

/-- ME_GEMM (R110). -/
def meGemm (o : UnitStartOp) (s : State) : State :=
  s.meStart o.unit.toNat 1 (fun s q rest => s.mePreload o.unit.toNat o.ecc q rest) (fun s q d => s.meCompute o.unit.toNat o.ecc q d)

/-- ME_REDUCE_PARTIALS (R111). -/
def meReducePartials (o : UnitStartOp) (s : State) : State :=
  s.meStart o.unit.toNat 2 (fun s _ _ => s) (fun s q d => s.meCompute o.unit.toNat o.ecc q d)

/-- ME_SYNC (R112). -/
def meSync (o : UnitOp) (s : State) : State := s.meStart o.unit.toNat 3 (fun s _ _ => s) (fun s _ _ => (s, 0))

/-- The running descriptor completes (R114), and the one that streams behind it goes on. -/
def State.meEnd (s : State) (n : Nat) : State :=
  let e := s.engine n
  match e.run with
  | some r =>
    let x := { e with run := e.ahead, ahead := none }
    (s.setEngine n (if r.code = 0 then x else x.record r.code (meDesc r.item.word).tag)).meFinish n r.item r.code
  | none => s

/-- ME_DESC_COMPLETE (R114): a head with a reserved opcode, which no row starts, fails at once (R113), before a descriptor that
still runs completes; otherwise the running descriptor completes. -/
def meDescComplete (o : UnitOp) (s : State) : State :=
  let n := o.unit.toNat
  let e := s.engine n
  match e.queue with
  | q :: rest =>
    let d := meDesc q.word
    if d.check = 1 && e.headed && s.meReady n d && s.meOk n then s.meFail n q rest 1 else s.meEnd n
  | [] => s.meEnd n

def execMeQPush (o : PushOp) (s : State) : Host.Outcome State Fault Refusal := .next (meQPush o s)
def execMeFlush (o : FlushOp) (s : State) : Host.Outcome State Fault Refusal := .next (meFlushCmd o s)
def execMeFenceAdd (o : FenceOp) (s : State) : Host.Outcome State Fault Refusal := .next (meFenceAdd o s)
def execMeFenceVal (o : FenceOp) (s : State) : Host.Outcome State Fault Refusal := .next (meFenceVal o s)
def execMeGemm (o : UnitStartOp) (s : State) : Host.Outcome State Fault Refusal := .next (meGemm o s)
def execMeReducePartials (o : UnitStartOp) (s : State) : Host.Outcome State Fault Refusal := .next (meReducePartials o s)
def execMeSync (o : UnitOp) (s : State) : Host.Outcome State Fault Refusal := .next (meSync o s)
def execMeDescComplete (o : UnitOp) (s : State) : Host.Outcome State Fault Refusal := .next (meDescComplete o s)

end Sys2Proof.Machine
end

