-- ==== Sys2Proof/Machine/Mmio.lean ====
section
/-! DEFINITION. The register blocks of a compute tile (Table 5.3): which unit an address belongs to, the widths it
accepts, and what reads and writes of its registers do (Tables 4.5 to 4.8, 5.8, 5.11, 5.12, 6.3 to 6.5 and 8.4). -/

namespace Sys2Proof.Machine

/-- The unit and the offset in its block that a core address names. -/
inductive MUnit where
  | core (n off : Nat)
  | me (n off : Nat)
  | fence (f off : Nat)
  | eu (n off : Nat)
  | chan (ch off : Nat)
  | bar (b off : Nat)
  deriving DecidableEq, Repr

/-- The unit of a tile at a core address (Table 5.3). -/
def mmioUnit (tile a : Nat) : Option MUnit :=
  if coreCtlBase ≤ a ∧ a < coreCtlBase + 0x2000 then
    some (.core (128 * tile + (a - coreCtlBase) / 0x40) ((a - coreCtlBase) % 0x40))
  else if meBase ≤ a ∧ a < meBase + 0x24000 then some (.me (36 * tile + (a - meBase) / 0x1000) ((a - meBase) % 0x1000))
  else if fenceBase ≤ a ∧ a < fenceBase + 0x2000 then some (.fence ((a - fenceBase) / 8) ((a - fenceBase) % 8))
  else if euBase ≤ a ∧ a < euBase + 0x8000 then some (.eu (8 * tile + (a - euBase) / 0x1000) ((a - euBase) % 0x1000))
  else if dmaBase ≤ a ∧ a < dmaBase + 0x4000 then some (.chan (64 * tile + (a - dmaBase) / 0x100) ((a - dmaBase) % 0x100))
  else if barBase ≤ a ∧ a < barBase + 0x400 then some (.bar ((a - barBase) / 0x10) ((a - barBase) % 0x10))
  else none

/-- Whether the unit is present and not mapped out. -/
def State.unitOk (s : State) (tile : Nat) : MUnit → Bool
  | .core n _ => s.coreOk n
  | .me n _ => s.meOk n
  | .fence _ _ => decide (tile < s.variant.tiles)
  | .eu n _ => s.euOk n
  | .chan ch _ => s.chanOk ch
  | .bar _ _ => decide (tile < s.variant.tiles)

/-- The partition that owns the unit (R153, R420). -/
def State.unitOwner (s : State) : MUnit → Option Nat
  | .core n _ => s.coreOwner n
  | .me n _ => s.meOwner n
  | .fence f _ => s.fenceOwner f
  | .eu n _ => s.euOwner n
  | .chan ch _ => s.chanOwner ch
  | .bar b _ => some (b / 16)

/-! ### Cores' control blocks (R156) -/

/-- SC_CTRL. -/
def Core.ctrl (c : Core) : Nat :=
  4 * (match c.mode with | .halted => 0 | .running => 1 | .waiting => 2 | .faulted => 3) + 16 * b2n c.notify +
    256 * c.lastCause.toNat

/-- The core stopped (R155, R156): a wait is abandoned. -/
def Core.halt (c : Core) : Core := { c with mode := .halted, wait := none, waited := 0 }

/-- A write to SC_CTRL of core n (R156). -/
def State.coreCtl (s : State) (n w : Nat) : State :=
  let c := { s.core n with notify := bit w 4 }
  if bit w 1 then s.setCore n c.halt
  else if bit w 0 && (s.coreOwner n).isSome && (c.mode == .halted || c.mode == .faulted) then
    s.setCore n { c with pc := BitVec.ofNat 18 (4 * c.pcInit.toNat), mode := .running, wait := none }
  else s.setCore n c

/-- A 32-bit word of a core's control block. -/
def Core.ctlWord (c : Core) (off : Nat) : Nat := if off = 0 then c.ctrl else if off = 8 then 4 * c.pcInit.toNat else 0

/-- A 32-bit word of a core's control block written. -/
def State.coreCtlWord (s : State) (n off w : Nat) : State :=
  if off = 0 then s.coreCtl n w
  else if off = 8 then s.setCore n { s.core n with pcInit := BitVec.ofNat 16 (w / 4) }
  else s

/-! ### Barriers (R153) -/

/-- Barrier b of a tile. -/
def State.bar (s : State) (tile b : Nat) : Bar := Tab.get {} s.bars (64 * tile + b)

/-- The state with a barrier replaced. -/
def State.setBar (s : State) (tile b : Nat) (x : Bar) : State := { s with bars := Tab.put {} s.bars (64 * tile + b) x }

/-- A write to BAR_CNT (R153): ignored and counted during a round; a reserved count leaves the field (R13). -/
def State.barWrite (s : State) (tile b w by_ : Nat) : State :=
  let x := s.bar tile b
  if x.arrived ≠ 0 then s.count cScBarBusyWrite by_ 1
  else if 128 < w % 256 then s
  else s.setBar tile b { x with count := w % 256 }

/-! ### Status and error registers -/

/-- ME_Q_STATUS (Table 4.6). -/
def State.meStatus (s : State) (n : Nat) : Nat :=
  let e := s.engine n
  let waiting := match e.queue with
    | q :: _ => if !e.headed || s.meReady n (meDesc q.word) then 0 else 256 + 512 * (meDesc q.word).cls
    | [] => 0
  (64 - e.queue.length) + 128 * b2n e.run.isSome + waiting + 2048 * b2n e.overflow

/-- EU_Q_STATUS (Table 8.4). -/
def State.euStatus (s : State) (n : Nat) : Nat :=
  let e := s.eu n
  (32 - e.queue.length) + 64 * b2n e.run.isSome + 128 * b2n (s.euWaiting n) + 256 * b2n e.overflow

/-- ME_ERR and EU_ERR (Tables 4.7, 8.4). -/
def errWord (code tag : Nat) (valid more : Bool) : Nat := code + 16 * b2n valid + 32 * b2n more + 2 ^ 20 * tag

/-- A write to ME_ERR. -/
def Engine.clearErr (e : Engine) (w : Nat) : Engine :=
  let e := if bit w 4 then { e with errValid := false, errCode := 0, errTag := 0 } else e
  if bit w 5 then { e with errMore := false } else e

/-- A write to EU_ERR. -/
def Eu.clearErr (e : Eu) (w : Nat) : Eu :=
  let e := if bit w 4 then { e with errValid := false, errCode := 0, errTag := 0 } else e
  if bit w 5 then { e with errMore := false } else e

/-! ### DMA channel blocks (Tables 6.3 to 6.5) -/

/-- Register i of a set. -/
def DmaSet.read (d : DmaSet) (i : Nat) : Nat :=
  if i = 0 then d.src.toNat else if i = 1 then d.dst.toNat else if i = 2 then d.len.toNat else if i = 3 then d.mode.toNat
  else if i = 4 then d.burst.toNat else if i = 5 then d.reqSel.toNat else if i = 6 then d.op.toNat else d.fill.toNat

/-- The register of a set at an offset of Table 6.3, with its width in bytes. -/
def dmaReg (off : Nat) : Option (Nat × Nat) :=
  if off = 0 then some (0, 8) else if off = 8 then some (1, 8) else if off = 0x10 then some (2, 8)
  else if off = 0x18 then some (3, 4) else if off = 0x1C then some (4, 4) else if off = 0x20 then some (5, 4)
  else if off = 0x24 then some (6, 4) else if off = 0x28 then some (7, 8) else none

/-- DMA_CH_STATUS (Table 6.5). -/
def State.dmaStatus (s : State) (ch : Nat) : Nat :=
  let c := s.chan ch
  let owner := s.chanOwner ch
  (match c.mode with | .idle => 0 | .running => 1 | .held => 2) + 4 * b2n c.armed + 8 * b2n c.lateWrite +
    16 * b2n c.shadowBusy + 32 * b2n c.activeBusy + 64 * b2n c.mismatch + 128 * b2n owner.isSome + 256 * c.code +
    65536 * c.pend + 2 ^ 30 * owner.getD 0

/-- A write to DMA_CH_STATUS: bits [6:3] are W1C. -/
def Chan.clear (c : Chan) (w : Nat) : Chan :=
  { c with lateWrite := c.lateWrite && !bit w 3, shadowBusy := c.shadowBusy && !bit w 4,
           activeBusy := c.activeBusy && !bit w 5, mismatch := c.mismatch && !bit w 6 }

/-- A write to DMA_CH_CTRL: START before ARM, ARM before ABORT, ABORT before REQ (R176); then the edge after it. -/
def State.dmaCtlWrite (s : State) (ch w : Nat) (r : Requester) (sameEdge : Bool) : State :=
  let s := if bit w 0 then s.dmaStart ch (progCode r) else s
  let s := if bit w 1 then s.dmaArm ch r sameEdge else s
  let s := if bit w 2 then s.dmaAbort ch else s
  let s := if bit w 3 then s.dmaRequest ch sameEdge else s
  s.dmaNextEdge ch

/-- Whether a store to a channel's block falls on the edge of the channel's last hand-over or request: open while that edge can be
the present one (log entry 93). -/
def State.chanEdge (s : State) (ch : Nat) : Bool := ((s.chan ch).crossed || (s.chan ch).reqd) && Config.onEdge s.draws

/-- A store to a channel's block (Tables 6.3 to 6.5). -/
def State.chanWrite (s : State) (ch off v : Nat) (r : Requester) : State :=
  let e := s.chanEdge ch
  let s := { s with draws := s.draws + 1 }
  if off < 0x30 then (match dmaReg off with
    | some (i, _) => s.dmaActive ch i (BitVec.ofNat 64 v)
    | none => s)
  else if 0x40 ≤ off ∧ off < 0x70 then (match dmaReg (off - 0x40) with
    | some (i, _) => s.dmaShadow ch i (BitVec.ofNat 64 v) r e
    | none => s)
  else if off = 0x80 then s.dmaCtlWrite ch v r e
  else if off = 0x84 then s.setChan ch ((s.chan ch).clear v)
  else s

/-! ### Reads and writes by unit -/

/-- What a read of `size` bytes of a unit's block gives; none where the block does not accept the width. -/
def State.unitRead (s : State) (tile : Nat) (u : MUnit) (size : Nat) : Option Nat :=
  match u with
  | .core n off =>
    if size = 4 then some ((s.core n).ctlWord off)
    else if size = 8 then some ((s.core n).ctlWord off + 2 ^ 32 * (s.core n).ctlWord (off + 4)) else none
  | .me n off =>
    let e := s.engine n
    if off < 0x40 then (if size = 64 then some 0 else none)
    else if size ≠ 4 then none
    else if off = 0x40 then some (s.meStatus n)
    else if off = 0x48 then some (errWord e.errCode e.errTag e.errValid e.errMore)
    else if off = 0x54 then some e.headTag else some 0
  | .fence f off => if size = 4 then some (if off = 0 then s.fenceVal tile f else 0) else none
  | .eu n off =>
    let e := s.eu n
    if off < 0x40 then (if size = 64 then some 0 else none)
    else if size ≠ 4 then none
    else if off = 0x40 then some (s.euStatus n)
    else if off = 0x48 then some (errWord e.errCode e.errTag e.errValid e.errMore)
    else if off = 0x54 then some e.headTag else some 0
  | .chan ch off =>
    let c := s.chan ch
    let set := fun (d : DmaSet) (o : Nat) => match dmaReg o with
      | some (i, w) => if size = w then some (d.read i) else none
      | none => if size = 4 ∨ size = 8 then some 0 else none
    if off < 0x30 then set c.act off
    else if 0x40 ≤ off ∧ off < 0x70 then set c.shw (off - 0x40)
    else if off = 0x80 then (if size = 4 then some 0 else none)
    else if off = 0x84 then (if size = 4 then some (s.dmaStatus ch) else none)
    else if off = 0x88 then (if size = 8 then some c.progress.toNat else none)
    else if off = 0x90 then (if size = 8 then some c.count.toNat else none)
    else if off = 0x98 then (if size = 8 then some c.first.toNat else none)
    else if size = 4 ∨ size = 8 then some 0 else none
  | .bar b off =>
    if size ≠ 4 then none
    else if off = 0 then some (s.bar tile b).count else if off = 4 then some (s.bar tile b).arrived else some 0

/-- What a read of a unit's block does beside giving its value: a read of STATUS of a channel is noted (R177). -/
def State.unitSeen (s : State) (r : Requester) : MUnit → State
  | .chan ch off => if off = 0x84 then s.statusSeen r ch else s
  | _ => s

/-- Whether a unit's block accepts a write of `size` bytes (R136, R137). -/
def unitAccepts (u : MUnit) (size : Nat) : Bool :=
  match u with
  | .core _ _ => size == 4 || size == 8
  | .me _ off => if off < 0x40 then off == 0 && size == 64 else size == 4
  | .fence _ _ => size == 4
  | .eu _ off => if off < 0x40 then off == 0 && size == 64 else size == 4
  | .chan _ off =>
    if off < 0x30 ∨ (0x40 ≤ off ∧ off < 0x70) then
      (match dmaReg (if off < 0x30 then off else off - 0x40) with
      | some (_, w) => size == w
      | none => size == 4 || size == 8)
    else if off = 0x80 ∨ off = 0x84 then size == 4
    else if off = 0x88 ∨ off = 0x90 ∨ off = 0x98 then size == 8
    else size == 4 || size == 8
  | .bar _ _ => size == 4

/-- A write that a unit's block accepts. -/
def State.unitWrite (s : State) (tile : Nat) (u : MUnit) (size v : Nat) (r : Requester) : State :=
  match u with
  | .core n off =>
    let s := s.coreCtlWord n off (v % 2 ^ 32)
    if size = 8 then s.coreCtlWord n (off + 4) (v / 2 ^ 32 % 2 ^ 32) else s
  | .me n off =>
    if off = 0 then s.mePush n (reqCode r) (BitVec.ofNat 512 v)
    else if off = 0x40 then s.setEngine n { s.engine n with overflow := (s.engine n).overflow && !bit v 11 }
    else if off = 0x48 then s.setEngine n ((s.engine n).clearErr v)
    else if off = 0x50 && bit v 0 then s.meFlush n
    else s
  | .fence f off => if off = 0 then s.fenceSet tile f v else s.fenceAdd tile f (v % 2 ^ 32)
  | .eu n off =>
    if off = 0 then s.euPush n (reqCode r) (BitVec.ofNat 512 v)
    else if off = 0x40 then s.setEu n { s.eu n with overflow := (s.eu n).overflow && !bit v 8 }
    else if off = 0x48 then s.setEu n ((s.eu n).clearErr v)
    else if off = 0x50 && bit v 0 then s.euFlush n
    else s
  | .chan ch off => s.chanWrite ch off v r
  | .bar b off =>
    if off = 0 then s.barWrite tile b v (match r with | .core k => k.toNat | _ => 128 * tile) else s

/-- Whether a core's access to a unit is outside its partition (R136, R152). -/
def State.coreForeign (s : State) (k : Nat) (u : MUnit) : Bool :=
  match u with
  | .fence f _ => (s.fenceOwner f).any (fun p => some p != s.coreOwner k)
  | _ => s.unitOwner u != s.coreOwner k

/-- A requester's write to a register block at a core address of a tile (R136, R423, R433): what is not admitted or
not of an accepted width has no effect, and is a core's exception (Table 5.7) or a host's violation where R433 says so. -/
def State.regWrite (s : State) (r : Requester) (tile a size v : Nat) : State :=
  match mmioUnit tile a with
  | none => match r with
    | .core k => if k.toNat / 128 = tile then s.coreFault k.toNat (⟨5, 0, a⟩, none) else s
    | _ => s
  | some u =>
    match r with
    | .core k =>
      if k.toNat / 128 ≠ tile then s
      else if a % size ≠ 0 then s.coreFault k.toNat (⟨4, 0, a⟩, none)
      else if !s.unitOk tile u then s
      else if s.coreForeign k.toNat u then
        s.coreFault k.toNat (⟨5, 0, a⟩, some (if (s.unitOwner u).isSome then 0 else 1))
      else if !unitAccepts u size then s.coreFault k.toNat (⟨5, 0, a⟩, none)
      else s.unitWrite tile u size v r
    | .mc => if s.power == .on && s.unitOk tile u && unitAccepts u size then s.unitWrite tile u size v r else s
    | .host p =>
      let adm := s.grantAccess r tile (s.unitOk tile u) (s.unitOwner u) a
      if !adm.2 then adm.1
      else if unitAccepts u size then adm.1.unitWrite tile u size v r
      else match u with
        | .me _ off => if off < 0x40 then adm.1.violate p.toNat 2 3 (bar2Of tile a) else adm.1
        | .eu _ off => if off < 0x40 then adm.1.violate p.toNat 2 3 (bar2Of tile a) else adm.1
        | _ => adm.1

/-- SC_CTRL_RUN (R156). -/
def scCtrlRun (o : CoreCtlOp) (s : State) : State :=
  s.regWrite o.req (o.core.toNat / 128) (coreCtlBase + 0x40 * (o.core.toNat % 128)) 4 (o.value ||| 1#32).toNat

/-- SC_CTRL_HALT (R156). -/
def scCtrlHalt (o : CoreCtlOp) (s : State) : State :=
  s.regWrite o.req (o.core.toNat / 128) (coreCtlBase + 0x40 * (o.core.toNat % 128)) 4 (o.value ||| 2#32).toNat

/-- BAR_CNT_WRITE (R153). -/
def barCntWrite (o : BarOp) (s : State) : State :=
  s.regWrite o.req o.tile.toNat (barBase + 0x10 * o.b.toNat) 4 o.value.toNat

def execScCtrlRun (o : CoreCtlOp) (s : State) : Out := .next (scCtrlRun o s)
def execScCtrlHalt (o : CoreCtlOp) (s : State) : Out := .next (scCtrlHalt o s)
def execBarCntWrite (o : BarOp) (s : State) : Out := .next (barCntWrite o s)

end Sys2Proof.Machine
end

