-- ==== Sys2Proof/Machine/CoreMem.lean ====
section
/-! DEFINITION. The memory instructions of the steward cores (R135 to R139, R145, R146): the address map of Table 5.3,
the checks of an access in the order of Table 5.7, loads, stores, atomics, and the vector forms. -/

namespace Sys2Proof.Machine

/-- Where a core address lies (Table 5.3): local memory by its key, scratch by its T0 address, the other tile's scratch,
a tile that is absent, a register block, or nowhere. -/
inductive Place where
  | lmem (key : Nat)
  | own (addr : Nat)
  | other (addr : Nat)
  | absent
  | unit (u : MUnit)
  | none_
  deriving DecidableEq, Repr

/-- The place of a core address of core k. -/
def State.place (s : State) (k a : Nat) : Place :=
  let t := k / 128
  if a < 0x40000 then .lmem (k * 2 ^ 18 + a)
  else if 0x100000000 ≤ a ∧ a < 0x100000000 + scratchSize then .own (t * scratchSize + (a - 0x100000000))
  else if 0x200000000 ≤ a ∧ a < 0x200000000 + scratchSize then
    (if s.variant.tiles = 2 then .other ((1 - t) * scratchSize + (a - 0x200000000)) else .absent)
  else match mmioUnit t a with
    | some u => .unit u
    | none => .none_

/-- What an access does. -/
inductive AccKind where
  | load | store | push | atomic
  deriving DecidableEq, Repr

/-- One access: lane, core address, bytes. -/
structure Acc where
  lane : Nat
  addr : Nat
  size : Nat
  deriving DecidableEq, Repr

/-- Whether a scratch access lies outside the range of the core's partition (R136), with the violation's reason. -/
def State.scratchBad (s : State) (k a n : Nat) : Option (Option Nat) :=
  match s.coreOwner k with
  | none => some (some 1)
  | some p => if s.inPart p 0 a n then none else some (some (s.rangeReason p 0 a n))

/-- Whether an offset is in a push register (R137). -/
def MUnit.isPush : MUnit → Bool
  | .me _ off => decide (off < 0x40)
  | .eu _ off => decide (off < 0x40)
  | _ => false

/-- Whether an access raises ACCESS (R135 to R137), and the reason of the violation that it counts, if it is one. -/
def State.accessBad (s : State) (k : Nat) (kind : AccKind) (x : Acc) : Option (Option Nat) :=
  match s.place k x.addr with
  | .lmem _ => none
  | .own a => s.scratchBad k a x.size
  | .other a => if kind = .atomic then some none else s.scratchBad k a x.size
  | .absent => none
  | .none_ => some none
  | .unit u =>
    if kind = .atomic then some none
    else if !s.unitOk (k / 128) u then none
    else if s.coreForeign k u then some (some (if (s.unitOwner u).isSome then 0 else 1))
    else if kind = .load then (if (s.unitRead (k / 128) u x.size).isNone then some none else none)
    else if u.isPush then (if kind = .push then none else some none)
    else if unitAccepts u x.size then none else some none

/-- The exception of a list of accesses, all checked before any is made: the lowest cause, then the lowest lane (R146);
with the violation's reason. -/
def State.accExc (s : State) (k : Nat) (kind : AccKind) (l : List Acc) : Option (Exc × Option Nat) :=
  match l.find? (fun x => decide (x.addr % x.size ≠ 0)) with
  | some x => some (⟨4, x.lane, x.addr⟩, none)
  | none =>
    (l.find? (fun x => (s.accessBad k kind x).isSome)).map
      (fun x => (⟨5, x.lane, x.addr⟩, (s.accessBad k kind x).join))

/-! ### Reads -/

/-- The bytes a checked access reads; an absent unit or tile reads zero (R4). -/
def State.accRead (s : State) (k : Nat) (x : Acc) : List Byte :=
  match s.place k x.addr with
  | .lmem key => s.lmem.readN key x.size
  | .own a => s.memRead 0 a x.size
  | .other a => s.memRead 0 a x.size
  | .unit u =>
    if s.unitOk (k / 128) u then leBytes x.size ((s.unitRead (k / 128) u x.size).getD 0) else List.replicate x.size 0#8
  | _ => List.replicate x.size 0#8

/-- The T0 address of an access to scratch. -/
def Place.t0 : Place → Option Nat
  | .own a => some a
  | .other a => some a
  | _ => none

/-- What error correction reports on the reads of a list of accesses (R139, R200, R201): counted for the memories that
are read, at the addresses that are read. -/
def State.accEcc (s : State) (k : Nat) (l : List Acc) (lce : Nat) (e : Ecc) : State :=
  let isL := fun x => decide (x.addr < 0x40000)
  let hitL := e.ue.filter (fun u => l.any (fun x => isL x && overlaps (alignDown 8 u) 8 x.addr x.size))
  let hitS := l.flatMap (fun x => match (s.place k x.addr).t0 with
    | some a => (e.ue.filter (fun u => overlaps (alignDown 128 u) 128 x.addr x.size)).map
        (fun u => granBase 0 (a - x.addr % 128 + (u - alignDown 128 x.addr)))
    | none => [])
  let old := l.filter (fun x => match s.place k x.addr with
    | .lmem key => s.lmPoisoned key x.size
    | _ => false)
  let s := if l.any isL then (s.count cScLmCe k lce).count cScLmUe k (hitL.length + old.length) else s
  if l.any (fun x => (s.place k x.addr).t0.isSome) then s.noteEcc 0 { e with ue := hitS } false else s

/-- The lowest access that meets poison (R139): an uncorrectable word of local memory, or a poisoned scratch line. -/
def State.accPoison (s : State) (k : Nat) (l : List Acc) (e : Ecc) : Option Acc :=
  l.find? (fun x => match s.place k x.addr with
    | .lmem key => s.lmPoisoned key x.size || e.ue.any (fun u => overlaps (alignDown 8 u) 8 x.addr x.size)
    | .own a => s.poisoned 0 a x.size
    | .other a => s.poisoned 0 a x.size
    | _ => false)

/-- What the reads of a list of accesses do to the registers that they read. -/
def State.accSeen (s : State) (k : Nat) (l : List Acc) : State :=
  l.foldl (fun s x => match s.place k x.addr with
    | .unit u => if s.unitOk (k / 128) u then s.unitSeen (.core (BitVec.ofNat 8 k)) u else s
    | _ => s) s

/-- Loads, in the order of Table 5.7: the checks of all accesses, then their reads, then `f` with their bytes. -/
def State.loads (s : State) (k : Nat) (kind : AccKind) (l : List Acc) (lce : Nat) (e : Ecc)
    (f : State → (Acc → List Byte) → State) : State :=
  match s.accExc k kind l with
  | some x => s.accFault k x
  | none =>
    let s := s.accEcc k l lce e
    match s.accPoison k l e with
    | some x => s.takeExc k ⟨6, x.lane, x.addr⟩
    | none => f (s.accSeen k l) (fun x => s.accRead k x)

/-! ### Writes -/

/-- A checked access writes its bytes. -/
def State.accWrite (s : State) (k : Nat) (x : Acc) (b : List Byte) : State :=
  match s.place k x.addr with
  | .lmem key => s.lmWrite key b
  | .own a => s.memWrite 0 a b
  | .other a => s.memWrite 0 a b
  | .unit u =>
    if s.unitOk (k / 128) u then s.unitWrite (k / 128) u x.size (leNat b) (.core (BitVec.ofNat 8 k)) else s
  | _ => s

/-- Whether a store is one whole write of a push register (R137): `n` accesses, as many as the lanes, that together
cover the 64 bytes of one aligned line. That lanes which do not cover one line raise ACCESS is DEDUCED (log entry 158). -/
def wholeLine (lanes : Nat) (l : List (Acc × List Byte)) : Bool :=
  match l with
  | [] => false
  | (x, _) :: _ =>
    let b := alignDown 64 x.addr
    decide (l.length = lanes) && l.all (fun y => decide (alignDown 64 y.1.addr = b)) &&
      (upTo 64).all (fun i => l.any (fun y => decide (y.1.addr ≤ b + i) && decide (b + i < y.1.addr + y.1.size)))

/-- The bytes of a whole line, each from the access that covers it. -/
def pushLine (l : List (Acc × List Byte)) : Acc × List Byte :=
  let b := match l with | [] => 0 | (x, _) :: _ => alignDown 64 x.addr
  (⟨0, b, 64⟩, (upTo 64).map (fun i => match l.find? (fun y => decide (y.1.addr ≤ b + i) && decide (b + i < y.1.addr + y.1.size)) with
    | some y => byteAt y.2 (b + i - y.1.addr)
    | none => 0#8))

/-- Stores, all checked before any is made, then made in ascending lane order; `whole`: the instruction may push, and its accesses
are one line (R137). A lane on a push register of a mapped-out unit is ignored alone (R4). -/
def State.stores (s : State) (k : Nat) (whole : Bool) (l : List (Acc × List Byte)) : State :=
  match s.accExc k (if whole then .push else .store) (l.map (·.1)) with
  | some x => s.accFault k x
  | none =>
    let push := whole && l.any (fun y => match s.place k y.1.addr with
      | .unit u => u.isPush
      | _ => false)
    let l' := if push then [pushLine l] else l
    let s := l'.foldl (fun s y => s.accWrite k y.1 y.2) s
    s.setCore k (s.core k).advance

/-! ### Scalar loads and stores -/

/-- BASE + size × IMM (R141). -/
def memAddr (c : Core) (base : BitVec 5) (imm : Half) (n : Nat) : Nat :=
  ((c.getX base).toNat + wrap 64 (n * imm.toInt)) % 2 ^ 64

/-- A scalar load of n bytes, extended by `ext`. -/
def State.load (s : State) (o : OpL) (n : Nat) (ext : Nat → Word64) : State :=
  s.onCore o.core (fun s c =>
    let x : Acc := ⟨0, memAddr c o.src1 o.imm n, n⟩
    s.loads o.core.toNat .load [x] o.lce o.ecc (fun s rd =>
      s.finishCore o.core (.ok ((s.core o.core.toNat).setX o.dst (ext (leNat (rd x)))))))

/-- A scalar store of the low n bytes of DATA. -/
def State.store (s : State) (o : OpI) (n : Nat) : State :=
  s.onCore o.core (fun s c =>
    s.stores o.core.toNat false [(⟨0, memAddr c o.src1 o.imm n, n⟩, leBytes n (c.getX o.dst).toNat)])

/-- Sign extension from n bytes. -/
def signExt (n v : Nat) : Word64 := BitVec.ofInt 64 (sext (8 * n) v)

def execLb (o : OpL) (s : State) : Out := .next (s.load o 1 (signExt 1))
def execLbu (o : OpL) (s : State) : Out := .next (s.load o 1 (BitVec.ofNat 64))
def execLh (o : OpL) (s : State) : Out := .next (s.load o 2 (signExt 2))
def execLhu (o : OpL) (s : State) : Out := .next (s.load o 2 (BitVec.ofNat 64))
def execLw (o : OpL) (s : State) : Out := .next (s.load o 4 (signExt 4))
def execLwu (o : OpL) (s : State) : Out := .next (s.load o 4 (BitVec.ofNat 64))
def execLd (o : OpL) (s : State) : Out := .next (s.load o 8 (BitVec.ofNat 64))
def execSb (o : OpI) (s : State) : Out := .next (s.store o 1)
def execSh (o : OpI) (s : State) : Out := .next (s.store o 2)
def execSw (o : OpI) (s : State) : Out := .next (s.store o 4)
def execSd (o : OpI) (s : State) : Out := .next (s.store o 8)

/-! ### Atomics -/

/-- A 64-bit atomic at address SRC1: `f old operand dst` is the value stored, or none; DST receives the old value. -/
def State.amo (s : State) (o : OpAmo) (f : Word64 → Word64 → Word64 → Option Word64) : State :=
  s.onCore o.core (fun s c =>
    let k := o.core.toNat
    let x : Acc := ⟨0, (c.getX o.src1).toNat, 8⟩
    s.loads k .atomic [x] o.lce o.ecc (fun s rd =>
      let old := BitVec.ofNat 64 (leNat (rd x))
      let s := match f old (c.getX o.src2) (c.getX o.dst) with
        | some w => s.accWrite k x (leBytes 8 w.toNat)
        | none => s
      s.setCore k ((s.core k).setX o.dst old).advance))

def execAmoadd (o : OpAmo) (s : State) : Out := .next (s.amo o (fun a b _ => some (a + b)))
def execAmoswap (o : OpAmo) (s : State) : Out := .next (s.amo o (fun _ b _ => some b))
def execAmocas (o : OpAmo) (s : State) : Out := .next (s.amo o (fun a b d => if a = d then some b else none))
def execAmoand (o : OpAmo) (s : State) : Out := .next (s.amo o (fun a b _ => some (a &&& b)))
def execAmoor (o : OpAmo) (s : State) : Out := .next (s.amo o (fun a b _ => some (a ||| b)))
def execAmomin (o : OpAmo) (s : State) : Out := .next (s.amo o (fun a b _ => some (if b.slt a then b else a)))
def execAmomax (o : OpAmo) (s : State) : Out := .next (s.amo o (fun a b _ => some (if a.slt b then b else a)))

/-! ### Vector loads and stores -/

/-- VLD: 64 bytes at BASE + 64 × IMM. -/
def execVld (o : OpL) (s : State) : Out :=
  .next (s.onCore o.core (fun s c =>
    let x : Acc := ⟨0, memAddr c o.src1 o.imm 64, 64⟩
    s.loads o.core.toNat .load [x] o.lce o.ecc (fun s rd =>
      s.finishCore o.core (.ok ((s.core o.core.toNat).setV o.dst (BitVec.ofNat 512 (leNat (rd x))))))))

/-- VST. -/
def execVst (o : OpI) (s : State) : Out :=
  .next (s.onCore o.core (fun s c =>
    s.stores o.core.toNat true [(⟨0, memAddr c o.src1 o.imm 64, 64⟩, leBytes 64 (c.getV o.dst).toNat)]))

/-- The accesses of the active lanes: lane i of element type ET at `at_ i`. -/
def laneAccs (et : BitVec 3) (p : Word64) (at_ : Nat → Nat) : List Acc :=
  ((upTo (etLanes et)).filter (laneOn p)).map (fun i => ⟨i, at_ i % 2 ^ 64, etWidth et / 8⟩)

/-- SRC1 + i × x[SRC2]. -/
def strideAt (c : Core) (src1 src2 : BitVec 5) (i : Nat) : Nat := (c.getX src1).toNat + i * (c.getX src2).toNat

/-- SRC1 + lane i of vector SRC2 as an INT32 byte offset (log entry 32). -/
def gatherAt (c : Core) (src1 src2 : BitVec 5) (i : Nat) : Nat :=
  (c.getX src1).toNat + wrap 64 (sext 32 (laneOf (c.getV src2) 32 i))

/-- A predicated vector load. -/
def State.vLoad (s : State) (o : OpVL) (bad : Option Exc) (at_ : Core → Nat → Nat) : State :=
  s.onCore o.core (fun s c =>
    let k := o.core.toNat
    match bad with
    | some e => s.takeExc k e
    | none =>
      let p := c.getP o.pred
      let w := etWidth o.et
      s.loads k .load (laneAccs o.et p (at_ c)) o.lce o.ecc (fun s rd =>
        s.finishCore o.core (.ok ((s.core k).setV o.dst (mapLanes o.et o.zm p (c.getV o.dst)
          (fun i => leNat (rd ⟨i, at_ c i % 2 ^ 64, w / 8⟩)))))))

/-- A predicated vector store. -/
def State.vStore (s : State) (o : OpV) (bad : Option Exc) (at_ : Core → Nat → Nat) : State :=
  s.onCore o.core (fun s c =>
    let k := o.core.toNat
    match bad with
    | some e => s.takeExc k e
    | none =>
      let w := etWidth o.et
      let l := (laneAccs o.et (c.getP o.pred) (at_ c)).map (fun x => (x, leBytes (w / 8) (laneOf (c.getV o.dst) w x.lane)))
      s.stores k (wholeLine (etLanes o.et) l) l)

/-- ET of a strided access: an element type (R141). -/
def stridedEt (et : BitVec 3) : Option Exc := if etOk et then none else some excIllegal

/-- ET of a gather or scatter: 0, 3 or 6, else BAD_FORMAT (Table 5.7). -/
def gatherEt (et : BitVec 3) : Option Exc := if et = 0#3 ∨ et = 3#3 ∨ et = 6#3 then none else some excFormat

def execVlds (o : OpVL) (s : State) : Out :=
  .next (s.vLoad o (stridedEt o.et) (fun c i => strideAt c o.src1 o.src2 i))
def execVsts (o : OpV) (s : State) : Out :=
  .next (s.vStore o (stridedEt o.et) (fun c i => strideAt c o.src1 o.src2 i))
def execVgath (o : OpVL) (s : State) : Out :=
  .next (s.vLoad o (gatherEt o.et) (fun c i => gatherAt c o.src1 o.src2 i))
def execVscat (o : OpV) (s : State) : Out :=
  .next (s.vStore o (gatherEt o.et) (fun c i => gatherAt c o.src1 o.src2 i))

end Sys2Proof.Machine
end

