-- ==== Sys2Proof/Machine/CoreSys.lean ====
section
/-! DEFINITION. Fences, waits, mailboxes, control registers and system instructions of the steward cores (R138, R145,
R147 to R155). -/

namespace Sys2Proof.Machine

/-! ### Fences of memory order (R138): every earlier command has taken effect, so they only advance -/

def execFenceLocal (o : OpA) (s : State) : Out := .next (s.onRegs o.core (fun c => .ok c))
def execFenceTile (o : OpA) (s : State) : Out := .next (s.onRegs o.core (fun c => .ok c))
def execFenceAll (o : OpA) (s : State) : Out := .next (s.onRegs o.core (fun c => .ok c))

/-! ### Waits (R151 to R154) -/

/-- The core waits. -/
def Core.await (c : Core) (w : Wait) : Core := { c with mode := .waiting, wait := some w, waited := 0 }

/-- WEDGE: the next tick edge. -/
def execWedge (o : OpA) (s : State) : Out :=
  .next (s.onCore o.core (fun s c => s.setCore o.core.toNat (c.await .edge)))

/-- WTICK's condition (R151): (target − tick) modulo 2^48 in 1 to 2^47 − 1. -/
def tickAhead (target now : Nat) : Bool :=
  let d := (target + 2 ^ 48 - now % 2 ^ 48) % 2 ^ 48
  decide (1 ≤ d) && decide (d < 2 ^ 47)

def execWtick (o : OpA) (s : State) : Out :=
  .next (s.onCore o.core (fun s c =>
    let t := (c.getX o.src1).toNat % 2 ^ 48
    s.setCore o.core.toNat (if tickAhead t s.clk.seen then c.await (.tick t) else c.advance)))

/-- WFENCE (R152). A fence of another partition raises ACCESS without a violation, and SC_EADDR is 0: DEDUCED (log entry 186). -/
def execWfence (o : OpA) (s : State) : Out :=
  .next (s.onCore o.core (fun s c =>
    let k := o.core.toNat
    let f := (c.getX o.src1).toNat
    let v := (c.getX o.src2).toNat % 2 ^ 32
    if 1023 < f ∨ (s.fenceOwner f).any (fun p => some p != s.coreOwner k) then s.takeExc k ⟨5, 0, 0⟩
    else if fenceSat (s.fenceVal (k / 128) f) v then s.setCore k c.advance
    else s.setCore k (c.await (.fence f v))))

/-- Whether a core waits at barrier b of a tile. -/
def waitsAt (tile b k : Nat) (c : Core) : Bool := k / 128 == tile && c.wait == some (.bar b)

/-- BAR (R153): a barrier of another partition, or a number above 63, raises ACCESS (log entry 36). -/
def execBar (o : OpA) (s : State) : Out :=
  .next (s.onCore o.core (fun s c =>
    let k := o.core.toNat
    let t := k / 128
    let b := (c.getX o.src1).toNat
    if 63 < b then s.takeExc k ⟨5, 0, 0⟩
    else if s.coreOwner k ≠ some (b / 16) then
      let s := match s.coreOwner k with
        | some p => s.violate p 5 (if s.ptEnabled (b / 16) then 0 else 1) (barBase + 16 * b)
        | none => s
      s.takeExc k ⟨5, 0, barBase + 16 * b⟩
    else
      let x := s.bar t b
      if x.count = 0 then s.setCore k c.advance
      else if x.arrived + 1 < x.count then
        (s.setBar t b { x with arrived := x.arrived + 1 }).setCore k (c.await (.bar b))
      else
        ((s.setBar t b { x with arrived := 0 }).setCore k c.advance).resumeCores (waitsAt t b)))

/-- WAIT_TIMEOUT (R154): a wait of SC_WAIT_LIMIT tick edges ends with the exception; a barrier's arrival is withdrawn,
since the faulting instruction changes no unit state (R145, log entry 37). -/
def execWaitTimeout (o : OpK) (s : State) : Out :=
  let k := o.core.toNat
  let c := s.core k
  .next (if s.coreOk k && c.mode == .waiting && c.wait != some .edge && c.waitLimit != 0#64 &&
      decide (c.waitLimit.toNat ≤ c.waited) then
    let s := match c.wait with
      | some (.bar b) => s.setBar (k / 128) b { s.bar (k / 128) b with arrived := (s.bar (k / 128) b).arrived - 1 }
      | _ => s
    s.takeExc k ⟨9, 0, 0⟩
  else s)

/-! ### Mailboxes (R147 to R149) -/

def execRecv (o : OpA) (s : State) : Out :=
  .next (s.onCore o.core (fun s c => s.setCore o.core.toNat (match c.mbx with
    | [] => c.await (.recv o.dst)
    | w :: r => ({ c with mbx := r }.setX o.dst w).advance)))

def execTryrecv (o : OpA) (s : State) : Out :=
  .next (s.onCore o.core (fun s c => s.setCore o.core.toNat (match c.mbx with
    | [] => (c.setX o.dst 0#64).advance
    | w :: r => ({ c with mbx := r }.setX o.dst w).advance)))

/-- SEND's outcome (R149). -/
def State.sendOutcome (s : State) (k t : Nat) : Nat :=
  if 255 < t || !s.coreOk t || s.coreOwner t != s.coreOwner k then 2
  else if 64 ≤ (s.core t).mbx.length then 1 else 0

def execSend (o : OpA) (s : State) : Out :=
  .next (s.onCore o.core (fun s c =>
    let k := o.core.toNat
    let t := (c.getX o.src1).toNat
    let r := s.sendOutcome k t
    let s := s.setCore k (c.setX o.dst (BitVec.ofNat 64 r)).advance
    if r = 0 then s.mbxPost t 4 k ((c.getX o.src2).toNat % 2 ^ 32) else s))

/-! ### Control registers (R155, Tables 5.9 and 5.10) -/

/-- SC_STATUS. -/
def State.scStatus (s : State) (k : Nat) : Nat :=
  let o := s.coreOwner k
  k + 256 * (k / 128) + 512 * o.getD 0 + 2048 * b2n o.isSome + 4096 * b2n (s.core k).inh

/-- SC_CYCLE of a tile's cores: the whole ACLK cycles of the ticks that ended, and those of the present tick. -/
def State.scCycle (s : State) (tile : Nat) : Nat :=
  let c := Tab.get ({} : CtClk) s.health.clk tile
  c.cyc / 10000 + c.into

/-- Time passes before an instruction of core k reads SC_CYCLE: a number of cycles that stays within the tick, else open (log
entry 15). -/
def State.cyclesPass (s : State) (k : Nat) : State :=
  let c := Tab.get ({} : CtClk) s.health.clk (k / 128)
  let left := c.mhz * s.clk.len * 64 / 10000 - c.into
  let c := { c with into := c.into + Config.cyclesPassed s.draws % (left + 1) }
  { s with draws := s.draws + 1, health := { s.health with clk := Tab.put {} s.health.clk (k / 128) c } }

/-- The value of a listed control register. -/
def State.csrRead (s : State) (k n : Nat) : Option Word64 :=
  let c := s.core k
  if n = 0x000 then some (BitVec.ofNat 64 (s.scStatus k))
  else if n = 0x001 then some (c.epc.zeroExtend 64)
  else if n = 0x002 then some (c.cause.zeroExtend 64)
  else if n = 0x003 then some c.eaddr
  else if n = 0x004 then some (c.tvec.zeroExtend 64)
  else if n = 0x005 then some (c.frm.zeroExtend 64)
  else if n = 0x006 then some (c.fflags.zeroExtend 64)
  else if n = 0x010 then some (BitVec.ofNat 64 (s.clk.seen % 2 ^ 48))
  else if n = 0x011 then some (BitVec.ofNat 64 (s.scCycle (k / 128)))
  else if n = 0x012 then some c.instret
  else if n = 0x013 then
    some (BitVec.ofNat 64 (s.stepId % 2 ^ 32 + 2 ^ 32 * (s.sched.state % 256) + 2 ^ 40 * (s.sched.repeats % 256) +
      2 ^ 48 * (s.sched.lastCause % 256)))
  else if n = 0x014 then some (BitVec.ofNat 64 (s.dnum 0x60000A % 2 ^ 32))
  else if n = 0x020 then some c.waitLimit
  else if n = 0x021 then some (BitVec.ofNat 64 (c.mbx.length + 128 * b2n c.ovf))
  else none

/-- The low w bits of a word, with bits [1:0] zero: an address in local memory. -/
def lmAddr (w : Word64) : BitVec 18 := BitVec.ofNat 18 (w.toNat - w.toNat % 4)

/-- A control register written; writes to RO registers and fields are ignored. -/
def Core.csrPut (c : Core) (n : Nat) (w : Word64) : Core :=
  if n = 0x001 then { c with epc := lmAddr w }
  else if n = 0x002 then { c with cause := w.truncate 10 }
  else if n = 0x003 then { c with eaddr := w }
  else if n = 0x004 then { c with tvec := lmAddr w }
  else if n = 0x005 then { c with frm := w.truncate 3 }
  else if n = 0x006 then { c with fflags := w.truncate 5 }
  else if n = 0x020 then { c with waitLimit := w }
  else if n = 0x021 then { c with ovf := c.ovf && !w.getLsbD 7 }
  else c

/-- A control register instruction that writes: `f old src` is what is written. -/
def State.csrWrite (s : State) (o : OpCsr) (f : Word64 → Word64 → Word64) : State :=
  s.onCore o.core (fun s c =>
    let k := o.core.toNat
    match s.csrRead k o.num.toNat with
    | none => s.takeExc k excIllegal
    | some old => s.setCore k (c.csrPut o.num.toNat (f old (c.getX o.src1))).advance)

def execCsrr (o : OpCsr) (s : State) : Out :=
  .next (s.onCore o.core (fun s c =>
    let k := o.core.toNat
    let s := if o.num = 0x011#12 then s.cyclesPass k else s
    match s.csrRead k o.num.toNat with
    | none => s.takeExc k excIllegal
    | some w => s.setCore k (c.setX o.dst w).advance))

def execCsrw (o : OpCsr) (s : State) : Out := .next (s.csrWrite o (fun _ w => w))

/-- CSRS: the bits of SRC1 are set; the W1C bit of SC_MBX_STATUS takes SRC1's bit (log entry 35). -/
def execCsrs (o : OpCsr) (s : State) : Out :=
  .next (s.csrWrite o (fun old w => if o.num = 0x021#12 then w else old ||| w))

/-- CSRC: the bits of SRC1 are cleared; it writes no 1 to a W1C bit (log entry 35). -/
def execCsrc (o : OpCsr) (s : State) : Out :=
  .next (s.csrWrite o (fun old w => if o.num = 0x021#12 then 0#64 else old &&& ~~~w))

/-! ### System instructions -/

def execEcall (o : OpK) (s : State) : Out := .next (s.onCore o.core (fun s _ => s.takeExc o.core.toNat ⟨7, 0, 0⟩))
def execBreak (o : OpK) (s : State) : Out := .next (s.onCore o.core (fun s _ => s.takeExc o.core.toNat ⟨8, 0, 0⟩))

/-- ERET (R145): outside a handler it is ILLEGAL. -/
def execEret (o : OpK) (s : State) : Out :=
  .next (s.onCore o.core (fun s c =>
    if c.inh then s.setCore o.core.toNat c.eret else s.takeExc o.core.toNat excIllegal))

/-- HALT (R155). -/
def execHalt (o : OpK) (s : State) : Out :=
  .next (s.onCore o.core (fun s c => s.setCore o.core.toNat c.advance.halt))

end Sys2Proof.Machine
end

