-- ==== Sys2Proof/Machine/CoreVec.lean ====
section
/-! DEFINITION. Vector instructions of the steward cores without memory (Table 5.5): integer and FP lanes, fused
multiply-add, conversions (R142, R143), reductions (R144), compares and permutations. -/

namespace Sys2Proof.Machine

/-! ### Lane operations -/

/-- Integer lanes: DST lane = f w SRC1 SRC2 on lanes as numbers; an ET that is no integer type is ILLEGAL. -/
def State.vInt (s : State) (o : OpV) (f : Nat → Nat → Nat → Nat) : State :=
  s.onRegs o.core (fun c =>
    if !etInt o.et then .error excIllegal
    else
      let w := etWidth o.et
      let a := c.getV o.src1
      let b := c.getV o.src2
      .ok (c.setV o.dst (mapLanes o.et o.zm (c.getP o.pred) (c.getV o.dst) (fun i => f w (laneOf a w i) (laneOf b w i)))))

/-- FP lanes with the lanes of SRC1, SRC2 and DST, and flags; an ET that is no FP type is ILLEGAL. -/
def State.vFp (s : State) (o : OpV) (rounds : Bool) (f : Rnd → Fmt → Nat → Nat → Nat → FRes) : State :=
  s.onRegs o.core (fun c =>
    if !etFp o.et then .error excIllegal
    else
      let go := fun (r : Rnd) =>
        let w := etWidth o.et
        let a := c.getV o.src1
        let b := c.getV o.src2
        let d := c.getV o.dst
        let p := c.getP o.pred
        let res := fun i => f r (etFmt o.et) (laneOf a w i) (laneOf b w i) (laneOf d w i)
        (Except.ok ((c.setV o.dst (mapLanes o.et o.zm p d (fun i => (res i).bits))).addFlags
          (laneFlags o.et p (fun i => (res i).flags))) : Except Exc Core)
      if rounds then c.withRnd go else go .rne)

/-- A signed operation on lanes of width w, wrapped. -/
def sLane (f : Int → Int → Int) (w a b : Nat) : Nat := wrap w (f (sext w a) (sext w b))

/-- Saturating signed addition (VADDS). -/
def satAdd (w a b : Nat) : Nat :=
  let h : Int := (2 ^ (w - 1) : Nat)
  wrap w (clampI (-h) (h - 1) (sext w a + sext w b))

/-- |a|; of the most negative value an open value (log entry 26). -/
def laneAbs (w a : Nat) : Nat := if a = 2 ^ (w - 1) then Config.vabsMin w else (sext w a).natAbs

/-- A lane shift by less than the width; by more an open value (log entry 27). -/
def laneShift (op w a b : Nat) : Nat :=
  if w ≤ b then Config.vshiftOver op w a b
  else if op = 9 then a * 2 ^ b
  else if op = 10 then a / 2 ^ b
  else wrap w (sext w a / ((2 ^ b : Nat) : Int))

def execVadd (o : OpV) (s : State) : Out := .next (s.vInt o (fun _ a b => a + b))
def execVsub (o : OpV) (s : State) : Out := .next (s.vInt o (sLane (fun a b => a - b)))
def execVmul (o : OpV) (s : State) : Out := .next (s.vInt o (fun _ a b => a * b))
def execVmin (o : OpV) (s : State) : Out := .next (s.vInt o (sLane min))
def execVmax (o : OpV) (s : State) : Out := .next (s.vInt o (sLane max))
def execVminu (o : OpV) (s : State) : Out := .next (s.vInt o (fun _ a b => min a b))
def execVmaxu (o : OpV) (s : State) : Out := .next (s.vInt o (fun _ a b => max a b))
def execVand (o : OpV) (s : State) : Out := .next (s.vInt o (fun _ a b => a &&& b))
def execVor (o : OpV) (s : State) : Out := .next (s.vInt o (fun _ a b => a ||| b))
def execVxor (o : OpV) (s : State) : Out := .next (s.vInt o (fun _ a b => a ^^^ b))
def execVsll (o : OpV) (s : State) : Out := .next (s.vInt o (laneShift 9))
def execVsrl (o : OpV) (s : State) : Out := .next (s.vInt o (laneShift 10))
def execVsra (o : OpV) (s : State) : Out := .next (s.vInt o (laneShift 11))
def execVabs (o : OpV) (s : State) : Out := .next (s.vInt o (fun w a _ => laneAbs w a))
def execVadds (o : OpV) (s : State) : Out := .next (s.vInt o satAdd)

/-- VDOT4: each INT32 lane of DST adds four INT8 products, with wrap; ET must be 3. -/
def execVdot4 (o : OpV) (s : State) : Out :=
  .next (s.onRegs o.core (fun c =>
    if o.et ≠ 3#3 then .error excIllegal
    else
      let a := c.getV o.src1
      let b := c.getV o.src2
      let d := c.getV o.dst
      let dot := fun i => ((upTo 4).map (fun j => sext 8 (laneOf a 8 (4 * i + j)) * sext 8 (laneOf b 8 (4 * i + j)))).foldl
        (· + ·) (sext 32 (laneOf d 32 i))
      .ok (c.setV o.dst (mapLanes o.et o.zm (c.getP o.pred) d (fun i => wrap 32 (dot i))))))

def execVfadd (o : OpV) (s : State) : Out := .next (s.vFp o true (fun r f a b _ => fAdd .payload f r a b))
def execVfsub (o : OpV) (s : State) : Out := .next (s.vFp o true (fun r f a b _ => fSub .payload f r a b))
def execVfmul (o : OpV) (s : State) : Out := .next (s.vFp o true (fun r f a b _ => fMul .payload f r a b))
def execVfdiv (o : OpV) (s : State) : Out := .next (s.vFp o true (fun r f a b _ => fDiv .payload f r a b))
def execVfsqrt (o : OpV) (s : State) : Out := .next (s.vFp o true (fun r f a _ _ => fSqrt .payload f r a))
def execVfmin (o : OpV) (s : State) : Out := .next (s.vFp o false (fun _ f a b _ => fMinMax f false a b))
def execVfmax (o : OpV) (s : State) : Out := .next (s.vFp o false (fun _ f a b _ => fMinMax f true a b))
/-- VFABS; like VFNEG it changes the sign bit alone, also of a signalling NaN: DEDUCED (log entry 192). -/
def execVfabs (o : OpV) (s : State) : Out := .next (s.vFp o false (fun _ f a _ _ => ⟨fAbs f a, 0⟩))
def execVfneg (o : OpV) (s : State) : Out := .next (s.vFp o false (fun _ f a _ _ => ⟨fNeg f a, 0⟩))

/-- A fused multiply-add with the signs of product and addend inverted where named; a NaN operand keeps its sign. -/
def fFmaS (np nc : Bool) (f : Fmt) (r : Rnd) (a b c : Nat) : FRes :=
  match nanResult .payload f [a, b, c] with
  | some w => ⟨w, fmaNanFlag f a b c⟩
  | none => fFma .payload f r (if np then fNeg f a else a) b (if nc then fNeg f c else c)

def execVfma (o : OpV) (s : State) : Out := .next (s.vFp o true (fun r f a b d => fFmaS false false f r a b d))
def execVfms (o : OpV) (s : State) : Out := .next (s.vFp o true (fun r f a b d => fFmaS false true f r a b d))
def execVfnma (o : OpV) (s : State) : Out := .next (s.vFp o true (fun r f a b d => fFmaS true false f r a b d))

/-! ### Conversions (R142, R143) -/

/-- IEEE flags of converting a value of code `c` to code `d`. -/
def cvtFlags (r : Rnd) (c d w : Nat) : Nat :=
  match unpackCode c w, fmtOfCode d, intOfCode d with
  | .nan _ b, some _, _ => (match fmtOfCode c with
    | some f => if isSignalling f b then 16 else 0
    | none => 0)
  | .inf _, some _, _ => 0
  | .fin n m e, some g, _ => if m = 0 then 0 else (finish g r n m e).flags
  | .fin n m e, none, some k =>
    let q := roundShift r n m (-e)
    let v : Int := if n then -(q.1 : Int) else q.1
    let h : Int := (2 ^ (k - 1) : Nat)
    if v < -h ∨ h ≤ v then 16 else b2n q.2
  | _, none, some _ => 16
  | _, none, none => 0

/-- Whether a code is one that VCVT converts. -/
def vcvtCode (c : Nat) : Bool := decide (c ≤ 4) || (decide (11 ≤ c) && decide (c ≤ 13))

/-- Whether a code names a format at all (Tables 4.3 and 5.6). -/
def namedCode (c : Nat) : Bool := decide (c ≤ 13) || c == 16 || c == 17

/-- The exception of a conversion's fields, when there is one: a code that names no format, or a PART out of range, is
ILLEGAL; a format the instruction does not take is BAD_FORMAT; then the rounding code (R58, R141, log entry 30). -/
def vcvtCheck (from_ to_ rnd part : Nat) : Option Exc :=
  let wf := codeWidth from_
  let wt := codeWidth to_
  if !namedCode from_ || !namedCode to_ ||
      (vcvtCode from_ && vcvtCode to_ && decide (max wf wt / min wf wt ≤ part)) then some excIllegal
  else if !vcvtCode from_ || !vcvtCode to_ then some excFormat
  else if 4 < rnd || (rnd == 4 && !(to_ == 1 || to_ == 3 || to_ == 4)) then some excRounding
  else none

/-- A rounding code 0–4 for an element whose random value under R62 is r; code 4 is RNE while SR is off (R63). -/
def coreRnd (srOn : Bool) (rnd r : Nat) : Rnd := if rnd = 4 then (if srOn then .sr r else .rne) else Rnd.ofCode rnd

/-- The random value of R62 for element `elem` of object `obj` of the core's partition. -/
def State.coreRandom (s : State) (k : Nat) (obj : Half) (elem : Nat) : Nat :=
  srRandom s.stepId (s.byPart k * 65536 + obj.toNat) (s.dnum 0x201002) elem

/-- VCVT (R142): narrower results fill chunk PART of DST, wider ones come from chunk PART of SRC1. Lane i is element `elem + i` of
the object `obj`, which keys its random value (R62, log entry 16). -/
def vcvt (o : OpC) (obj : Half) (elem : Nat) (s : State) : State :=
  s.onCore o.core (fun s c =>
    let fr := o.from_.toNat
    let to_ := o.to_.toNat
    match vcvtCheck fr to_ o.rnd.toNat o.part.toNat with
    | some e => s.takeExc o.core.toNat e
    | none =>
      let srOn := s.dnum 0x201003 == 1
      let ovf8 := s.dnum 0x201001 == 1
      let wf := codeWidth fr
      let wt := codeWidth to_
      let n := 512 / max wf wt
      let first := if wf < wt then o.part.toNat * n else 0
      let src := fun i => laneOf (c.getV o.src1) wf (first + i)
      let rnd := fun i => coreRnd srOn o.rnd.toNat (s.coreRandom o.core.toNat obj (elem + i))
      let res := Counted.mapL (fun i => cvtCore ovf8 (rnd i) fr to_ (src i)) (upTo n)
      let flags := ((upTo n).map (fun i => cvtFlags (rnd i) fr to_ (src i))).foldl (· ||| ·) 0
      let chunk := packElems wt res.val
      let out := if wt < wf then
          let lo := o.part.toNat * (n * wt)
          let d := (c.getV o.dst).toNat
          d - bits d (lo + n * wt - 1) lo * 2 ^ lo + chunk * 2 ^ lo
        else chunk
      (s.finishCore o.core (.ok ((c.setV o.dst (BitVec.ofNat 512 out)).addFlags flags))).countArith (s.byPart o.core.toNat)
        (res.cnt.add { srDemoted := b2n (o.rnd == 4#3 && !srOn) }))

/-- Whether RQ8's SCALE is positive and finite (Table 2.3). -/
def rq8ScaleOk (sc : Nat) : Bool := decide (0 < sc) && decide (sc ≤ fp16Max)

/-- The exception of VCVTB's fields: PART, an odd register of a pair, or a code that names no format is ILLEGAL; a named
format without a block form is BAD_FORMAT (Table 5.6, log entry 30). -/
def vcvtbCheck (fmt part : Nat) (dir odd1 oddD : Bool) : Option Exc :=
  let block := (isMxCode fmt) || fmt == 16
  if !namedCode fmt || (block && decide (part ≠ 0)) || (fmt == 17 && decide (3 < part)) ||
      (block && !dir && odd1) || (block && dir && oddD) then some excIllegal
  else if !(block || fmt == 17) then some excFormat
  else none
where
  isMxCode (c : Nat) : Bool := decide (5 ≤ c) && decide (c ≤ 10)

/-- Lanes of FP32 in a register pair. -/
def pairLanes (c : Core) (r : BitVec 5) : List Nat :=
  (upTo 16).map (laneOf (c.getV r) 32) ++ (upTo 16).map (laneOf (c.getV (r + 1#5)) 32)

/-- 32 FP32 values written to a register pair. -/
def Core.setPair (c : Core) (r : BitVec 5) (ls : List Nat) : Core :=
  (c.setV r (ofLanes 32 (ls.take 16))).setV (r + 1#5) (ofLanes 32 (ls.drop 16))

/-- One value to BS16 at exponent E; beyond int16 an open value (log entry 28). -/
def bs16Code (E x : Nat) : Counted Nat :=
  let q := bsQuantize E x
  let v := q.val.getD bsMarker
  if v = bsMarker ∨ v.natAbs ≤ 32767 then ⟨wrap 16 v, q.cnt⟩ else ⟨Config.bs16Over E x % 65536, q.cnt⟩

/-- An MX element in FP32 (Table 5.6): a NaN element keeps its payload (Table 2.7), and a block with scale 0xFF is NaN. -/
def mxCoreElem (c scale w : Nat) : FRes :=
  match mxElem c scale w with
  | .fin n m e => finish .fp32 .rne n m e
  | .inf n => ⟨withSign .fp32 n Fmt.fp32.infBits, 0⟩
  | .nan n b => match mxFmt c with
    | some f => if scale = 255 then ⟨withSign .fp32 n Fmt.fp32.nanBits, 0⟩ else ⟨nanMove f .fp32 b, snanFlag f [b]⟩
    | none => ⟨withSign .fp32 n Fmt.fp32.nanBits, 0⟩

/-! The IEEE flags of VCVTB (R134), element by element: inexact where rounding moved the value, overflow where it saturated, invalid
for a signalling NaN and for a value that an integer code does not hold (DEDUCED, log entry 154). -/

/-- The flags of an FP32 value rounded to an MX element at exponent X. -/
def mxEncFlags (c : Nat) (X : Int) (u : Unp) : Nat :=
  match u with
  | .fin n m e => match mxFmt c with
    | some f => (finish f .rne n m (e - X)).flags
    | none => let q := roundShift .rne n m (-(e - X + 6)); if 127 < q.1 then 5 else b2n q.2
  | _ => 0

/-- The flags of 32 FP32 values written as an MX block under its scale byte; nothing is rounded in a block with scale 0xFF. -/
def mxBlockFlags (c scale : Nat) (xs : List Nat) : Nat :=
  if scale = 255 then snanFlag .fp32 xs
  else (xs.map (fun x => mxEncFlags c ((scale : Int) - 127) (unpack .fp32 x))).foldl (· ||| ·) 0

/-- The flags of an FP32 value as a BS16 code at exponent E. -/
def bs16Flags (E x : Nat) : Nat :=
  match unpack .fp32 x with
  | .nan .. => snanFlag .fp32 [x]
  | .inf _ => 16
  | .fin n m e => let q := roundShift .rne n m (-(e + 141 - (E : Int))); if 32767 < q.1 then 16 else b2n q.2

/-- The flags of a BS16 code in FP32. -/
def bsDecFlags (E : Nat) (m : Int) : Nat :=
  if m = bsMarker then 0 else (finish .fp32 .rne (decide (m < 0)) m.natAbs ((E : Int) - 141)).flags

/-- The flags of an FP32 value as an RQ8 code under a usable scale and zero point. -/
def rq8EncFlags (sc : Nat) (z : Int) (x : Nat) : Nat :=
  match unpack .fp32 x, unpack .fp16 sc with
  | .fin n m e, .fin _ ms es =>
    let sh := e - es
    let num := if 0 ≤ sh then m * 2 ^ sh.toNat else m
    let den := if 0 ≤ sh then ms else ms * 2 ^ (-sh).toNat
    let v := rneQ (if n then -(num : Int) else num) den + z
    if clampI (-128) 127 v ≠ v then 16 else b2n (num % den != 0)
  | _, _ => 16

/-- The flags of an RQ8 code in FP32. -/
def rq8DecFlags (sc : Nat) (z : Int) (q : Nat) : Nat :=
  let d := sext 8 q - z
  match unpack .fp16 sc with
  | .fin n m e => (finish .fp32 .rne (n != decide (d < 0)) (m * d.natAbs) e).flags
  | .inf _ => if d = 0 then 16 else 0
  | .nan _ b => snanFlag .fp16 [b]

/-- VCVTB under its format, direction and scalar AUX (R143, Table 5.6): the core's new registers and flags, and what it counted.
-/
def vcvtbCore (o : OpC) (c : Core) : Counted Core :=
  let fmt := o.to_.toNat
  let dir := o.rnd.getLsbD 0
  let aux := (c.getX o.from_).toNat
  let lo := 128 * o.part.toNat
  let w := codeWidth fmt
  let src := laneOf (c.getV o.src1)
  let join := fun (f : Nat → Nat) (l : List Nat) => (l.map f).foldl (· ||| ·) 0
  if fmt = 16 then
    let E := aux % 256
    if dir then
      let m := fun i => sext 16 (src 16 i)
      ⟨(c.setPair o.dst ((upTo 32).map (fun i => bsDecode E (m i)))).addFlags (join (fun i => bsDecFlags E (m i)) (upTo 32)), {}⟩
    else
      let xs := pairLanes c o.src1
      let q := Counted.mapL (bs16Code E) xs
      ⟨(c.setV o.dst (ofLanes 16 q.val)).addFlags (join (bs16Flags E) xs), q.cnt⟩
  else if fmt = 17 then
    let sc := aux % 65536
    let z := sext 8 (aux / 65536)
    if dir then
      let b := fun i => src 8 (16 * o.part.toNat + i)
      ⟨(c.setV o.dst (ofLanes 32 ((upTo 16).map (fun i => rq8Dec sc z (b i))))).addFlags
        (join (fun i => rq8DecFlags sc z (b i)) (upTo 16)), {}⟩
    else
      let ok := rq8ScaleOk sc
      let zb := aux / 65536 % 256
      let q := Counted.mapL (fun i =>
        if ok then rq8Elem sc z (src 32 i) else ⟨Config.rq8BadScale sc zb (src 32 i), {}⟩) (upTo 16)
      let fl := join (fun i => if ok then rq8EncFlags sc z (src 32 i) else Config.rq8BadFlags sc zb (src 32 i)) (upTo 16)
      let d := (c.getV o.dst).toNat
      ⟨(c.setV o.dst (BitVec.ofNat 512 (d - bits d (lo + 127) lo * 2 ^ lo + packElems 8 q.val * 2 ^ lo))).addFlags fl, q.cnt⟩
  else if dir then
    let e := fun i => mxCoreElem fmt (aux % 256) (src w i)
    ⟨(c.setPair o.dst ((upTo 32).map (fun i => (e i).bits))).addFlags (join (fun i => (e i).flags) (upTo 32)), {}⟩
  else
    let xs := pairLanes c o.src1
    let q := mxEncode fmt xs
    ⟨((c.setV o.dst (BitVec.ofNat 512 (packElems w q.val.2))).setX o.from_ (BitVec.ofNat 64 q.val.1)).addFlags
      (mxBlockFlags fmt q.val.1 xs), q.cnt⟩

/-- VCVTB (R143). -/
def vcvtb (o : OpC) (s : State) : State :=
  s.onCore o.core (fun s c =>
    match vcvtbCheck o.to_.toNat o.part.toNat (o.rnd.getLsbD 0) (o.src1.getLsbD 0) (o.dst.getLsbD 0) with
    | some e => s.takeExc o.core.toNat e
    | none =>
      let r := vcvtbCore o c
      (s.finishCore o.core (.ok r.val)).countArith (s.byPart o.core.toNat) r.cnt)

def execVcvt (o : OpCvt) (s : State) : Out := .next (vcvt o.op o.obj o.elem s)
def execVcvtb (o : OpC) (s : State) : Out := .next (vcvtb o s)

/-! ### Reductions (R144) -/

/-- A pairwise tree over a list, adjacent values combined at each level. -/
def pairTree {α : Type} (f : α → α → α) : Nat → List α → List α
  | 0, l => l
  | k + 1, l => pairTree f k (pairs l)
where
  pairs : List α → List α
  | a :: b :: r => f a b :: pairs r
  | l => l

/-- The lanes of SRC1, inactive ones as the identity, combined by the tree: six levels serve up to 64 lanes. -/
def reduceLanes (et : BitVec 3) (p : Word64) (v : Vec) (ident : FRes) (f : FRes → FRes → FRes) : FRes :=
  let w := etWidth et
  let ls := (upTo (etLanes et)).map (fun i => if laneOn p i then (⟨laneOf v w i, 0⟩ : FRes) else ident)
  (pairTree f 6 ls).headD ident

/-- Two partial results with their flags. -/
def joinF (f : Nat → Nat → FRes) (a b : FRes) : FRes :=
  let r := f a.bits b.bits
  ⟨r.bits, a.flags ||| b.flags ||| r.flags⟩

/-- A reduction's scalar: FP bits zero-extended, an integer sign-extended (Table 5.5). -/
def reduceOut (et : BitVec 3) (n : Nat) : Word64 :=
  if etFp et then BitVec.ofNat 64 n else BitVec.ofInt 64 (sext (etWidth et) n)

/-- A reduction: `fp` combines FP lanes under a rounding, `int` integer lanes of width w; identities likewise. -/
def State.vRed (s : State) (o : OpV) (rounds : Bool) (idF idI : Fmt → Nat → Nat) (fp : Rnd → Fmt → Nat → Nat → FRes)
    (int : Nat → Nat → Nat → Nat) : State :=
  s.onRegs o.core (fun c =>
    if !etOk o.et then .error excIllegal
    else
      let w := etWidth o.et
      let p := c.getP o.pred
      let v := c.getV o.src1
      if etFp o.et then
        let go := fun (r : Rnd) =>
          let x := reduceLanes o.et p v ⟨idF (etFmt o.et) w, 0⟩ (joinF (fp r (etFmt o.et)))
          (Except.ok ((c.setX o.dst (reduceOut o.et x.bits)).addFlags x.flags) : Except Exc Core)
        if rounds then c.withRnd go else go .rne
      else
        let x := reduceLanes o.et p v ⟨idI (etFmt o.et) w, 0⟩ (joinF (fun a b => ⟨int w a b % 2 ^ w, 0⟩))
        .ok (c.setX o.dst (reduceOut o.et x.bits)))

/-- A bitwise or unsigned combination of lanes, whatever their type. That VRMINU and VRMAXU take the bits of FP lanes as unsigned
numbers is DEDUCED: Table 5.5 lists them without a restriction of ET (log entry 155). -/
def onBits (f : Nat → Nat → Nat) (_ : Rnd) (_ : Fmt) (a b : Nat) : FRes := ⟨f a b, 0⟩

def execVsum (o : OpV) (s : State) : Out :=
  .next (s.vRed o true (fun _ _ => 0) (fun _ _ => 0) (fun r f a b => fAdd .payload f r a b) (fun _ a b => a + b))
/-- VRMIN. A NaN lane gives way to the other operand at each node of the tree: DEDUCED (log entry 185). -/
def execVrmin (o : OpV) (s : State) : Out :=
  .next (s.vRed o false (fun f _ => f.infBits) (fun _ w => 2 ^ (w - 1) - 1) (fun _ f a b => fMinMax f false a b) (sLane min))
/-- VRMAX. A NaN lane gives way to the other operand at each node of the tree: DEDUCED (log entry 185). -/
def execVrmax (o : OpV) (s : State) : Out :=
  .next (s.vRed o false (fun f _ => withSign f true f.infBits) (fun _ w => 2 ^ (w - 1))
    (fun _ f a b => fMinMax f true a b) (sLane max))
def execVrand (o : OpV) (s : State) : Out :=
  .next (s.vRed o false (fun _ w => 2 ^ w - 1) (fun _ w => 2 ^ w - 1) (onBits (· &&& ·)) (fun _ a b => a &&& b))
def execVror (o : OpV) (s : State) : Out :=
  .next (s.vRed o false (fun _ _ => 0) (fun _ _ => 0) (onBits (· ||| ·)) (fun _ a b => a ||| b))
def execVrminu (o : OpV) (s : State) : Out :=
  .next (s.vRed o false (fun _ w => 2 ^ w - 1) (fun _ w => 2 ^ w - 1) (onBits min) (fun _ a b => min a b))
def execVrmaxu (o : OpV) (s : State) : Out :=
  .next (s.vRed o false (fun _ _ => 0) (fun _ _ => 0) (onBits max) (fun _ a b => max a b))

/-! ### Compares (OP 0x36) -/

/-- Predicate DST bit i = compare of lane i; 0 for inactive lanes; a signalling NaN is invalid (log entry 25). -/
def State.vCmp (s : State) (o : OpV) (fp : Fmt → Nat → Nat → Bool) (int : Nat → Nat → Nat → Bool) : State :=
  s.onRegs o.core (fun c =>
    match predOf o.dst with
    | none => .error excIllegal
    | some d =>
      if !etOk o.et then .error excIllegal
      else
        let w := etWidth o.et
        let a := c.getV o.src1
        let b := c.getV o.src2
        let p := c.getP o.pred
        let t := fun i => laneOn p i &&
          (if etFp o.et then fp (etFmt o.et) (laneOf a w i) (laneOf b w i) else int w (laneOf a w i) (laneOf b w i))
        let n := ((upTo (etLanes o.et)).map (fun i => if t i then 2 ^ i else 0)).foldl (· + ·) 0
        let fl := if etFp o.et then
          laneFlags o.et p (fun i => snanFlag (etFmt o.et) [laneOf a w i, laneOf b w i]) else 0
        .ok ((c.setP d (BitVec.ofNat 64 n)).addFlags fl))

/-- An unsigned compare of FP lanes: Table 5.5 makes it false on NaN. That it takes the other lanes' bits as unsigned numbers is
DEDUCED from the mnemonic (log entry 155). -/
def fBits (cmp : Nat → Nat → Bool) (f : Fmt) (a b : Nat) : Bool := !fUnordered f a b && cmp a b

def execVceq (o : OpV) (s : State) : Out := .next (s.vCmp o fEq (fun _ a b => a == b))
def execVcne (o : OpV) (s : State) : Out := .next (s.vCmp o (fun f a b => !fEq f a b) (fun _ a b => a != b))
def execVclt (o : OpV) (s : State) : Out := .next (s.vCmp o fLt (fun w a b => decide (sext w a < sext w b)))
def execVcle (o : OpV) (s : State) : Out := .next (s.vCmp o fLe (fun w a b => decide (sext w a ≤ sext w b)))
def execVcltu (o : OpV) (s : State) : Out :=
  .next (s.vCmp o (fBits (fun a b => decide (a < b))) (fun _ a b => decide (a < b)))
def execVcleu (o : OpV) (s : State) : Out :=
  .next (s.vCmp o (fBits (fun a b => decide (a ≤ b))) (fun _ a b => decide (a ≤ b)))

/-! ### Permutations (OP 0x37) -/

/-- DST lane i = f of the core and i, under the predicate. -/
def State.vPerm (s : State) (o : OpV) (f : Core → Nat → Nat → Nat) : State :=
  s.onRegs o.core (fun c =>
    if !etOk o.et then .error excIllegal
    else .ok (c.setV o.dst (mapLanes o.et o.zm (c.getP o.pred) (c.getV o.dst) (f c (etWidth o.et)))))

def execVbcast (o : OpV) (s : State) : Out := .next (s.vPerm o (fun c _ _ => (c.getX o.src1).toNat))
def execVshuf (o : OpV) (s : State) : Out :=
  .next (s.vPerm o (fun c w i => laneOf (c.getV o.src1) w (laneOf (c.getV o.src2) w i % etLanes o.et)))
def execVslup (o : OpV) (s : State) : Out :=
  .next (s.vPerm o (fun c w i =>
    let n := (c.getX o.src2).toNat
    if i < n then 0 else laneOf (c.getV o.src1) w (i - n)))
def execVsldn (o : OpV) (s : State) : Out :=
  .next (s.vPerm o (fun c w i =>
    let n := (c.getX o.src2).toNat
    if etLanes o.et ≤ i + n then 0 else laneOf (c.getV o.src1) w (i + n)))

/-- The lane that x[SRC2] names: a number at or above the lane count names none of the lanes, which the spec leaves open
(log entry 31). -/
def laneNum (c : Core) (o : OpV) : Nat :=
  let n := (c.getX o.src2).toNat
  if n < etLanes o.et then n else Config.laneOver o.et.toNat n % etLanes o.et

/-- VINS: x[SRC1] into lane x[SRC2], when that lane is active; the other active lanes keep their value. -/
def execVins (o : OpV) (s : State) : Out :=
  .next (s.vPerm o (fun c w i => if i = laneNum c o then (c.getX o.src1).toNat else laneOf (c.getV o.dst) w i))

/-- VEXT: scalar DST = lane x[SRC2] of SRC1, extended to 64 bits as a reduction's result is: DEDUCED (log entry 31). -/
def execVext (o : OpV) (s : State) : Out :=
  .next (s.onRegs o.core (fun c =>
    if !etOk o.et then .error excIllegal
    else .ok (c.setX o.dst (reduceOut o.et (laneOf (c.getV o.src1) (etWidth o.et) (laneNum c o))))))

end Sys2Proof.Machine
end

