-- ==== Sys2Proof/Machine/CoreWord.lean ====
section
/-! DEFINITION. Which 32-bit words are instructions of the steward cores, and which command each spells (R140, R141, R143): the
formats of Table 5.4 and the majors, functions, element types, parts and predicate fields that Table 5.5 lists. -/

namespace Sys2Proof.Machine

/-! ### The fields of Table 5.4 -/

/-- A 5-bit register field from bit `lo`. -/
def regField (w lo : Nat) : BitVec 5 := BitVec.ofNat 5 (w / 2 ^ lo)

/-- Format A. -/
def fmtA (k : BitVec 8) (w : Nat) : OpA := ⟨k, regField w 6, regField w 11, regField w 16⟩

/-- Formats I and M. -/
def fmtI (k : BitVec 8) (w : Nat) : OpI := ⟨k, regField w 6, regField w 11, BitVec.ofNat 16 (w / 2 ^ 16)⟩

/-- Format B: its registers stand one place lower. -/
def fmtB (k : BitVec 8) (w : Nat) : OpB := ⟨k, regField w 6, regField w 11, BitVec.ofNat 16 (w / 2 ^ 16)⟩

/-- Formats J and U. -/
def fmtJ (k : BitVec 8) (w : Nat) : OpJ := ⟨k, regField w 6, BitVec.ofNat 21 (w / 2 ^ 11)⟩

/-- Format V. -/
def fmtV (k : BitVec 8) (w : Nat) : OpV :=
  ⟨k, regField w 6, regField w 11, regField w 16, BitVec.ofNat 3 (w / 2 ^ 25), bit w 24, BitVec.ofNat 3 (w / 2 ^ 21)⟩

/-- Format C. Its unused bits are not looked at, as in every format: DESIGN CHOICE (log entry 30). -/
def fmtC (k : BitVec 8) (w : Nat) : OpC :=
  ⟨k, regField w 6, regField w 11, regField w 16, regField w 21, BitVec.ofNat 3 (w / 2 ^ 26), BitVec.ofNat 3 (w / 2 ^ 29)⟩

/-- What an instruction's execution takes beside its word: the core that issues it, what the error correction of its reads
reports, and the destination of a conversion (R62). -/
structure CoreEnv where
  core : BitVec 8
  lce  : Nat := 0
  ecc  : Ecc
  obj  : Half := 0#16
  elem : Nat := 0
  deriving DecidableEq, Repr

/-! ### Table 5.5, in the order of its functions -/

/-- The functions of a format A major. -/
def aTable (op : Nat) : List (OpA → Instr) :=
  if op = 0x01 then
    [.add, .sub, .and, .or, .xor, .sll, .srl, .sra, .slt, .sltu, .mul, .mulh, .mulhu, .div, .divu, .rem, .remu,
     .min, .max, .clz, .popc]
  else if op = 0x08 then
    [.faddD, .fsubD, .fmulD, .fdivD, .fsqrtD, .fmaD, .fminD, .fmaxD, .feqD, .fltD, .fleD, .fcvtLD, .fcvtDL,
     .fcvtSD, .fcvtDS]
  else if op = 0x39 then
    [.pand, .por, .pxor, .pandn, .pfirst, .pcnt, .pmovx, .pmovp]
  else if op = 0x3C then
    [.fenceLocal, .fenceTile, .fenceAll]
  else if op = 0x3D then
    [.wedge, .wtick, .wfence, .bar]
  else if op = 0x3E then
    [.recv, .tryrecv, .send]
  else []

/-- The functions of a format V major without memory. -/
def vTable (op : Nat) : List (OpV → Instr) :=
  if op = 0x30 then
    [.vadd, .vsub, .vmul, .vmin, .vmax, .vminu, .vmaxu, .vand, .vor, .vxor, .vsll, .vsrl, .vsra, .vabs, .vadds,
     .vdot4]
  else if op = 0x31 then
    [.vfadd, .vfsub, .vfmul, .vfdiv, .vfsqrt, .vfmin, .vfmax, .vfabs, .vfneg]
  else if op = 0x32 then
    [.vfma, .vfms, .vfnma]
  else if op = 0x35 then
    [.vsum, .vrmin, .vrmax, .vrand, .vror, .vrminu, .vrmaxu]
  else if op = 0x36 then
    [.vceq, .vcne, .vclt, .vcle, .vcltu, .vcleu]
  else if op = 0x37 then
    [.vbcast, .vshuf, .vslup, .vsldn, .vins, .vext]
  else []

/-- The command of a format I, M or B major that has one (M loads take what error correction reports). -/
def oneTable (e : CoreEnv) (w : Nat) : Option Instr :=
  let i := fmtI e.core w
  let l : OpL := ⟨e.core, i.dst, i.src1, i.imm, e.lce, e.ecc⟩
  let b := fmtB e.core w
  let op := bits w 5 0
  if op = 0x02 then some (.addi i) else if op = 0x03 then some (.andi i) else if op = 0x04 then some (.ori i)
  else if op = 0x05 then some (.xori i) else if op = 0x07 then some (.lui (fmtJ e.core w)) else if op = 0x09 then some (.slti i)
  else if op = 0x10 then some (.lb l) else if op = 0x11 then some (.lbu l) else if op = 0x12 then some (.lh l)
  else if op = 0x13 then some (.lhu l) else if op = 0x14 then some (.lw l) else if op = 0x15 then some (.lwu l)
  else if op = 0x16 then some (.ld l) else if op = 0x18 then some (.sb i) else if op = 0x19 then some (.sh i)
  else if op = 0x1A then some (.sw i) else if op = 0x1B then some (.sd i) else if op = 0x20 then some (.beq b)
  else if op = 0x21 then some (.bne b) else if op = 0x22 then some (.blt b) else if op = 0x23 then some (.bge b)
  else if op = 0x24 then some (.bltu b) else if op = 0x25 then some (.bgeu b) else if op = 0x26 then some (.jal (fmtJ e.core w))
  else if op = 0x27 then some (.jalr i) else if op = 0x28 then some (.vld l) else if op = 0x29 then some (.vst i)
  else none

/-- The system instructions of OP 0x3F, by IMM[15:12]. -/
def sysTable (k : BitVec 8) (w : Nat) : List Instr :=
  let c : OpCsr := ⟨k, regField w 6, regField w 11, BitVec.ofNat 12 (w / 2 ^ 16)⟩
  [.csrr c, .csrw c, .csrs c, .csrc c, .ecall ⟨k⟩, .brk ⟨k⟩, .eret ⟨k⟩, .halt ⟨k⟩]

/-- The command that a word's OP and function name (Table 5.5). -/
def wordCommand (e : CoreEnv) (w : Nat) : Option Instr :=
  let op := bits w 5 0
  let a := fmtA e.core w
  let v := fmtV e.core w
  let vl : OpVL := ⟨e.core, v.dst, v.src1, v.src2, v.et, v.zm, v.pred, e.lce, e.ecc⟩
  let m : OpAmo := ⟨e.core, a.dst, a.src1, a.src2, e.lce, e.ecc⟩
  if op = 0x06 then (([.slli, .srli, .srai] : List (OpI → Instr))[bits w 23 22]?).map (fun f => f (fmtI e.core w))
  else if op = 0x1C then
    (([.amoadd, .amoswap, .amocas, .amoand, .amoor, .amomin, .amomax] : List (OpAmo → Instr))[bits w 31 21]?).map (fun f => f m)
  else if op = 0x2A then some (.vlds vl) else if op = 0x2B then some (.vsts v)
  else if op = 0x2C then some (.vgath vl) else if op = 0x2D then some (.vscat v)
  else if op = 0x33 then some (.vcvt ⟨fmtC e.core w, e.obj, e.elem⟩) else if op = 0x34 then some (.vcvtb (fmtC e.core w))
  else if op = 0x3F then (sysTable e.core w)[bits w 31 28]?
  else match (aTable op)[bits w 31 21]?, (vTable op)[bits w 31 28]?, oneTable e w with
    | some f, _, _ => some (f a)
    | none, some f, _ => some (f v)
    | none, none, c => c

/-! ### Fields that Table 5.5 lists for a word -/

/-- Whether a word's predicate register fields have zero upper bits (R140): the functions of OP 0x39 in order. -/
def predFieldsOk (w : Nat) : Bool :=
  let fn := bits w 31 21
  let dst := bits w 10 6
  let a := bits w 15 11
  let b := bits w 20 16
  if fn ≤ 3 then decide (dst < 8) && decide (a < 8) && decide (b < 8)
  else if fn = 4 ∨ fn = 7 then decide (dst < 8) else decide (a < 8)

/-- Whether ET is listed for a format V major and function. -/
def etListed (op fn et : Nat) : Bool :=
  if op = 0x30 then (if fn = 15 then et == 3 else decide (3 ≤ et) && decide (et ≤ 6))
  else if op = 0x31 ∨ op = 0x32 then decide (et ≤ 2) else decide (et ≠ 7)

/-- Whether a word's ET, PART, format codes and predicate fields are listed for its OP and function (R140 to R143). -/
def fieldsListed (w : Nat) : Bool :=
  let op := bits w 5 0
  if op = 0x33 then vcvtCheck (bits w 20 16) (bits w 25 21) 0 (bits w 31 29) != some excIllegal
  else if op = 0x34 then vcvtbCheck (bits w 25 21) (bits w 31 29) (bit w 26) (bit w 11) (bit w 6) != some excIllegal
  else if op = 0x2A ∨ op = 0x2B then decide (bits w 27 25 ≠ 7)
  else if op = 0x30 ∨ op = 0x31 ∨ op = 0x32 ∨ op = 0x35 ∨ op = 0x37 then etListed op (bits w 31 28) (bits w 27 25)
  else if op = 0x36 then etListed op (bits w 31 28) (bits w 27 25) && decide (bits w 10 6 < 8)
  else if op = 0x39 then predFieldsOk w
  else true

/-- The command that a core's word spells (Tables 5.4 and 5.5): none where the word is not listed. -/
def decodeWord (e : CoreEnv) (w : Word32) : Option Instr := if fieldsListed w.toNat then wordCommand e w.toNat else none

/-- ILLEGAL_INSTRUCTION (R141): a word that is not listed raises ILLEGAL; a listed word is the command that it spells. -/
def execIllegalInstruction (o : OpIllegal) (s : State) : Out :=
  .next (s.onCore o.core (fun s _ =>
    if (decodeWord ⟨o.core, 0, {}, 0#16, 0⟩ o.word).isSome then s else s.takeExc o.core.toNat excIllegal))

end Sys2Proof.Machine
end

