-- ==== Sys2Proof/Machine/EthPort.lean ====
section
/-! DEFINITION. The Ethernet ports (file 11): modes (R298, R299), counters (R321), the receive MAC and address filter
(R300 to R304), egress queues (R305, R306), priority flow control (R307 to R309) and low-power idle (R311, R312). -/

namespace Sys2Proof.Machine

/-! ### Ports -/

/-- Units of 10 ps in a tick of the nominal length (R72); log entry 42. -/
def tickUnits : Nat := 102400

/-- The instant `at_` units into the tick now open. Instants count from reset, so that no change of the tick number moves them
(log entry 42). -/
def State.inst (s : State) (at_ : Nat) : Nat := s.clk.edges * tickUnits + at_

/-- Units that one byte takes on a port in use: 1, 2 or 4 by Table 11.1, 80 on MG; none for a port not in use (R298). -/
def State.portBt (s : State) (p : Nat) : Option Nat :=
  if p = 192 then some 80
  else if 192 < p ∨ s.quadMode (p / 16) ≠ 2 then none
  else
    let b := s.dnum (dkey 0x4012 (p / 16 + 1))
    if b = 0 then (if p % 4 = 0 then some 1 else none)
    else if b = 1 then (if p % 2 = 0 then some 2 else none) else some 4

/-- The lanes that a port uses, as bits of its link (Table 11.1). -/
def portLanes (p bt : Nat) : Nat := (if bt = 1 then 15 else if bt = 2 then 3 else 1) * 2 ^ (p % 4)

/-- Whether every lane of a port can train: none is mapped out (R299, R497). -/
def State.lanesOk (s : State) (p bt : Nat) : Bool := p == 192 || (s.badLanes (p / 4) &&& portLanes p bt) == 0

/-- The number of a port's mode in Table 13.9: 0 for 800, 1 for 400, 2 for 200 Gbit/s. -/
def btIndex (bt : Nat) : Nat := if bt = 1 then 0 else if bt = 2 then 1 else 2

/-- A port's state. -/
def State.port (s : State) (p : Nat) : EthPort := Tab.get {} s.net.ports p

/-- The state with a port replaced. -/
def State.setPort (s : State) (p : Nat) (x : EthPort) : State :=
  { s with net := { s.net with ports := Tab.put {} s.net.ports p x } }

/-- A bit of ETH_PORT_CFG (Table 11.8). -/
def State.portCfg (s : State) (p i : Nat) : Bool := bit (s.dnum (dkey 0x4201 (p + 1))) i

/-- Whether a port carries frames (R299). -/
def State.portUp (s : State) (p : Nat) : Bool := (s.portBt p).isSome && s.portCfg p 0 && (s.port p).up

/-- ETH_MAX_FRAME of a port. -/
def State.maxFrame (s : State) (p : Nat) : Nat := s.dnum (dkey 0x4204 (p + 1))

/-- ETH_MAC_ADDR of a port in wire order (R527). -/
def State.portMac (s : State) (p : Nat) : List Byte := beBytes 6 (s.dnum (dkey 0x4202 (p + 1)))

/-- Whether PFC makes a traffic class of a port lossless (R307). -/
def State.lossless (s : State) (p tc : Nat) : Bool := decide (tc < 7) && s.portCfg p (8 + tc)

/-- LPI_CAP of a port (R311). -/
def State.lpiCap (s : State) (p : Nat) : Bool :=
  match s.portBt p with
  | some bt => decide (p < 192) && Config.lpiCap bt
  | none => false

/-- The resolved Tw in µs while the partner's TLV lives (R312). -/
def State.resolvedTw (s : State) (p at_ : Nat) : Option Nat :=
  match (s.port p).tw, s.portBt p with
  | some (w, e), some bt => if s.lpiCap p && decide (at_ < e) then some (max w (Config.phyWake bt)) else none
  | _, _ => none

/-- ETH_PORT_STATE (Table 11.8). -/
def State.portState (s : State) (p : Nat) : Nat :=
  match s.portBt p with
  | none => 0
  | some _ =>
    let x := s.port p
    let tw := s.resolvedTw p (s.inst 0)
    (if !s.portCfg p 0 || (p != 192 && !s.running) then 1 else if x.up then 3 else if x.lost then 1 else 2) +
      4 * b2n (s.lpiCap p) + 8 * b2n x.lpiTx + 16 * b2n x.lpiRx + 32 * b2n tw.isSome + 65536 * tw.getD 0

/-! ### Counters (R321) -/

/-- Counter `n` of Table 11.9 raised by k on a port or queue, 32 bits wide; EV_ETH_CNT_HALF when bit 31 rises. -/
def State.ethCountN (s : State) (n inst k : Nat) : State :=
  let c := 0x942000 + n
  let v := s.counter c inst
  let w := (v + k) % 2 ^ 32
  let s := { s with ctr := Tab.put 0 s.ctr (c * 65536 + inst) w }
  if v < 2 ^ 31 && 2 ^ 31 ≤ w then s.raiseDev 0x4201 inst n else s

def State.ethCount (s : State) (n inst : Nat) : State := s.ethCountN n inst 1

/-- The size bin of a length (Table 11.9). -/
def sizeBin (n : Nat) : Nat :=
  if n ≤ 64 then 0 else if n ≤ 127 then 1 else if n ≤ 255 then 2 else if n ≤ 511 then 3 else if n ≤ 1023 then 4
  else if n ≤ 1518 then 5 else if n ≤ 2047 then 6 else if n ≤ 4095 then 7 else if n ≤ 9216 then 8 else 9

/-! ### Frames -/

/-- A frame before its FCS padded to 60 bytes (R305). -/
def padFrame (b : List Byte) : List Byte := b ++ List.replicate (60 - b.length) 0#8

/-- The frame with its FCS inverted (R301). -/
def stompFrame (b : List Byte) : List Byte :=
  b.take (b.length - 4) ++ (b.drop (b.length - 4)).map (fun x => ~~~x)

/-- The destination address as a number. -/
def dstMac (b : List Byte) : Nat := beAt b 0 6

/-- Control frames of the MAC (R303). -/
def isPfc (b : List Byte) : Bool := dstMac b == 0x0180C2000001 && beAt b 12 2 == 0x8808 && beAt b 14 2 == 0x0101
def isPause (b : List Byte) : Bool := dstMac b == 0x0180C2000001 && beAt b 12 2 == 0x8808 && beAt b 14 2 == 1
def isLldp (b : List Byte) : Bool := dstMac b == 0x0180C200000E && beAt b 12 2 == 0x88CC

/-- The counter of a received frame's badness, none for a good one (R300): the first of runt, giant, symbol error and
FCS error. -/
def badKind (maxLen : Nat) (b : List Byte) (sym : Bool) : Option Nat :=
  if b.length < 64 then some 31
  else if maxLen < b.length then some 32
  else if sym then some 30
  else if fcsOf (b.take (b.length - 4)) != b.drop (b.length - 4) then some 29 else none

/-- The type counter of a good received frame (R321). -/
def rxType (b : List Byte) : Nat :=
  if isPause b then 23 else if isPfc b then 24
  else if dstMac b = 2 ^ 48 - 1 then 22 else if bit (dstMac b) 40 then 21 else 20

/-- What the receive MAC counts of a frame (R300, R321). -/
def State.macCount (s : State) (o : EthRxOp) : State :=
  let p := o.port
  let s := (s.ethCountN 33 p o.corr).ethCountN 34 p o.uncorr
  let s := if 64 ≤ o.bytes.length then s.ethCount (sizeBin o.bytes.length) p else s
  match badKind (s.maxFrame p) o.bytes (o.symErr || decide (0 < o.uncorr)) with
  | some c => s.ethCount c p
  | none => s.ethCount (rxType o.bytes) p

/-- Whether a received frame is bad. -/
def State.rxBad (s : State) (o : EthRxOp) : Bool :=
  (badKind (s.maxFrame o.port) o.bytes (o.symErr || decide (0 < o.uncorr))).isSome

/-- The address filter (R304). -/
def State.addrPasses (s : State) (p : Nat) (b : List Byte) : Bool :=
  let d := dstMac b
  if d = 2 ^ 48 - 1 then true
  else if !bit d 40 then d == s.dnum (dkey 0x4202 (p + 1)) || s.portCfg p 2
  else
    let k := crc32 (b.take 6) % 4096
    s.portCfg p 4 || (s.portCfg p 3 && (byteAt (s.dget (dkey 0x4203 (p + 1))) (k / 8)).getLsbD (k % 8))

/-! ### Egress (R299, R301, R305, R306) -/

/-- The egress queue of a port and traffic class. -/
def State.egress (s : State) (p tc : Nat) : List TxItem := Tab.get [] s.net.egress (8 * p + tc)

/-- The state with an egress queue replaced. -/
def State.setEgress (s : State) (p tc : Nat) (l : List TxItem) : State :=
  { s with net := { s.net with egress := Tab.put [] s.net.egress (8 * p + tc) l } }

/-- Whether a port's egress queues are empty. -/
def State.egressEmpty (s : State) (p : Nat) : Bool := (upTo 8).all (fun tc => (s.egress p tc).isEmpty)

/-- The level of a port's processor-path bucket at an instant, in 10^-11 frames; it starts full (R342). -/
def State.bucketAt (s : State) (p at_ : Nat) : Nat :=
  let cap := s.dnum (dkey 0x4304 (p + 1)) * 10 ^ 11
  match (s.port p).bucket with
  | none => cap
  | some (l, t) => min cap (l + s.dnum (dkey 0x4303 (p + 1)) * (at_ - t))

/-- A port's bucket brought up to an instant at the rate and depth in force, before a commit changes them (log entry 170). -/
def State.settleBucket (s : State) (p at_ : Nat) : State :=
  let t := match (s.port p).bucket with
    | none => at_
    | some (_, t) => max t at_
  s.setPort p { s.port p with bucket := some (s.bucketAt p at_, t) }

/-- Egress queues of a port that a command has emptied have been empty since `t` (R312); `had`: they held a frame before it. -/
def State.idleFrom (s : State) (p t : Nat) (had : Bool) : State :=
  if had && s.egressEmpty p then s.setPort p { s.port p with idle := max (s.port p).idle t } else s

/-- A port in transmit LPI is woken: nothing leaves before Tw has passed (R312; log entry 180). -/
def State.wakePort (s : State) (p at_ : Nat) : State :=
  let x := s.port p
  if x.lpiTx then
    s.setPort p { x with lpiTx := false, txEnd := max x.txEnd (at_ + 100000 * (s.resolvedTw p at_).getD x.wake) }
  else s

/-- A frame for a port's egress queue: one of no transmit queue is discarded at a port that is down (R299). A port that is not in
use addresses nothing (R298). -/
def State.egressPut (s : State) (p tc at_ : Nat) (x : TxItem) : State :=
  if (s.portBt p).isNone then s
  else if x.queue.isNone && !s.portUp p then s.ethCount 44 p
  else (s.wakePort p at_).setEgress p tc (s.egress p tc ++ [x])

/-- The counters of a sent frame (R321): its size bin from 64 bytes on, and its type. -/
def State.sentCount (s : State) (p : Nat) (b : List Byte) : State :=
  (if b.length < 64 then s else s.ethCount (10 + sizeBin b.length) p).ethCount
    (if isPfc b then 28 else if dstMac b = 2 ^ 48 - 1 then 27 else if bit (dstMac b) 40 then 26 else 25) p

/-- A frame of the MAC's own, sent at once (R308), padded like any other (R305). In transmit LPI it wakes the port and leaves as
the port's next frame, Tw later (R312). -/
def State.sendNow (s : State) (p at_ : Nat) (b : List Byte) : State :=
  if (s.port p).lpiTx then
    (s.wakePort p at_).setEgress p 7 (⟨0, none, none, b, false, false, at_⟩ :: s.egress p 7)
  else
    let f := padFrame b ++ fcsOf (padFrame b)
    let s := if b.length < 60 then s.ethCount 37 p else s
    (s.emit (.ethFrame p f)).sentCount p f

/-! ### Priority flow control (R307 to R309) -/

/-- A PFC frame of a port: for each priority named, its time in quanta (IEEE 802.1Qbb). -/
def State.pfcFrame (s : State) (p : Nat) (times : List (Nat × Nat)) : List Byte :=
  let t := fun i => ((times.find? (fun e => e.1 == i)).map (·.2))
  beBytes 6 0x0180C2000001 ++ s.portMac p ++ beBytes 2 0x8808 ++ beBytes 2 0x0101 ++
    beBytes 2 ((upTo 8).foldl (fun a i => if (t i).isSome then a + 2 ^ i else a) 0) ++
    (upTo 8).flatMap (fun i => beBytes 2 ((t i).getD 0))

/-- Bytes of a port's lossless frames of a class held in the packet buffer (R308). -/
def State.occupancy (s : State) (p tc : Nat) : Nat :=
  (s.net.queues.map (fun e => match e.2 with
    | some q => ((q.held.filter (fun w => w.port == p && w.tc == tc)).map (·.size)).foldl (· + ·) 0
    | none => 0)).foldl (· + ·) 0

/-- The priorities whose state changes: XOFF reached, or XON reached from above (R308). -/
def State.pfcChanges (s : State) (p : Nat) : List (Nat × Nat) :=
  (upTo 7).filterMap (fun tc =>
    let occ := s.occupancy p tc
    let off := decide (Tab.get 0 (s.port p).xoff tc ≠ 0)
    if !off && s.lossless p tc && decide (1024 * s.dnum (dkey 0x4205 (p + 1)) ≤ occ) then some (tc, 0xFFFF)
    else if off && decide (occ ≤ 1024 * s.dnum (dkey 0x4206 (p + 1))) then some (tc, 0)
    else none)

/-- XOFF times of a port after its priorities changed. -/
def xoffAfter (t : Nat) (ch : List (Nat × Nat)) (x : Tab Nat) : Tab Nat :=
  ch.foldl (fun x e => Tab.put 0 x e.1 (if e.2 = 0 then 0 else t + 1)) x

/-- One PFC frame naming every priority whose state has changed (R308). -/
def State.pfcUpdate (s : State) (p at_ : Nat) : State :=
  let ch := s.pfcChanges p
  if ch.isEmpty then s
  else
    let x := s.port p
    let s := s.setPort p { x with xoff := xoffAfter at_ ch x.xoff }
    if s.portUp p then s.sendNow p at_ (s.pfcFrame p ch) else s

/-- A received PFC frame pauses or resumes the classes it names, TC7 never (R309). -/
def State.pfcAct (s : State) (p at_ : Nat) (b : List Byte) : State :=
  match s.portBt p with
  | none => s
  | some bt =>
    let x := s.port p
    let en := beAt b 16 2
    let ends := (upTo 7).foldl (fun t i =>
      if bit en i then Tab.put 0 t i (if beAt b (18 + 2 * i) 2 = 0 then 0 else at_ + 64 * bt * beAt b (18 + 2 * i) 2)
      else t) x.pause
    s.setPort p { x with pause := ends }

/-- Whether a class of a port is paused at an instant. -/
def State.pausedAt (s : State) (p tc at_ : Nat) : Bool := decide (at_ < Tab.get 0 (s.port p).pause tc)

/-! ### LLDP (R303, R312) -/

/-- The TLVs of an LLDPDU as type and value (IEEE 802.1AB; log entry 43). -/
def lldpTlvs : Nat → List Byte → List (Nat × List Byte)
  | 0, _ => []
  | n + 1, b =>
    if b.length < 2 then []
    else
      let h := beAt b 0 2
      let len := h % 512
      (h / 512, (b.drop 2).take len) :: lldpTlvs n (b.drop (2 + len))

/-- The time-to-live in seconds and the receive wake time in µs of an EEE TLV, when the LLDPDU has them. -/
def lldpEee (b : List Byte) : Option (Nat × Nat) :=
  let t := lldpTlvs 64 (b.drop 14)
  match t.find? (fun e => e.1 == 3), t.find? (fun e => e.1 == 127 && beAt e.2 0 3 == 0x00120F && beAt e.2 3 1 == 5) with
  | some ttl, some eee => some (beAt ttl.2 0 2, beAt eee.2 6 2)
  | _, _ => none

/-- The LLDPDU of a port of rate `bt`: the transmit and the receive wake time of its PHY stand in the EEE TLV (R312; IEEE
802.3). -/
def lldpFrame (p bt : Nat) : List Byte :=
  Config.lldpdu p ++ beBytes 2 (127 * 512 + 14) ++ [0x00#8, 0x12#8, 0x0F#8, 5#8] ++ beBytes 2 (Config.phyWake bt) ++
    beBytes 2 (Config.phyWake bt) ++ Config.lldpTail p

/-- An LLDP frame at the MC (R312). The wake time that a partner last advertised holds for a wake after its TLV has ended too (log
entry 180). -/
def State.lldpAct (s : State) (p at_ : Nat) (b : List Byte) : State :=
  match lldpEee (b.take (b.length - 4)) with
  | some (ttl, w) =>
    match s.portBt p with
    | some bt =>
      if s.lpiCap p then
        s.setPort p { s.port p with tw := some (w, at_ + ttl * 10 ^ 11), wake := max w (Config.phyWake bt) }
      else s
    | none => s
  | none => s

end Sys2Proof.Machine
end

