-- ==== Sys2Proof/Machine/EthQueue.lean ====
section
/-! DEFINITION. Ethernet queues (R313 to R318): rings, tail words, receive buffers, truncation, lossless holding, transmit
descriptors, and the mailbox commands ETHQ_DEFINE, ETHQ_FREE and ETHQ_QUERY. Queue numbers count transmit queues from
4,096. -/

namespace Sys2Proof.Machine

/-- A queue, when it is defined. -/
def State.ethQ (s : State) (q : Nat) : Option EthQ := Tab.get none s.net.queues q

/-- The state with a queue replaced or removed. -/
def State.setQ (s : State) (q : Nat) (x : Option EthQ) : State :=
  { s with net := { s.net with queues := Tab.put none s.net.queues q x } }

/-! ### Rings -/

/-- A little-endian value of `n` bytes read at an address of Table 11.3. -/
def State.ringRead (s : State) (addr n : Nat) : List Byte := s.regionRead (addr / 2 ^ 56) (addr % 2 ^ 56) n

/-- The descriptor at a ring index. -/
def State.descAt (s : State) (x : EthQ) (i : Nat) : List Byte :=
  if x.host then Tab.get (List.replicate 32 0#8) x.descs i else s.ringRead (x.ring + 32 * i) 32

/-- A descriptor written back (R317, R318, R426). -/
def State.putDesc (s : State) (x : EthQ) (i : Nat) (b : List Byte) : State :=
  if x.host then s.toHost x.part (x.ring + 32 * i) b
  else s.regionWrite (x.ring / 2 ^ 56) (x.ring % 2 ^ 56 + 32 * i) b

/-- The queue's interrupt is raised (R428). -/
def State.queueIrq (s : State) (q part : Nat) : State :=
  let r := Tab.get {} s.host.qirq q
  if r.en then s.raiseVector q part r.vector r.holdoff else s

/-- The device's reads of the host memory of a partition that are outstanding: those of its endpoint (R417). -/
def State.readsOut (s : State) (part : Nat) : Nat :=
  (s.net.queues.filter (fun e => e.2.any (fun x => x.host && x.part == part && x.flight.isSome))).length

/-- A tail read is issued, or is in flight already (R314): a word in device memory is taken as it stands, and a read of host
memory waits while its endpoint has 1,024 outstanding (R417). -/
def State.tailRead (s : State) (q : Nat) : State :=
  match s.ethQ q with
  | none => s
  | some x =>
    if x.flight.isSome then s
    else if x.host && decide (1024 ≤ s.readsOut x.part) then s.setQ q (some { x with again := true })
    else s.setQ q (some { x with flight := some (if x.host then none else some (leNat (s.ringRead x.tailAt 4))), again := false })

/-- A read of a partition's host memory has ended: the queue of the lowest number whose read waits for its turn issues it. -/
def State.readNext (s : State) (part : Nat) : State :=
  match s.net.queues.find? (fun e => e.2.any (fun x => x.host && x.part == part && x.again && x.flight.isNone)) with
  | some e => s.tailRead e.1
  | none => s

/-- A doorbell (R427): a tail read, or a further one recorded. -/
def State.doorbell (s : State) (q : Nat) : State :=
  match s.ethQ q with
  | none => s
  | some x => if x.flight.isSome then s.setQ q (some { x with again := true }) else s.tailRead q

/-! ### Receive buffers (R315, R317) -/

/-- Whether an extent at an address of Table 11.3 lies in a region of a memory tier, within it. -/
def State.extentIn (s : State) (addr n : Nat) : Bool :=
  let r := addr / 2 ^ 56
  (r == 1 || r == 2 || r == 4 || r == 5) && decide (addr % 2 ^ 56 + n ≤ s.regionSize r)

/-- Whether an extent at an address of Table 11.3 lies outside a partition's ranges, PT_T2 among them. -/
def State.extentOut (s : State) (part addr n : Nat) : Bool :=
  let a := tierAddr (addr / 2 ^ 56) (addr % 2 ^ 56)
  !s.extentIn addr n || !s.inPart part a.1 a.2 n

/-- Whether queues may not use an extent: outside the partition's ranges, or in a region other than SCRATCH_CT0, SCRATCH_CT1 and T1
(Table 11.3, R317). -/
def State.extentBad (s : State) (part addr n : Nat) : Bool := addr / 2 ^ 56 == 5 || s.extentOut part addr n

/-- An extent outside a partition's ranges is counted in its violations (R313, R317, Table 15.7). -/
def State.extentViolation (s : State) (part addr n : Nat) : State :=
  let a := tierAddr (addr / 2 ^ 56) (addr % 2 ^ 56)
  s.violate part 6 (if s.extentIn addr n then s.rangeReason part a.1 a.2 n else 1) (addr % 2 ^ 56)

/-- Whether a posted receive descriptor is bad, and whether its extent leaves the partition's ranges, which alone is a violation
(R317). -/
def State.badDesc (s : State) (x : EthQ) (addr : Nat) : Bool × Bool :=
  let n := 1024 * x.bufKib
  (addr % 64 != 0 || (!x.host && s.extentBad x.part addr n), !x.host && s.extentOut x.part addr n)

/-- The next usable buffer of a ring: its ring index and address; bad descriptors on the way are written back (R317). -/
def State.takeBuf : Nat → State → Nat → State × Option (Nat × Nat)
  | 0, s, _ => (s, none)
  | k + 1, s, q =>
    match s.ethQ q with
    | none => (s, none)
    | some x =>
      if x.head = x.tail || x.lost then (s, none)
      else
        let i := x.head
        let s' := s.setQ q (some { x with head := (i + 1) % x.entries })
        if x.skip.contains i then State.takeBuf k s' q
        else
          let addr := leAt (s.descAt x i) 0 8
          let bad := s.badDesc x addr
          if !bad.1 then (s', some (i, addr))
          else
            let s' := s.setQ q (some { x with head := (i + 1) % x.entries, skip := i :: x.skip })
            let s' := s'.putDesc x i (leBytes 8 addr ++ leBytes 4 0 ++ leBytes 2 65 ++ List.replicate 18 0#8)
            let s' := s'.ethCount 43 q
            let s' := if bad.2 then s'.extentViolation x.part addr (1024 * x.bufKib) else s'
            State.takeBuf k s' q

/-- Bytes written into a buffer. -/
def State.putBuf (s : State) (x : EthQ) (addr : Nat) (b : List Byte) : State :=
  if x.host then s.toHost x.part addr b else s.regionWrite (addr / 2 ^ 56) (addr % 2 ^ 56) b

/-- A frame's remaining bytes written into buffers, each filled before the next (R315). -/
def State.rxFill : Nat → State → Nat → RxWork → State × RxWork
  | 0, s, _, w => (s, w)
  | k + 1, s, q, w =>
    if w.rest.isEmpty then (s, w)
    else match s.ethQ q with
      | none => (s, w)
      | some x =>
        match s.takeBuf (x.entries + 1) q with
        | (s, none) => (s, w)
        | (s, some (i, addr)) =>
          let n := min w.rest.length (1024 * x.bufKib)
          State.rxFill k (s.putBuf x addr (w.rest.take n)) q
            { w with rest := w.rest.drop n, bufs := w.bufs ++ [(i, n)] }

/-- What is kept of the bad descriptors written back: those that the head has not passed (R317). -/
def EthQ.settle (x : EthQ) : EthQ :=
  let ahead := fun (i : Nat) => (i + x.entries - x.head) % x.entries
  { x with skip := x.skip.filter (fun i => decide (ahead i < ahead x.tail)) }

/-- A receive descriptor as written back (Table 11.5). -/
def rxDesc (old : List Byte) (w : RxWork) (n : Nat) (sop eop trunc lossless : Bool) : List Byte :=
  let flags := 1 + 2 * b2n sop + 4 * b2n eop + 24 * b2n trunc + 32 * b2n lossless
  let hd := if sop then leBytes 1 (w.tc + 8 * w.colour) ++ leBytes 1 w.ver ++ leBytes 2 0 ++ leBytes 4 w.hash ++ leBytes 6 w.tick
    else List.replicate 14 0#8
  old.take 8 ++ leBytes 4 n ++ leBytes 2 flags ++ leBytes 2 w.port ++ hd ++ leBytes 2 0

/-- A frame's filled buffers completed: whole, or truncated (R315, R428). -/
def State.rxComplete (s : State) (q : Nat) (w : RxWork) (trunc lossless : Bool) : State :=
  match s.ethQ q with
  | none => s
  | some x =>
    let last := w.bufs.length - 1
    let s := (upTo w.bufs.length).foldl (fun s j =>
      let b := w.bufs.getD j (0, 0)
      s.putDesc x b.1 (rxDesc (s.descAt x b.1) w b.2 (j == 0) (j == last) trunc lossless)) s
    let s := s.setQ q ((s.ethQ q).map EthQ.settle)
    let got := (w.bufs.map (·.2)).foldl (· + ·) 0
    let s := { s with net := { s.net with qBytes := Tab.put 0 s.net.qBytes q (Tab.get 0 s.net.qBytes q + got) } }
    let s := s.queueIrq q x.part
    match w.proc with
    | some n => if trunc then s else s.pulseLine 2 (129 + n)
    | none => s

/-- A bad frame's buffers return to the ring unconsumed (Table 11.2). -/
def State.rxReturn (s : State) (q : Nat) (w : RxWork) : State :=
  s.setQ q ((s.ethQ q).map (fun x => match w.bufs with
    | [] => x.settle
    | b :: _ => { x with head := b.1 }.settle))

/-- The frames being written to a queue proceed as far as its buffers go. Each time a frame needs a further buffer and the last
value of the tail shows none it asks for one tail read, and it is truncated or discarded when that read shows none (R314, R315).
-/
def State.rxDrain : Nat → State → Nat → State
  | 0, s, _ => s
  | k + 1, s, q =>
    match s.ethQ q with
    | none => s
    | some x =>
      match x.work with
      | [] => s
      | w :: rest =>
        let r := s.rxFill (w.rest.length + 1) q w
        let put := fun (s : State) (l : List RxWork) => s.setQ q ((s.ethQ q).map (fun x => { x with work := l }))
        if r.2.rest.isEmpty then
          let s := put r.1 rest
          State.rxDrain k (if w.bad then s.rxReturn q r.2 else s.rxComplete q r.2 false false) q
        else if !w.asked || decide (w.bufs.length < r.2.bufs.length) then (put r.1 ({ r.2 with asked := true } :: rest)).tailRead q
        else if (match r.1.ethQ q with | some x => x.flight.isSome || x.again | none => false) then put r.1 (r.2 :: rest)
        else
          let s := put r.1 rest
          State.rxDrain k (if r.2.bufs.isEmpty then (s.rxReturn q r.2).ethCount 49 q
            else (s.rxComplete q r.2 true false).ethCount 48 q) q

/-- A frame of a class that is not lossless reaches its queue (R315). -/
def State.rxPut (s : State) (q : Nat) (w : RxWork) : State :=
  match s.ethQ q with
  | none => s
  | some x => (s.setQ q (some { x with work := x.work ++ [w] })).rxDrain (x.work.length + 2) q

/-! ### Lossless frames (R308, R310) -/

/-- The oldest held frame written, when the ring holds buffers for all of it; else a tail read is issued. -/
def State.losslessTry (s : State) (q at_ : Nat) : State :=
  match s.ethQ q with
  | none => s
  | some x =>
    match x.held with
    | [] => s
    | w :: rest =>
      if !x.work.isEmpty then s
      else
        let r := s.rxFill (w.rest.length + 1) q w
        if r.2.rest.isEmpty then
          let s := r.1.setQ q ((r.1.ethQ q).map (fun x => { x with held := rest }))
          (s.rxComplete q r.2 false true).pfcUpdate w.port at_
        else s.tailRead q

/-- A good frame of a lossless class is held for its queue, or dropped past XOFF + 128 KiB (R308, R310). -/
def State.rxHold (s : State) (q at_ : Nat) (w : RxWork) : State :=
  match s.ethQ q with
  | none => s
  | some x =>
    if 1024 * (s.dnum (dkey 0x4205 (w.port + 1)) + 128) < s.occupancy w.port w.tc + w.size then s.ethCount 39 w.port
    else
      let s := (s.setQ q (some { x with held := x.held ++ [w] })).pfcUpdate w.port at_
      if x.head = x.tail || x.lost then s.tailRead q else s

/-- Held frames written in order as far as the ring holds buffers for each. -/
def State.losslessAll : Nat → State → Nat → Nat → State
  | 0, s, _, _ => s
  | k + 1, s, q, at_ =>
    let s' := s.losslessTry q at_
    let left : State → Nat := fun s => match s.ethQ q with
      | some x => x.held.length
      | none => 0
    if left s' < left s then State.losslessAll k s' q at_ else s'

/-- Held frames that have each waited ETH_PFC_HOLD_US of their port without enough buffers are dropped, wherever they stand
(R310; log entry 180). -/
def State.losslessTimeout (s : State) (q at_ : Nat) : State :=
  let due := fun (w : RxWork) => decide (w.since + 100000 * s.dnum (dkey 0x4207 (w.port + 1)) ≤ at_)
  let held := match s.ethQ q with
    | some x => x.held
    | none => []
  let s := if held.any due then s.losslessAll held.length q at_ else s
  match s.ethQ q with
  | none => s
  | some x =>
    let s := s.setQ q (some { x with held := x.held.filter (fun w => !due w) })
    (x.held.filter due).foldl (fun s w => (s.ethCount 50 q).pfcUpdate w.port at_) s

/-! ### Transmit descriptors (R318) -/

/-- The ring indices from `i` of one frame, up to its EOP; none while its EOP is not posted. -/
def State.txSpan (s : State) (x : EthQ) : Nat → Nat → Option (List Nat)
  | 0, _ => none
  | k + 1, i =>
    if i = x.tail then none
    else if bit (byteAt (s.descAt x i) 12).toNat 0 then some [i]
    else (s.txSpan x k ((i + 1) % x.entries)).map (fun l => i :: l)

/-- The ring index after the last of a span. -/
def spanEnd (n : Nat) (l : List Nat) (i : Nat) : Nat := (i + l.length) % n

/-- Whether a transmit buffer lies in the partition's ranges; a host's buffer is not checked (log entry 45). -/
def State.txBufOk (s : State) (x : EthQ) (d : List Byte) : Bool :=
  x.host || !s.extentBad x.part (leAt d 0 8) (leAt d 8 4)

/-- A transmit descriptor's flags written back. -/
def State.txBack (s : State) (x : EthQ) (i : Nat) (err : Bool) : State :=
  let d := s.descAt x i
  s.putDesc x i (patch d 12 [BitVec.ofNat 8 ((byteAt d 12).toNat % 2 + 2 + 4 * b2n err)])

/-- The posted frames of a transmit queue enter the egress queue of their class; one that breaks a limit is written back
with ERR (R318). -/
def State.txTake : Nat → State → Nat → Nat → State
  | 0, s, _, _ => s
  | k + 1, s, q, at_ =>
    match s.ethQ q with
    | none => s
    | some x =>
      match s.txSpan x x.entries x.next with
      | none => s
      | some l =>
        let ds := l.map (fun i => s.descAt x i)
        let n := (ds.map (fun d => leAt d 8 4)).foldl (· + ·) 0
        let nx := spanEnd x.entries l x.next
        let out := ds.any (fun d => !s.txBufOk x d)
        if 16 < l.length || n < 14 || s.maxFrame x.port - 4 < n || out then
          let s := l.foldl (fun s i => s.txBack x i true) s
          let s := s.setQ q (some { x with next := nx, head := (x.head + l.length) % x.entries })
          let s := (s.ethCount 38 x.port).queueIrq q x.part
          let viol := fun (s : State) => match ds.find? (fun d => !s.txBufOk x d) with
            | some d => s.extentViolation x.part (leAt d 0 8) (leAt d 8 4)
            | none => s
          State.txTake k (viol s) q at_
        else
          let tc := (byteAt (ds.headD []) 13).toNat % 8
          let s := s.setQ q (some { x with next := nx })
          State.txTake k (s.egressPut x.port tc at_ ⟨0, none, some (q, x.next, l.length), [], false, false, at_⟩) q at_

/-- The bytes of the frame at the head of a transmit queue. -/
def State.txData (s : State) (x : EthQ) (first n : Nat) (data : List Byte) : List Byte :=
  let ds := (upTo n).map (fun j => s.descAt x ((first + j) % x.entries))
  if x.host then padTo ((ds.map (fun d => leAt d 8 4)).foldl (· + ·) 0) data
  else ds.flatMap (fun d => s.ringRead (leAt d 0 8) (leAt d 8 4))

/-! ### Tail reads (R314) -/

/-- A tail read returns: the posted descriptors become available, and waiting frames proceed (R314, R315). -/
def State.tailReturn (s : State) (q at_ tail : Nat) (descs : List (List Byte)) : State :=
  match s.ethQ q with
  | none => s
  | some x =>
    match x.flight with
    | none => s
    | some got =>
      let t := got.getD tail % x.entries
      let ds := if x.host then (upTo descs.length).foldl (fun m j =>
        Tab.put (List.replicate 32 0#8) m ((x.tail + j) % x.entries) (padTo 32 (descs.getD j []))) x.descs else x.descs
      let s := s.setQ q (some { x with flight := none, again := false, lost := false, tail := t, descs := ds })
      let s := if x.again then s.tailRead q else s.readNext x.part
      if 4096 ≤ q then s.txTake x.entries q at_
      else
        let s := s.rxDrain (x.work.length + 1) q
        match s.ethQ q with
        | some x => if !x.held.isEmpty && x.head == x.tail then s.tailRead q else s
        | none => s

/-- A tail read or a descriptor read without completion leaves the queue as if it held no buffers, until a read returns (R437). -/
def State.tailLost (s : State) (q : Nat) : State :=
  match s.ethQ q with
  | none => s
  | some x =>
    if x.flight.isNone then s
    else
      let s := s.setQ q (some { x with flight := none, again := false, lost := true })
      (if x.again then s.tailRead q else s.readNext x.part).rxDrain (x.work.length + 1) q

/-! ### ETHQ_ commands (R313, R316) -/

/-- Whether n is a power of two in [lo, hi]. -/
def powerIn (lo hi n : Nat) : Bool := decide (lo ≤ n) && decide (n ≤ hi) && n == 2 ^ log2n n

/-- The context of a queue (Table 11.3). -/
def qContext (x : EthQ) (q : Nat) : List Byte :=
  leBytes 8 x.ring ++ leBytes 8 x.tailAt ++ leBytes 4 x.entries ++ leBytes 1 x.bufKib ++
    leBytes 1 (b2n x.host + 2 * b2n (decide (4096 ≤ q))) ++ leBytes 2 x.port ++ leBytes 2 (q % 4096) ++ leBytes 6 0

/-- ETHQ_DEFINE (R313, Table 11.4). -/
def State.ethqDefine (s : State) (part : Nat) (payload : List Byte) : Answer :=
  let c := padTo 32 payload
  let fl := leAt c 21 1
  let tx := bit fl 1
  let x : EthQ := { ring := leAt c 0 8, tailAt := leAt c 8 8, entries := leAt c 16 4, bufKib := leAt c 20 1,
                    host := bit fl 0, port := leAt c 22 2, part := part }
  let rg := s.ptRange part (if tx then 14 else 13)
  let base := if tx then 4096 else 0
  match (upTo rg.2).find? (fun i => (s.ethQ (base + rg.1 + i)).isNone) with
  | none => ⟨s, stNoQueue, []⟩
  | some i =>
    let q := base + rg.1 + i
    let extents := [(x.ring, 32 * x.entries), (x.tailAt, 4)]
    let out := if x.host then [] else extents.filter (fun e => s.extentOut part e.1 e.2)
    let ringBad := x.ring % 32 != 0 || x.tailAt % 4 != 0 || (!x.host && extents.any (fun e => s.extentBad part e.1 e.2))
    let noHost := x.host && s.dnum (ptKey part 2) == 0
    let st := firstFail [
      (!powerIn 64 65536 x.entries || (!tx && (decide (x.bufKib < 2) || decide (64 < x.bufKib))) || decide (4 ≤ fl) ||
        leAt c 26 6 != 0, stBadValue),
      (tx && (decide (192 ≤ x.port) || (s.portBt x.port).isNone), stAbsentUnit),
      (ringBad || noHost, stBadAddress)]
    if st = stOk then ⟨s.setQ q (some x), stOk, qContext x q⟩
    else if st = stBadAddress then ⟨out.foldl (fun s e => s.extentViolation part e.1 e.2) s, st, []⟩
    else ⟨s, st, []⟩

/-- A queue stopped and freed at once (R316): a receive frame in progress is completed as if no buffer were left, and
frames not yet sent leave the egress queues. Classes whose occupancy falls to XON say so (R308), and egress queues that this
empties have been empty since the end of the tick (R312, log entry 170). -/
def State.freeQueue (s : State) (q : Nat) : State :=
  match s.ethQ q with
  | none => s
  | some x =>
    let s := x.work.foldl (fun s w =>
      if w.bufs.isEmpty then s.ethCount 49 q else (s.rxComplete q w true false).ethCount 48 q) s
    let s := x.held.foldl (fun s _ => s.ethCount 49 q) s
    let had := !s.egressEmpty x.port
    let eg := (s.net.egress.map (fun e => (e.1, e.2.filter (fun t => match t.queue with
      | some (n, _, _) => n != q
      | none => true)))).filter (fun e => !e.2.isEmpty)
    let s := ({ s with net := { s.net with egress := eg } }.setQ q none).idleFrom x.port (s.inst tickUnits)
      (decide (4096 ≤ q) && had)
    let s := if x.flight.isSome then s.readNext x.part else s
    ((x.held.map (·.port)).eraseDups).foldl (fun s p => s.pfcUpdate p (s.inst 0)) s

/-- Whether a queue number lies in a partition's ranges. -/
def State.queueIn (s : State) (part q : Nat) : Bool :=
  if 4096 ≤ q then inRange (s.ptRange part 14) (q - 4096) else inRange (s.ptRange part 13) q

/-- ETHQ_FREE (R316). -/
def State.ethqFree (s : State) (part : Nat) (payload : List Byte) : Answer :=
  if payload.length ≠ 2 then ⟨s, stBadLength, []⟩
  else
    let q := leNat payload
    if (s.ethQ q).isSome && s.queueIn part q then ⟨s.freeQueue q, stOk, []⟩ else ⟨s, stNoSuchQueue, []⟩

/-- ETHQ_QUERY (R313). -/
def State.ethqQuery (s : State) (part : Nat) (payload : List Byte) : Answer :=
  if payload.length ≠ 2 then ⟨s, stBadLength, []⟩
  else
    let q := leNat payload
    match s.ethQ q with
    | some x => if s.queueIn part q then ⟨s, stOk, qContext x q⟩ else ⟨s, stNoSuchQueue, []⟩
    | none => ⟨s, stNoSuchQueue, []⟩

end Sys2Proof.Machine
end

