-- ==== Sys2Proof/Machine/Parser.lean ====
section
/-! DEFINITION. The parser (file 12): the layers of a frame (R326, R327), the match key (R328), rules (R329 to R331), the
range classifier (R336, R412), and the flow and steering hashes (R337 to R339). -/

namespace Sys2Proof.Machine

/-! ### Layers (R326, R327) -/

/-- What the parse has found: the end P, the failure (0 none), and the fields of the key. `eth`, `ip` and `udp` are the
offsets of the innermost header of their kind, `simple` an IP header without options or extensions, `frag` 1 a first
and 2 a later fragment, `short` an IP header whose length passes the frame's end, `inner` whether UDP ends the parse, `exts`
the IPv6 extension headers of the present Ethernet layer. -/
structure Parsed where
  fail    : Nat := 0
  p       : Nat := 0
  v4      : Bool := false
  v6      : Bool := false
  tcp     : Bool := false
  udp     : Bool := false
  mpls    : Bool := false
  tunnels : Nat := 0
  vlan    : Nat := 0
  dscp    : Nat := 0
  proto   : Nat := 0
  etype   : Nat := 0
  src     : List Byte := List.replicate 16 0#8
  dst     : List Byte := List.replicate 16 0#8
  sport   : Nat := 0
  dport   : Nat := 0
  tun     : Nat := 0
  eth     : Nat := 0
  ip      : Nat := 0
  udpAt   : Nat := 0
  simple  : Bool := false
  frag    : Nat := 0
  fragId  : List Byte := []
  short   : Option Nat := none
  inner   : Bool := false
  exts    : Nat := 0
  deriving DecidableEq, Repr

/-- The next layer to parse. -/
inductive Layer where
  | eth
  | tag (n : Nat)
  | mpls (n : Nat)
  | ip4
  | ip6
  | ext (nh : Nat)
  | l4
  | udpPay
  | done
  deriving DecidableEq, Repr

/-- What a parse is run with: the frame without its FCS, the depth limit, and the tunnel ports. -/
structure ParseCfg where
  f      : List Byte
  lim    : Nat
  vxlan  : Nat
  geneve : Nat

/-- A frame's byte as a number. -/
def ParseCfg.u8 (c : ParseCfg) (a : Nat) : Nat := (byteAt c.f a).toNat

/-- A big-endian field of the frame. -/
def ParseCfg.be (c : ParseCfg) (a n : Nat) : Nat := beAt c.f a n

/-- DEPTH or TRUNCATED for a layer that ends at `e` (Table 12.2). -/
def ParseCfg.short (c : ParseCfg) (e : Nat) : Nat := if c.lim < e then 1 else if c.f.length < e then 2 else 0

/-- The layer that an EtherType announces. -/
def etherNext (t : Nat) : Layer :=
  if t = 0x0800 then .ip4 else if t = 0x86DD then .ip6 else if t = 0x8847 ∨ t = 0x8848 then .mpls 0 else .done

/-- The layer that a tunnel's protocol type announces. -/
def tunnelNext (t : Nat) : Layer :=
  if t = 0x6558 then .eth else if t = 0x0800 then .ip4 else if t = 0x86DD then .ip6 else .done

/-- The one's-complement sum of 16-bit words. -/
def sum16 (b : List Byte) : Nat :=
  let t := ((upTo (b.length / 2)).map (fun i => beAt b (2 * i) 2)).foldl (· + ·) 0
  let t := t % 65536 + t / 65536
  t % 65536 + t / 65536

/-- An IPv4 address as IPv4-mapped IPv6 (R328). -/
def mapped4 (a : List Byte) : List Byte := List.replicate 10 0#8 ++ [255#8, 255#8] ++ a

/-- A failure at the start of a layer. -/
def Parsed.failAt (r : Parsed) (why p : Nat) : Parsed := { r with fail := why, p := p }

/-- One layer from offset r.p: what is found, and the next layer. -/
def parseLayer (c : ParseCfg) (r : Parsed) (l : Layer) : Parsed × Layer :=
  let a := r.p
  match l with
  | .done => (r, .done)
  | .eth =>
    let e := c.short (a + 14)
    if e ≠ 0 then (r.failAt e a, .done)
    else ({ r with p := a + 14, eth := a, vlan := 0, etype := c.be (a + 12) 2, exts := 0 }, .tag 0)
  | .tag n =>
    if r.etype ≠ 0x8100 ∧ r.etype ≠ 0x88A8 then (r, etherNext r.etype)
    else
      let e := c.short (a + 4)
      if e ≠ 0 then (r.failAt e a, .done)
      else if 4 ≤ n then (r.failAt 3 a, .done)
      else
        let t := c.be a 2
        let v := if n = 0 then t % 4096 + t / 8192 * 4096 + 32768 else r.vlan
        ({ r with p := a + 4, vlan := v, etype := c.be (a + 2) 2 }, .tag (n + 1))
  | .mpls n =>
    let e := c.short (a + 4)
    if e ≠ 0 then (r.failAt e a, .done)
    else if 8 ≤ n then (r.failAt 4 a, .done)
    else
      let r := { r with p := a + 4, mpls := true }
      if c.u8 (a + 2) % 2 = 0 then (r, .mpls (n + 1))
      else
        let nib := if a + 4 < c.f.length then c.u8 (a + 4) / 16 else 0
        (r, if nib = 4 then .ip4 else if nib = 6 then .ip6 else .done)
  | .ip4 =>
    let ihl := c.u8 a % 16
    let len := 4 * max 5 ihl
    let e := c.short (a + len)
    let tot := c.be (a + 2) 2
    if e ≠ 0 then (r.failAt e a, .done)
    else if c.u8 a / 16 ≠ 4 ∨ ihl < 5 ∨ tot < 4 * ihl ∨ sum16 ((c.f.drop a).take len) ≠ 65535 then (r.failAt 5 a, .done)
    else
      let fo := c.be (a + 6) 2
      let frag := if fo % 8192 ≠ 0 then 2 else if bit fo 13 then 1 else 0
      let src := mapped4 ((c.f.drop (a + 12)).take 4)
      let dst := mapped4 ((c.f.drop (a + 16)).take 4)
      let proto := c.u8 (a + 9)
      let r := { r with p := a + len, v4 := true, v6 := false, dscp := c.u8 (a + 1) / 4, proto := proto, src := src,
                        dst := dst, ip := a, simple := ihl == 5, frag := frag,
                        fragId := src ++ dst ++ leBytes 1 proto ++ beBytes 4 (c.be (a + 4) 2),
                        short := if r.short.isNone && decide (c.f.length < a + tot) then some a else r.short }
      (r, if frag = 2 then .done else .l4)
  | .ip6 =>
    let e := c.short (a + 40)
    if e ≠ 0 then (r.failAt e a, .done)
    else if c.u8 a / 16 ≠ 6 then (r.failAt 6 a, .done)
    else
      let src := (c.f.drop (a + 8)).take 16
      let dst := (c.f.drop (a + 24)).take 16
      let overl := r.short.isNone && decide (c.f.length < a + 40 + c.be (a + 4) 2)
      let r := { r with p := a + 40, v4 := false, v6 := true, dscp := c.be a 2 / 64 % 64, proto := c.u8 (a + 6), src := src,
                        dst := dst, ip := a, simple := true, frag := 0, fragId := [],
                        short := if overl then some a else r.short }
      (r, .ext (c.u8 (a + 6)))
  | .ext nh =>
    if nh ≠ 0 ∧ nh ≠ 43 ∧ nh ≠ 44 ∧ nh ≠ 60 then ({ r with proto := nh }, .l4)
    else
      let e0 := c.short (a + 8)
      let len := if nh = 44 then 8 else 8 * (c.u8 (a + 1) + 1)
      let e := if e0 ≠ 0 then e0 else c.short (a + len)
      if e ≠ 0 then (r.failAt e a, .done)
      else if 4 ≤ r.exts then (r.failAt 6 a, .done)
      else
        let nx := c.u8 a
        let r := { r with p := a + len, proto := nx, simple := false, exts := r.exts + 1 }
        if nh ≠ 44 then (r, .ext nx)
        else
          let fo := c.be (a + 2) 2
          let r := { r with frag := if fo / 8 ≠ 0 then 2 else if bit fo 0 then 1 else 0,
                            fragId := r.src ++ r.dst ++ leBytes 1 nx ++ (c.f.drop (a + 4)).take 4 }
          (r, if r.frag = 2 then .done else .ext nx)
  | .l4 =>
    if r.proto = 17 then
      let e := c.short (a + 8)
      if e ≠ 0 then (r.failAt e a, .done)
      else
        let r := { r with p := a + 8, udp := true, tcp := false, sport := c.be a 2, dport := c.be (a + 2) 2, udpAt := a }
        if r.dport = c.vxlan ∨ r.dport = c.geneve then (r, .udpPay) else ({ r with inner := true }, .done)
    else if r.proto = 6 then
      let e0 := c.short (a + 20)
      let off := c.u8 (a + 12) / 16
      let e := if e0 ≠ 0 then e0 else c.short (a + 4 * off)
      if e ≠ 0 then (r.failAt e a, .done)
      else if off < 5 then (r.failAt 7 a, .done)
      else ({ r with p := a + 4 * off, udp := false, tcp := true, sport := c.be a 2, dport := c.be (a + 2) 2 }, .done)
    else if r.proto = 47 then
      let e0 := c.short (a + 4)
      let h := c.be a 2
      let len := 4 + 4 * b2n (bit h 15) + 4 * b2n (bit h 13) + 4 * b2n (bit h 12)
      let e := if e0 ≠ 0 then e0 else c.short (a + len)
      if e ≠ 0 then (r.failAt e a, .done)
      else if 2 ≤ r.tunnels ∨ h % 8 ≠ 0 then (r.failAt 8 a, .done)
      else
        let key := if bit h 13 then c.be (a + 4 + 4 * b2n (bit h 15)) 4 % 2 ^ 24 else 0
        ({ r with p := a + len, tunnels := r.tunnels + 1, tun := if r.tunnels = 0 then key else r.tun },
          tunnelNext (c.be (a + 2) 2))
    else (r, .done)
  | .udpPay =>
    let vx := r.dport == c.vxlan
    let e0 := c.short (a + 8)
    let len := if vx then 8 else 8 + 4 * (c.u8 a % 64)
    let e := if e0 ≠ 0 then e0 else c.short (a + len)
    if e ≠ 0 then (r.failAt e a, .done)
    else if 2 ≤ r.tunnels ∨ (!vx && c.u8 a / 64 != 0) then (r.failAt 8 a, .done)
    else
      let vni := c.be (a + 4) 3
      ({ r with p := a + len, tunnels := r.tunnels + 1, tun := if r.tunnels = 0 then vni else r.tun },
        if vx then .eth else tunnelNext (c.be (a + 2) 2))

/-- The parse from a layer on. A frame holds at most 2 tunnels, so 96 layers are more than any frame has. -/
def parseGo (c : ParseCfg) : Nat → Parsed → Layer → Parsed
  | 0, r, _ => r
  | k + 1, r, l =>
    match l with
    | .done => r
    | l => (let n := parseLayer c r l
            parseGo c k n.1 n.2)

/-- Whether a parsed frame is a scoring request (R360): over UDP, or after EtherType 0x88B7. -/
def Parsed.isShot (r : Parsed) (f : List Byte) (port oui : Nat) : Bool :=
  r.fail == 0 && r.frag == 0 && r.tunnels == 0 && !r.mpls &&
    ((r.inner && r.simple && r.dport == port) ||
     (r.etype == 0x88B7 && decide (r.p + 5 ≤ f.length) && beAt f r.p 3 == oui && beAt f (r.p + 3) 2 == 1))

/-- The parse of a frame received on a port, given without its FCS (R326, R327), and whether it is a scoring request. An IP
length beyond the frame's end fails a frame that is not bound for the Shot path: no scoring request, or on a port with SCORE_EN =
0 (log entry 46). -/
def State.parse (s : State) (port : Nat) (f : List Byte) : Parsed × Bool :=
  let c : ParseCfg := { f := f, lim := 64 * bits (s.dnum (dkey 0x4302 (port + 1))) 6 3, vxlan := s.dnum 0x431001,
                        geneve := s.dnum 0x431002 }
  let r := parseGo c 96 {} .eth
  let shot := s.variant.shot && r.isShot f (s.dnum 0x500002) (s.dnum 0x500003)
  match r.short with
  | some a => if shot && bit (s.dnum (dkey 0x4302 (port + 1))) 0 then (r, true) else (r.failAt 2 a, false)
  | none => (r, shot)

/-- HB of a frame (R324). -/
def headerBeats (r : Parsed) : Nat := max 1 (ceilDiv r.p 64)

/-! ### The match key (R328) -/

/-- FLAGS of the key. -/
def Parsed.flags (r : Parsed) (shot : Bool) : Nat :=
  b2n r.v4 + 2 * b2n r.v6 + 4 * b2n r.tcp + 8 * b2n r.udp + 16 * b2n (decide (0 < r.tunnels)) + 32 * b2n (r.frag == 1) +
    64 * b2n shot + 128 * b2n r.mpls

/-- The 48-byte key (Table 12.3). -/
def Parsed.key (r : Parsed) (port : Nat) (shot : Bool) (cls : Nat) : List Byte :=
  leBytes 1 port ++ leBytes 1 (r.flags shot) ++ leBytes 2 r.vlan ++ leBytes 1 r.dscp ++ leBytes 1 r.proto ++
    leBytes 2 r.etype ++ r.src ++ r.dst ++ leBytes 2 r.sport ++ leBytes 2 r.dport ++ leBytes 3 r.tun ++ leBytes 1 cls

/-! ### Rules (R329 to R331) -/

/-- A bank's copy of a rule-banked entry; empty when nothing was ever written. -/
def State.ruleGet (s : State) (bank k : Nat) : List Byte :=
  match Tab.get none s.dict (bank * 2 ^ 24 + k) with
  | some b => b
  | none => []

/-- The rules of a stage (0x4410 filter, 0x4411 classify) of a bank, with their indices. -/
def State.rules (s : State) (bank idx : Nat) : List (Nat × List Byte) :=
  (upTo 8).flatMap (fun k => (chunks 128 512 (s.ruleGet bank (dkey idx (k + 1)))).zipIdx.map (fun e => (512 * k + e.2, e.1)))

/-- Whether a rule is valid. -/
def ruleValid (r : List Byte) : Bool := bit (leAt r 99 1) 0

/-- Whether a rule matches a key (R330). -/
def ruleMatches (r key : List Byte) : Bool :=
  ruleValid r && ((leNat key &&& leAt r 48 48) == (leAt r 0 48 &&& leAt r 48 48))

/-- The matching rule of lowest PRIORITY, then of lowest index (R330). -/
def bestRule (key : List Byte) (rs : List (Nat × List Byte)) : Option (List Byte) :=
  (rs.foldl (fun best r =>
    if !ruleMatches r.2 key then best
    else match best with
      | some b => if leAt r.2 96 2 < leAt b 96 2 then some r.2 else best
      | none => some r.2) (none : Option (List Byte)))

/-! ### The range classifier (R336, R411, R412) -/

/-- The leaf of a range tree for a value: the clearing of R400 with value ≤ THRESHOLD; none when the vector empties. -/
def rangeLeaf (t : List Byte) (v : Nat) : Option Nat :=
  let n := leAt t 0 2
  let cleared := (upTo (n - 1)).filterMap (fun i =>
    let nd := leAt t (8 + 8 * i) 8
    if v ≤ bits nd 43 12 then none else some (bits nd 51 44, bits nd 59 52))
  (upTo n).find? (fun j => !cleared.any (fun c => decide (c.1 ≤ j) && decide (j < c.1 + c.2)))

/-- The class of a value (R412); an empty vector gives 0. -/
def rangeClass (t : List Byte) (v : Nat) : Nat :=
  match rangeLeaf t v with
  | some j => leAt t (8 + 8 * (leAt t 0 2 - 1) + j) 1
  | none => 0

/-- The field that RANGE_FIELD names (R336). -/
def Parsed.rangeValue (r : Parsed) (field : Nat) : Nat :=
  if field = 1 then r.sport else if field = 2 then r.dport
  else if field = 3 then beAt r.src 12 4 else beAt r.dst 12 4

/-! ### Hashes (R337 to R339) -/

/-- CRC-32C (R337). -/
def crc32c (l : List Byte) : Nat := crcOf 0x82F63B78#32 l

/-- A salt or key of this boot (R338). -/
def State.salt (s : State) (which n : Nat) : List Byte := (upTo n).map (fun i => Config.saltByte s.mem.boot which i)

/-- lo, hi and tail: the conversation key (R337). -/
def Parsed.conv (r : Parsed) (f : List Byte) : List Byte × List Byte × List Byte :=
  let ip := r.v4 || r.v6
  let a := if ip then r.src ++ beBytes 2 r.sport else (f.drop (r.eth + 6)).take 6
  let b := if ip then r.dst ++ beBytes 2 r.dport else (f.drop r.eth).take 6
  let tail := if ip then leBytes 1 r.proto else beBytes 2 r.etype
  if beNat a ≤ beNat b then (a, b, tail) else (b, a, tail)

/-- The symmetric flow hash h (R337). -/
def State.symHash (s : State) (r : Parsed) (f : List Byte) : Nat :=
  let c := r.conv f
  crc32c (s.salt 0 8 ++ c.1 ++ c.2.1 ++ c.2.2)

/-- The input of a partition's steering hash (R339). -/
def Parsed.rssInput (r : Parsed) (cfg : Nat) : List Byte :=
  let sel := fun (i : Nat) (b : List Byte) => if bit cfg i then b else []
  sel 1 r.src ++ sel 2 r.dst ++ sel 3 (beBytes 2 r.sport) ++ sel 4 (beBytes 2 r.dport) ++ sel 5 (beBytes 1 r.proto) ++
    sel 6 (beBytes 2 (r.vlan % 4096)) ++ sel 7 (beBytes 3 r.tun)

/-- The Toeplitz hash under a key taken as bits, most significant first (R339; PRESUMED, the family's definition, log
entry 47). -/
def toeplitz (key : List Byte) (inp : List Byte) : Nat :=
  let k := beNat key
  let kl := 8 * key.length
  let n := 8 * inp.length
  let v := beNat inp
  (upTo n).foldl (fun h i => if bit v (n - 1 - i) then h ^^^ (k / 2 ^ (kl - 32 - i) % 2 ^ 32) else h) 0

/-- The steering hash of a partition (R339). -/
def State.rssHash (s : State) (pt : Nat) (r : Parsed) : Nat :=
  let cfg := s.dnum (dkey 0x4701 (pt + 1))
  let inp := r.rssInput cfg
  if inp.isEmpty then 0
  else if bit cfg 0 then toeplitz (s.salt (5 + pt) 52) inp else crc32c (s.salt (1 + pt) 8 ++ inp)

end Sys2Proof.Machine
end

