-- ==== Sys2Proof/Machine/Trans.lean ====
section
/-! DEFINITION. The two correctly rounded functions of FP32: exp (R401) and log1p (R367). Both are evaluated in fixed
point with 256 fraction bits and rounded once; log entry 41 gives the argument that this is enough. -/

namespace Sys2Proof.Machine

/-- Fraction bits of the fixed point. -/
def fixBits : Nat := 256

/-- The sum of t^(2i+1)/(2i+1) from term i on, `pw` being t^(2i+1) and `sq` t², all in fixed point. -/
def atanhGo : Nat → Nat → Nat → Nat → Nat
  | 0, _, _, _ => 0
  | n + 1, i, pw, sq => pw / (2 * i + 1) + atanhGo n (i + 1) (pw * sq / 2 ^ fixBits) sq

/-- atanh of a fixed-point t of at most 1/3. -/
def fixAtanh (t : Nat) : Nat := atanhGo 100 0 t (t * t / 2 ^ fixBits)

/-- ln 2 in fixed point: 2 atanh(1/3). -/
def fixLn2 : Nat := 2 * fixAtanh (2 ^ fixBits / 3)

/-- The sum of r^i/i! from term i on, `term` being r^i/i!. -/
def expGo : Nat → Nat → Nat → Nat → Nat
  | 0, _, _, _ => 0
  | n + 1, i, term, r => term + expGo n (i + 1) (term * r / (2 ^ fixBits * (i + 1))) r

/-- A number known between v and v + 1 units of 2^-256, and no multiple of a unit, rounded to FP32. -/
def fixRound (neg : Bool) (v : Nat) (scale : Int) : Nat :=
  (finish .fp32 .rne neg (2 * v + 1) (scale - fixBits - 1)).bits

/-- exp, correctly rounded (R401); special values as IEEE 754 has them. -/
def f32Exp (w : Nat) : Nat :=
  match unpack .fp32 w with
  | .nan .. => (nanResult .canonical .fp32 [w]).getD 0
  | .inf neg => if neg then 0 else Fmt.fp32.infBits
  | .fin neg m e =>
    if m = 0 || (log2n m : Int) + e < -26 then 0x3F800000
    else if 7 ≤ (log2n m : Int) + e then (if neg then 0 else Fmt.fp32.infBits)
    else
      let a := m * 2 ^ ((fixBits : Int) + e).toNat
      let n : Int := if neg then -((a / fixLn2 : Nat) : Int) - 1 else ((a / fixLn2 : Nat) : Int)
      let r := if neg then fixLn2 - a % fixLn2 else a % fixLn2
      fixRound false (expGo 80 0 (2 ^ fixBits) r) n

/-- log1p, correctly rounded (R367): NaN below −1, −Inf at −1. -/
def f32Log1p (w : Nat) : Nat :=
  match unpack .fp32 w with
  | .nan .. => (nanResult .canonical .fp32 [w]).getD 0
  | .inf neg => if neg then (invalidNan .fp32 7 w 0).bits else Fmt.fp32.infBits
  | .fin neg m e =>
    if m = 0 || (log2n m : Int) + e < -30 then w % 2 ^ 32
    else
      let x := m * 2 ^ ((64 : Int) + e).toNat
      if neg && decide (2 ^ 64 < x) then (invalidNan .fp32 7 w 0).bits
      else if neg && x == 2 ^ 64 then withSign .fp32 true Fmt.fp32.infBits
      else
        let y := if neg then 2 ^ 64 - x else 2 ^ 64 + x
        let p := log2n y
        let u := 2 ^ p
        let lf := 2 * fixAtanh ((y - u) * 2 ^ fixBits / (y + u))
        if neg then fixRound true ((64 - p) * fixLn2 - lf - 1) 0
        else fixRound false ((p - 64) * fixLn2 + lf) 0

end Sys2Proof.Machine
end

