-- ==== Sys2Proof/Machine/Grind.lean ====
section
/-! DEFINITION. The Grind stage (file 13): layouts (R364), field decoding (R366), features (R367, R368, R371), row IDs
(R369), lookups (R370) and what their ends make of a record (R372, Table 13.5). -/

namespace Sys2Proof.Machine

/-! ### Layouts (R364) -/

/-- A field descriptor (Table 13.3). -/
structure FieldDesc where
  off  : Nat
  ty   : Nat
  ones : Bool
  raw  : List Byte
  deriving DecidableEq, Repr

/-- A feature descriptor (Table 13.4). -/
structure FeatDesc where
  op    : Nat
  log   : Bool
  clip  : Bool
  src   : List Nat
  nsrc  : Nat
  a     : Nat
  b     : Nat
  lo    : Nat
  hi    : Nat
  table : Nat
  elem  : Nat
  raw   : List Byte
  deriving DecidableEq, Repr

/-- A layout. -/
structure LayoutDesc where
  rb     : Nat
  nfield : Nat
  nfeat  : Nat
  valid  : Bool
  fields : List FieldDesc
  feats  : List FeatDesc
  raw    : List Byte
  deriving DecidableEq, Repr

/-- The field descriptor of 4 bytes. -/
def fieldOf (d : List Byte) : FieldDesc := ⟨leAt d 0 2, leAt d 2 1, bit (leAt d 3 1) 0, d⟩

/-- The feature descriptor of 32 bytes. -/
def featOf (d : List Byte) : FeatDesc :=
  { op := leAt d 0 1, log := bit (leAt d 1 1) 0, clip := bit (leAt d 1 1) 1, src := (upTo 4).map (fun k => leAt d (2 + 2 * k) 2),
    nsrc := leAt d 10 1, a := leAt d 12 4, b := leAt d 16 4, lo := leAt d 20 4, hi := leAt d 24 4, table := leAt d 28 2,
    elem := leAt d 30 2, raw := d }

/-- The layout that an entry's bytes hold. -/
def layoutOf (d : List Byte) : LayoutDesc :=
  let nf := leAt d 2 2
  let nt := leAt d 4 2
  { rb := leAt d 0 2, nfield := nf, nfeat := nt, valid := leAt d 6 1 % 2 == 1,
    fields := (chunks 4 nf (d.drop 16)).map fieldOf, feats := (chunks 32 nt (d.drop (16 + 4 * nf))).map featOf, raw := d }

/-- Layout l of a bank. -/
def State.layout (s : State) (bank l : Nat) : LayoutDesc := layoutOf (s.ruleGet bank (dkey 0x5100 (l + 1)))

/-- A boundary of a bank's pool (R364). -/
def State.bound (s : State) (bank i : Nat) : Nat :=
  leAt (s.ruleGet bank (dkey 0x5101 (i / 16384 + 1))) (4 * (i % 16384)) 4

/-- Bytes of a field type (Table 13.3). -/
def fieldLen (ty : Nat) : Nat := if ty = 0 then 1 else if ty = 1 ∨ ty = 4 then 2 else if ty = 6 then 8 else 4

/-- The byte after the last byte of a record's last field. -/
def LayoutDesc.lastField (l : LayoutDesc) : Nat := (l.fields.map (fun f => f.off + fieldLen f.ty)).foldl max 0

/-! ### Fields (R366) -/

/-- A field's bytes in a record. -/
def LayoutDesc.fieldBytes (l : LayoutDesc) (rec_ : List Byte) (i : Nat) : List Byte :=
  match l.fields[i]? with
  | some f => (rec_.drop f.off).take (fieldLen f.ty)
  | none => []

/-- Whether a field is absent. -/
def LayoutDesc.absent (l : LayoutDesc) (rec_ : List Byte) (i : Nat) : Bool :=
  match l.fields[i]? with
  | some f => f.ones && (l.fieldBytes rec_ i).all (fun b => b == 255#8)
  | none => true

/-- A field's bits, zero-extended (R369); fields are big-endian (R362). -/
def LayoutDesc.raw64 (l : LayoutDesc) (rec_ : List Byte) (i : Nat) : Nat := beNat (l.fieldBytes rec_ i)

/-- A field as FP32 (R366). -/
def LayoutDesc.fieldF32 (l : LayoutDesc) (rec_ : List Byte) (i : Nat) : Nat :=
  let n := l.raw64 rec_ i
  match l.fields[i]? with
  | none => 0
  | some f =>
    if f.ty = 5 then n
    else if f.ty = 4 then (cvtToFmt false .fp32 .rne (unpack .fp16 n)).val
    else if f.ty = 3 then (finish .fp32 .rne (decide (2 ^ 31 ≤ n)) (sext 32 n).natAbs 0).bits
    else (finish .fp32 .rne false n 0).bits

/-! ### Features (R367 to R371) -/

/-- A·x + B in two operations (R367). -/
def scaled (f : FeatDesc) (x : Nat) : Nat :=
  (fAdd .canonical .fp32 .rne (fMul .canonical .fp32 .rne f.a x).bits f.b).bits

/-- The lines of R367 from the source value on. -/
def shaped (f : FeatDesc) (x : Nat) : Feature :=
  let y := scaled f x
  let y := if f.log then f32Log1p y else y
  if f.clip && !(unpack .fp32 y).isNan then
    .fp (fMinMax .fp32 false (fMinMax .fp32 true y f.lo).bits f.hi).bits
  else .fp y

/-- cross_id (R369). -/
def LayoutDesc.crossId (l : LayoutDesc) (rec_ : List Byte) (f : FeatDesc) : Nat :=
  if f.nsrc = 1 then l.raw64 rec_ (f.src.headD 0)
  else ((f.src.take f.nsrc).foldl (fun h i => srMix (h ^^^ BitVec.ofNat 64 (l.raw64 rec_ i))) 0#64).toNat

/-- The features of a record that issue a lookup, each with its ID: CROSS features without an absent source (R366). -/
def LayoutDesc.crosses (l : LayoutDesc) (rec_ : List Byte) : List (Nat × FeatDesc × Nat) :=
  (l.feats.zipIdx.filter (fun e => e.1.op == 3 && !(e.1.src.take e.1.nsrc).any (l.absent rec_))).map
    (fun e => (e.2, e.1, l.crossId rec_ e.1))

/-- The byte after the last byte of a CROSS feature's last source field (R370). -/
def LayoutDesc.srcEnd (l : LayoutDesc) (f : FeatDesc) : Nat :=
  ((f.src.take f.nsrc).map (fun k => match l.fields[k]? with
    | some d => d.off + fieldLen d.ty
    | none => 0)).foldl max 0

/-- The table of a lookup when it passes the check of R370. -/
def State.scoreTable (s : State) (f : FeatDesc) : Option TblDesc :=
  match s.tbl (s.dnum 0x500001) f.table with
  | some t => if t.score && decide (f.elem < t.dim) then some t else none
  | none => none

/-- What came of feature i's lookup; none where it issued none. -/
def ShotRec.foundOf (r : ShotRec) (i : Nat) : Option Found := (r.looks.find? (fun x => x.feats.contains i)).map (·.found)

/-- The FP32 elements of a looked-up row. -/
def foundRow : Option Found → Option (List Nat)
  | some (.row e _) => some e
  | _ => none

/-- The product sum of two rows (R371). -/
def dotSum (a b : List Nat) : Nat :=
  (List.zip a b).foldl (fun acc e => (fFma .canonical .fp32 .rne e.1 e.2 acc).bits) 0

/-- Whether a DOT's tables fail its check (R371): both pass R370's, with equal DIM of at most 64. -/
def State.dotBad (s : State) (l : LayoutDesc) (f : FeatDesc) : Bool :=
  match l.feats[f.src.getD 0 0]?, l.feats[f.src.getD 1 0]? with
  | some x, some y => (match s.scoreTable x, s.scoreTable y with
    | some t, some u => t.dim != u.dim || decide (64 < t.dim)
    | _, _ => true)
  | _, _ => true

/-- The DOT features whose tables fail their check (R371): counted and kept when the record has passed the Grind stage, so that a
table freed later changes nothing of the record. -/
def State.dotsBad (s : State) (l : LayoutDesc) : List Nat :=
  (l.feats.zipIdx.filter (fun e => e.1.op == 4 && s.dotBad l e.1)).map (·.2)

/-- Feature i of a record (R366 to R371): its lookups hold what they returned, whatever becomes of the tables. -/
def State.feature (s : State) (bank : Nat) (l : LayoutDesc) (rec_ : List Byte) (r : ShotRec) (i : Nat) : Feature :=
  match l.feats[i]? with
  | none => .missing
  | some f =>
    let s0 := f.src.headD 0
    if f.op = 1 then (if l.absent rec_ s0 then .missing else shaped f (l.fieldF32 rec_ s0))
    else if f.op = 2 then
      if l.absent rec_ s0 then .missing
      else
        let x := scaled f (l.fieldF32 rec_ s0)
        if (unpack .fp32 x).isNan then .missing
        else .bin ((upTo f.table).filter (fun j => fLt .fp32 (s.bound bank (f.hi + j)) x)).length
    else if f.op = 3 then
      match foundRow (r.foundOf i) with
      | some e => shaped f (e.getD f.elem 0)
      | none => .missing
    else
      let ia := f.src.getD 0 0
      let ib := f.src.getD 1 0
      if r.noDot.contains i then .missing
      else match foundRow (r.foundOf ia), foundRow (r.foundOf ib) with
        | some x, some y => shaped f (dotSum x y)
        | _, _ => .missing

/-- MISSING of an entry (Table 13.7): CROSS features missing by substitution or unavailability. -/
def ShotRec.missing (r : ShotRec) (l : LayoutDesc) : Nat :=
  min 255 ((l.feats.zipIdx.filter (fun e => e.1.op == 3)).filter (fun e => match r.foundOf e.2 with
    | some .unavailable => true
    | some .substituted => true
    | _ => false)).length

/-! ### Lookups (R240, R370) -/

/-- The epoch that a row of PUB_EPOCH `pub` reports (R240). -/
def State.rowEpoch (s : State) (pub : Nat) : Nat :=
  if s.publishing && pub == (s.epoch + 1) % 2 ^ 32 then (s.epoch + 1) % 2 ^ 32 else s.epoch

/-- The row of a lookup read from the replica: unavailable while a poisoned granule affects it (R203). -/
def State.replicaRow (s : State) (k : RowKey) : Found :=
  match s.tbl k.part k.table with
  | none => .noTable
  | some t =>
    match s.replicaAt k.part t k.shard k.slot with
    | none => .noTable
    | some h =>
      if s.rowBad k then .unavailable
      else .row (rowElems t (s.memRead h.1 (h.2 + 8) t.valueLen)) (s.rowEpoch (leNat (s.memRead h.1 h.2 4)))

/-- The CT whose T1 lookup port serves a row (R32, R238). -/
def State.lookupTile (s : State) (k : RowKey) : Nat :=
  match s.tbl k.part k.table with
  | none => 0
  | some t =>
    match s.replicaAt k.part t k.shard k.slot with
    | some h => if h.1 = 1 then (s.t1Place h.2).1 / 4 else 0
    | none => 0

end Sys2Proof.Machine
end

