-- ==== Sys2Proof/Machine/TreeEng.lean ====
section
/-! DEFINITION. The tree engine (file 14): comparisons (R399), exit leaves and sums (R400), links (R401), group times
(R404), the feature buffer (R403) and tree store errors (R410). -/

namespace Sys2Proof.Machine

/-! ### Evaluation -/

/-- Node record i of the tree store (Table 14.2). -/
def State.node (s : State) (i : Nat) : Nat := leNat (s.tree.readN (8 * i) 8)

/-- Leaf j of the tree store (R394). -/
def State.leaf (s : State) (j : Nat) : Nat := leNat (s.tree.readN (33554432 + 4 * j) 4)

/-- Whether a node sends a feature left (Table 14.4). -/
def goesLeft (n : Nat) (f : Feature) : Bool :=
  let dflt := bit n 60
  let th := bits n 43 12
  match f with
  | .missing => dflt
  | .bin k => decide (k ≤ th)
  | .fp x => if (unpack .fp32 x).isNan then dflt else fLe .fp32 x th

/-- What evaluating a model gives: accumulators, leaf words read, trees whose vector emptied. -/
structure RawSum where
  acc   : List Nat
  words : List Nat
  empty : Nat
  deriving DecidableEq, Repr

/-- The exit leaf of a tree of L leaves with its first node record at nb; none when the vector empties (R400). -/
def State.exitLeaf (s : State) (nb L : Nat) (f : Nat → Feature) : Option Nat :=
  let cleared := (upTo (L - 1)).filterMap (fun i =>
    let n := s.node (nb + i)
    if goesLeft n (f (bits n 11 0)) then none else some (bits n 51 44, bits n 59 52))
  (upTo L).find? (fun j => !cleared.any (fun c => decide (c.1 ≤ j) && decide (j < c.1 + c.2)))

/-- Trees in order: t, first node record, first leaf (R400). -/
def State.treeGo (s : State) (k : Nat) (f : Nat → Feature) : List Nat → Nat → Nat → Nat → RawSum → RawSum
  | [], _, _, _, r => r
  | L :: ls, t, nb, lb, r =>
    let put := fun (leaf : Nat) => r.acc.set (t % k) (fAdd .canonical .fp32 .rne (r.acc.getD (t % k) 0) leaf).bits
    let r := match s.exitLeaf nb L f with
      | none => ({ r with acc := put 0, empty := r.empty + 1 } : RawSum)
      | some j => { r with acc := put (s.leaf (lb + j)), words := (33554432 + 4 * (lb + j)) / 8 * 8 :: r.words }
    State.treeGo s k f ls (t + 1) (nb + (L - 1)) (lb + L) r

/-- raw(model, f) (R400): the sums with BASE added. -/
def State.rawScores (s : State) (bank : Nat) (m : ModelDesc) (f : Nat → Feature) : RawSum :=
  let r := s.treeGo (max 1 m.k) f (s.treeLeaves bank m) 0 m.nodeBase m.leafBase ⟨List.replicate m.k 0, [], 0⟩
  { r with acc := r.acc.zipIdx.map (fun e => (fAdd .canonical .fp32 .rne e.1 (m.base.getD e.2 0)).bits) }

/-- Canonical NaN in FP32 (R45). -/
def nan32 : Nat := Fmt.nanBits .fp32

/-- The canonical NaN with the sign of the NaN it comes from (R45), where values hold one. -/
def nanOf (zs : List Nat) : Option Nat := nanResult .canonical .fp32 zs

/-- The largest of the values that are not NaN, the first on ties, with its place. -/
def argMax (zs : List Nat) : Option (Nat × Nat) :=
  zs.zipIdx.foldl (fun best e =>
    if (unpack .fp32 e.1).isNan then best
    else match best with
      | none => some e
      | some b => if fLt .fp32 b.1 e.1 then some e else best) none

/-- The link of Table 14.5. A NaN keeps the sign of its origin (R45). -/
def linkScores (link k thresh : Nat) (zs : List Nat) : List Nat :=
  let add := fun a b => (fAdd .canonical .fp32 .rne a b).bits
  let div := fun a b => (fDiv .canonical .fp32 .rne a b).bits
  let one := 0x3F800000
  if link = 0 then zs
  else if link = 1 then zs.map (fun z => (nanOf [z]).getD (div one (add one (f32Exp (fNeg .fp32 z)))))
  else if link = 2 then zs.map f32Exp
  else if link = 3 then
    match nanOf zs with
    | some w => zs.map (fun _ => w)
    | none =>
      let m := ((argMax zs).map (·.1)).getD 0
      let es := zs.map (fun z => f32Exp (fSub .canonical .fp32 .rne z m).bits)
      let total := es.drop 1 |>.foldl add (es.headD 0)
      es.map (fun e => div e total)
  else if k = 1 then
    let z := zs.headD 0
    [(nanOf [z]).getD (if fLe .fp32 thresh z then one else 0)]
  else match argMax zs with
    | some b => [(finish .fp32 .rne false b.2 0).bits]
    | none => [(nanOf zs).getD nan32]

/-- O of a model (R398). -/
def ModelDesc.outputs (m : ModelDesc) : Nat := if m.link = 4 then 1 else m.k

/-- Q of a model in NCLK (R404). -/
def State.groupTime (s : State) (bank : Nat) (m : ModelDesc) : Nat :=
  max (max (ceilDiv (s.modelSize bank m).1 512) (ceilDiv m.trees 8)) 1

/-! ### Requests and records -/

/-- A request replaced in the list, by its frame's number. -/
def State.setReq (s : State) (r : ShotReq) : State :=
  { s with net := { s.net with reqs := s.net.reqs.map (fun x => if x.frame.id == r.frame.id then r else x) } }

/-- A request by its frame's number. -/
def State.req (s : State) (id : Nat) : Option ShotReq := s.net.reqs.find? (fun r => r.frame.id == id)

/-- A request by its frame's number, also one that has left (R403). -/
def State.anyReq (s : State) (id : Nat) : Option ShotReq := (s.net.reqs ++ s.net.gone).find? (fun r => r.frame.id == id)

/-- A request replaced, also one that has left. -/
def State.setAnyReq (s : State) (r : ShotReq) : State :=
  { s.setReq r with net := { (s.setReq r).net with gone := s.net.gone.map (fun x => if x.frame.id == r.frame.id then r else x) } }

/-- A record of a request replaced. -/
def ShotReq.setRec (r : ShotReq) (i : Nat) (x : ShotRec) : ShotReq := { r with recs := r.recs.set i x }

/-- A request's model. -/
def State.reqModel (s : State) (r : ShotReq) : ModelDesc :=
  modelOf (((s.ruleGet r.bank 0x520101).drop (128 * r.place)).take 128)

/-- The bytes of record i that a request's frame holds. -/
def ShotReq.recBytes (r : ShotReq) (rb i : Nat) : List Byte := (r.frame.data.drop (r.off + 32 + i * rb)).take rb

/-- Whether a model of a bank is marked damaged (R410). -/
def State.modelDamaged (s : State) (bank place : Nat) : Bool := s.bank.damaged.any (fun d => d.1 == bank && d.2.1 == place)

/-- Records of a lane in the feature buffer (R403): ready and entered, or in a group whose comparisons run at `at_`. -/
def State.bufUsed (s : State) (lane at_ : Nat) : Nat :=
  (((s.net.reqs ++ s.net.gone).filter (fun r => r.lane == lane)).map (fun r =>
    (r.recs.filter (fun x => x.inBuf && !x.group)).length)).foldl (· + ·) 0 +
  ((s.net.groups.filter (fun g => g.lane == lane && decide (at_ < g.start + 64 * g.q))).map (·.recs.length)).foldl (· + ·) 0

/-- Ready records of a lane that are not in a group, oldest first: request, record number, record. One made OVERLOAD keeps its
place in the buffer and goes on to a group, where its score is discarded (R379, R403, log entry 174). -/
def State.readyRecs (s : State) (lane : Nat) : List (ShotReq × Nat × ShotRec) :=
  sortOn (fun e => e.2.2.ready.getD 0) (((s.net.reqs ++ s.net.gone).filter (fun r => r.lane == lane && !r.hold)).flatMap (fun r =>
    (r.recs.zipIdx.filter (fun e => e.1.ready.isSome && !e.1.group && e.1.scored.isNone && (!e.1.overl || e.1.inBuf))).map
      (fun e => (r, e.2, e.1))))

/-- When a ready record reaches the feature buffer: 16 NCLK after it is ready (R403). -/
def ShotRec.loadAt (x : ShotRec) : Nat := x.ready.getD 0 + 1024

/-- Whether a record waits for a place in the feature buffer. -/
def ShotRec.waits (x : ShotRec) : Bool := x.ready.isSome && !x.inBuf && !x.group && x.scored.isNone && !x.overl

/-- The NCLK that a record has waited for a place until an instant; te_buf_full counts them (R403). -/
def ShotRec.waited (x : ShotRec) (t : Nat) : Nat := if x.waits then (t - x.loadAt) / 64 else 0

/-- The records of a lane that wait for the buffer enter it at an instant, oldest first, while it has room (R403). -/
def State.fillAt (s : State) (lane t : Nat) : State :=
  ((s.readyRecs lane).filter (fun e => e.2.2.waits && decide (e.2.2.loadAt ≤ t))).foldl (fun s e =>
    if 16 ≤ s.bufUsed lane t then s
    else match s.req e.1.frame.id with
      | none => s
      | some r => (s.setReq (r.setRec e.2.1 { e.2.2 with inBuf := true })).count cTeBufFull lane (e.2.2.waited t)) s

/-- The feature buffer of a lane brought up to an instant: filled whenever comparisons ended or a record reached it (R403). -/
def State.fillBuf (s : State) (lane t : Nat) : State :=
  let ends := (s.net.groups.filter (fun g => g.lane == lane)).map (fun g => g.start + 64 * g.q)
  let ins := ((s.readyRecs lane).filter (·.2.2.waits)).map (·.2.2.loadAt)
  let ev := (sortOn id (ends ++ ins)).filter (fun e => decide (Tab.get 0 s.net.filled lane ≤ e) && decide (e < t))
  let s := (ev ++ [t]).foldl (fun s e => s.fillAt lane e) s
  { s with net := { s.net with filled := Tab.put 0 s.net.filled lane t } }

/-- A record's wait for the buffer ends without a place: its NCLK are counted (R403). -/
def State.endWait (s : State) (lane t : Nat) (x : ShotRec) : State := s.count cTeBufFull lane (x.waited t)

/-- A record answered MODEL_ABSENT without evaluation (R410). -/
def ShotRec.unscored (x : ShotRec) (t : Nat) : ShotRec := { x with scored := some t, absent := true, inBuf := false }

/-- A record becomes ready at an instant; one of a damaged model is answered without evaluation (R410). -/
def State.recReady (s : State) (r : ShotReq) (i at_ : Nat) : State :=
  match r.recs[i]? with
  | none => s
  | some x =>
    let x := { x with ready := some at_ }
    s.setReq (r.setRec i (if s.modelDamaged r.bank r.place then x.unscored at_ else x))

/-! ### Tree store errors (R410) -/

/-- A word of the tree store found uncorrectable: counted on the lane, reported once. -/
def State.treeUe (s : State) (lane w : Nat) : State :=
  if s.bank.bad.contains w then s.count cTeStoreUe lane 1
  else ({ s with bank := { s.bank with bad := s.bank.bad ++ [w] } }.count cTeStoreUe lane 1).raiseDev 0x5012 w 0

/-- Whether a record holds a place in the feature buffer, or is in a group that is not scored yet. -/
def ShotRec.held (x : ShotRec) : Bool := x.inBuf && x.scored.isNone

/-- Requests that have left stay known while a record of theirs is held. -/
def State.pruneGone (s : State) : State :=
  { s with net := { s.net with gone := s.net.gone.filter (fun r => r.recs.any ShotRec.held) } }

/-- A request leaves, or starts again: records of it that hold places in the feature buffer go on under a number of their own,
and their scores are discarded (R379, R403). -/
def State.leaveRecs (s : State) (r : ShotReq) : State :=
  if !r.recs.any ShotRec.held then s
  else
    let n := s.net
    let keep := fun (x : ShotRec) => if x.held then { x with overl := true } else ({ arr := x.arr, overl := true } : ShotRec)
    let g : ShotReq := { r with frame := { r.frame with id := n.nextId }, hold := false, recs := r.recs.map keep }
    let mine := fun (e : Nat × Nat) => if e.1 == r.frame.id then (n.nextId, e.2) else e
    { s with net := { n with nextId := n.nextId + 1, gone := n.gone ++ [g],
                             groups := n.groups.map (fun x => { x with recs := x.recs.map mine }) } }

/-- Every lane's waiting records take the places that have come free at an instant. -/
def State.fillLanes (s : State) (t : Nat) : State :=
  (upTo 8).foldl (fun s lane => s.fillAt lane (max t (Tab.get 0 s.net.filled lane))) s

/-- The records of a damaged model that are ready and whose evaluation has not begun are answered without it (R410). -/
def State.answerDamaged (s : State) (bank place t : Nat) : State :=
  (((s.net.reqs ++ s.net.gone).filter (fun r => r.bank == bank && r.place == place && !r.hold)).foldl (fun s r =>
    r.recs.zipIdx.foldl (fun s e =>
      if e.1.ready.isNone || e.1.group || e.1.scored.isSome then s
      else match s.anyReq r.frame.id with
        | none => s
        | some q => (s.setAnyReq (q.setRec e.2 (e.1.unscored t))).endWait r.lane t e.1) s) s).pruneGone.fillLanes t

/-- A model marked damaged for a word at an instant. -/
def State.damage (s : State) (bank place w t : Nat) : State :=
  if s.bank.damaged.contains (bank, place, w) then s
  else { s with bank := { s.bank with damaged := s.bank.damaged ++ [(bank, place, w)] } }.answerDamaged bank place t

/-- The words that the reads of some ranges find uncorrectable: those named, and those known bad (R410). -/
def State.badWords (s : State) (ue : List Nat) (p : Nat → Bool) : List Nat :=
  ((ue.filter (fun w => w % 8 == 0) ++ s.bank.bad).eraseDups).filter p

/-! ### Groups -/

/-- TREE_GROUP_START (R388, R403): an idle lane takes up to 8 loaded records of one model and bank, oldest first. -/
def treeGroupStart (o : LaneOp) (s : State) : State :=
  let lane := o.lane.toNat
  let t := s.inst o.at_
  if s.net.groups.any (fun g => g.lane == lane && decide (t < g.start + 64 * g.q)) then s
  else
    let s := s.fillBuf lane t
    let ready := (s.readyRecs lane).filter (·.2.2.inBuf)
    match ready with
    | [] => s
    | e :: _ =>
      let mine := (ready.filter (fun x => x.1.bank == e.1.bank && x.1.place == e.1.place)).take 8
      let q := s.groupTime e.1.bank (s.reqModel e.1)
      let s := mine.foldl (fun s x => match s.anyReq x.1.frame.id with
        | some r => s.setAnyReq (r.setRec x.2.1 { x.2.2 with group := true })
        | none => s) s
      let g : TreeGroup := ⟨lane, t, q, e.1.bank, e.1.place, mine.map (fun x => (x.1.frame.id, x.2.1))⟩
      ({ s with net := { s.net with groups := s.net.groups ++ [g] } }.count cTeGroup lane 1).count cTeBusy lane q

/-- A record of a group scored at an instant; the score of one made OVERLOAD, or whose request has left, is discarded (R379). -/
def State.scoreRec (s : State) (lane at_ : Nat) (badNode : Bool) (ue : List Nat) (e : Nat × Nat) : State :=
  match s.anyReq e.1 with
  | none => s
  | some r =>
    match r.recs[e.2]? with
    | none => s
    | some x =>
      let l := s.layout r.bank r.layout
      let m := s.reqModel r
      let raw := s.rawScores r.bank m (fun i => s.feature r.bank l (r.recBytes l.rb e.2) x i)
      let hit := s.badWords ue raw.words.contains
      let y := if x.overl then { x with group := true, inBuf := false } else
        { x with scored := some at_, absent := badNode || !hit.isEmpty, scores := linkScores m.link m.k m.thresh raw.acc }
      let s := ((s.setAnyReq (r.setRec e.2 y)).count cTeRec lane 1).count cTeEmptyExit lane raw.empty
      hit.foldl (fun s w => (s.treeUe lane w).damage r.bank r.place w at_) s

/-- TREE_GROUP_COMPLETE (R403, R410): the oldest group of the lane, 56 NCLK after its comparisons end. -/
def treeGroupComplete (o : TreeEndOp) (s : State) : State :=
  let lane := o.lane.toNat
  match s.net.groups.find? (fun g => g.lane == lane) with
  | none => s
  | some g =>
    let due := g.start + 64 * (g.q + 56)
    if s.inst o.at_ < due then s
    else
      let s := s.fillBuf lane (s.inst o.at_)
      let s := { s with net := { s.net with groups := s.net.groups.filter (fun x => x != g) } }.count cTeStoreCe lane o.ce
      let m := modelOf (((s.ruleGet g.bank 0x520101).drop (128 * g.place)).take 128)
      let ueN := s.badWords o.ue (fun w => overlaps (8 * m.nodeBase) (8 * (s.modelSize g.bank m).1) w 8)
      let s := ueN.foldl (fun s w => (s.treeUe lane w).damage g.bank g.place w due) s
      (g.recs.foldl (fun s e => s.scoreRec lane due (!ueN.isEmpty) o.ue e) s).pruneGone

end Sys2Proof.Machine
end

