-- ==== Sys2Proof/Machine/Shot.lean ====
section
/-! DEFINITION. Shot path scoring (file 13): requests and their binding (R362 to R376), lookups and deadlines (R370, R372),
replies (R374 to R384), epochs and strict mode (R385, R386), and overload (R387). -/

namespace Sys2Proof.Machine

/-! ### Requests (R362, R363) -/

/-- Bytes of Ethernet minimum-frame padding that a request's frame may carry. -/
def minPad (off declared : Nat) : Nat := 60 - (off + declared)

/-- The request that a recognised frame carries, with VERSION and declared length (R362, R363). -/
def State.readReq (s : State) (fr : RxFrame) (r : Parsed) (tc lane at_ : Nat) : ShotReq × Nat :=
  let udp := r.inner
  let off := if udp then r.udpAt + 8 else r.p + 5
  let h := fr.data.drop off
  let nrec := beAt h 6 2
  let lay := beAt h 4 1 % 64
  let declared := if udp then beAt fr.bytes (r.udpAt + 4) 2 - 8
    else 32 + nrec * (s.layout s.bank.active lay).rb
  ({ frame := fr, udp := udp, tc := tc, lane := lane, dec := at_, off := off, ipAt := r.ip, v4 := r.v4, declared := declared,
     pad := minPad off declared, f16 := bit (beAt h 1 1) 0, model := beAt h 2 2 % 4096, layout := lay, nrec := nrec,
     reqId := beAt h 8 8, lag := min 1024 (beAt h 16 2) }, beAt h 0 1)

/-- Units that a byte takes on the request's port. -/
def State.reqBt (s : State) (r : ShotReq) : Nat := (s.portBt r.frame.port).getD 1

/-- The instant at which the first n bytes of a request's frame have reached the pins. -/
def State.pinsAt (s : State) (r : ShotReq) (n : Nat) : Nat := r.frame.t + (8 + n) * s.reqBt r

/-- Bytes from the start of the frame through the last field byte of record i. -/
def ShotReq.lastByte (r : ShotReq) (l : LayoutDesc) (i : Nat) : Nat := r.off + 32 + i * l.rb + l.lastField

/-- Whether record i's last field byte never arrives (R384). -/
def ShotReq.cut (r : ShotReq) (l : LayoutDesc) (i : Nat) : Bool := decide (r.frame.data.length < r.lastByte l i)

/-- Whether a request's frame ends before its declared length (R381, R384). -/
def ShotReq.short (r : ShotReq) : Bool := decide (r.frame.data.length < r.off + r.declared)

/-- Whether a request is overlong (R363). -/
def ShotReq.overlong (r : ShotReq) : Bool := decide (r.off + r.declared + r.pad < r.frame.data.length)

/-! ### Conversations (R352, R390) -/

/-- The flow entry of a request updated. -/
def State.convUpdate (s : State) (r : ShotReq) (f : FlowEnt → FlowEnt) : State :=
  match r.conv with
  | none => s
  | some k => { s with net := { s.net with flows := s.net.flows.map (fun e => if e.key == k then f e else e) } }

/-! ### The end of a request -/

/-- The retiring bank becomes WRITABLE once no request is bound to it (R409). -/
def State.drainCheck (s : State) : State :=
  if s.bank.mode = 2 && !s.net.reqs.any (fun r => r.bank != s.bank.active && (r.restarted || !r.hold)) then
    { s with bank := { s.bank with mode := 0 } }
  else s

/-! ### Class 2 of the bridges (R34) -/

/-- The bucket's tokens at an instant: 64 bytes come in each ns, up to 4 KiB. -/
def Class2.refill (b : Class2) (t : Nat) : Class2 := { b with level := min 102400 (b.level + 16 * (t - b.at_)), at_ := max b.at_ t }

/-- Class 2 of one direction of a CT's bridge: `dir` 0 NT to CT, 1 CT to NT. -/
def State.class2 (s : State) (ct dir : Nat) : Class2 := Tab.get {} s.net.class2 (2 * ct + dir)

/-- It set. -/
def State.setClass2 (s : State) (ct dir : Nat) (b : Class2) : State :=
  { s with net := { s.net with class2 := Tab.put {} s.net.class2 (2 * ct + dir) b } }

/-- The lookup that a waiting request belongs to, while it still waits. -/
def State.lookAt (s : State) (e : Nat × Nat × Nat) : Option (ShotReq × ShotRec × Lookup) :=
  (s.req e.1).bind (fun r => (r.recs[e.2.1]?).bind (fun x => (x.looks[e.2.2]?).bind (fun l =>
    if l.found == .waiting then some (r, x, l) else none)))

/-- The requests at the head of class 2 that find their 64 bytes of tokens until an instant leave in order (R34); those of
abandoned lookups drop out. -/
def State.class2Go : Nat → State → Nat → Nat → State
  | 0, s, _, _ => s
  | n + 1, s, ct, t =>
    let b := s.class2 ct 0
    match b.wait with
    | [] => s
    | e :: rest =>
      match s.lookAt e with
      | none => State.class2Go n (s.setClass2 ct 0 { b with wait := rest }) ct t
      | some (r, x, l) =>
        let g := b.at_ + ceilDiv (1600 - b.level) 16
        if t < g then s
        else
          let c := b.refill g
          let r := r.setRec e.2.1 { x with looks := x.looks.set e.2.2 { l with sent := some s.net.lookNo } }
          let s := (s.setReq r).setClass2 ct 0 { c with level := c.level - 1600, wait := rest }
          State.class2Go n { s with net := { s.net with lookNo := s.net.lookNo + 1 } } ct t

/-- Class 2 of both bridges brought up to an instant. -/
def State.class2Run (s : State) (t : Nat) : State :=
  let s := State.class2Go (s.class2 0 0).wait.length s 0 t
  State.class2Go (s.class2 1 0).wait.length s 1 t

/-- A lookup's request joins the class 2 queue of its CT's bridge. -/
def State.class2Ask (s : State) (ct t : Nat) (e : Nat × Nat × Nat) : State :=
  let s := s.class2Run t
  let b := (s.class2 ct 0).refill t
  (s.setClass2 ct 0 { b with wait := b.wait ++ [e] }).class2Run t

/-- The tokens that a response of `n` bytes takes at an instant, if the bridge has them (R34). -/
def State.class2Take (s : State) (ct t n : Nat) : Option State :=
  let b := (s.class2 ct 1).refill t
  if 25 * n ≤ b.level then some (s.setClass2 ct 1 { b with level := b.level - 25 * n }) else none

/-! ### The end of a request -/

/-- A record's waiting lookups abandoned at an instant with a result: the responses of requests that have left come late (R372),
and those that still wait for tokens are given up (R34). -/
def State.abandon (s : State) (lane id i t : Nat) (as : Found) : State :=
  let s := s.class2Run t
  match s.req id with
  | none => s
  | some r => match r.recs[i]? with
    | none => s
    | some x =>
      let late := (x.looks.filter (fun l => l.found == .waiting)).filterMap (fun l => l.sent.map (fun n => (lane, l.key, n)))
      let looks := x.looks.map (fun l => if l.found == .waiting then { l with found := as } else l)
      let s := s.setReq (r.setRec i { x with looks := looks })
      { s with net := { s.net with orphans := s.net.orphans ++ late } }

/-- What a request's records leave behind at an instant: late lookups, and waits for the feature buffer. -/
def State.dropRecs (s : State) (r : ShotReq) (t : Nat) : State :=
  let s := (s.fillBuf r.lane t).class2Run t
  (upTo r.recs.length).foldl (fun s i =>
    let s := match (s.req r.frame.id).bind (fun q => q.recs[i]?) with
      | some x => s.endWait r.lane t x
      | none => s
    s.abandon r.lane r.frame.id i t .substituted) s

/-- A request has finished at an instant: it leaves the device, and its lookups are late (R347, R372, R409); the records that
the tree lane holds stay with it (R403). -/
def State.finishReq (s : State) (r : ShotReq) (t : Nat) : State :=
  let s := s.dropRecs r t
  let s := match s.req r.frame.id with
    | some q => s.leaveRecs q
    | none => s
  { s with net := { s.net with reqs := s.net.reqs.filter (fun x => x.frame.id != r.frame.id) } }.drainCheck

/-! ### Binding (R375, R376, R385, R386) -/

/-- The committing edge t_d when it is fixed already (R385): in ALLGATHER and VOTE. -/
def State.tdFixed (s : State) : Option Nat :=
  if s.sched.state = 9 then some (edgeAfter s.sched.edge (s.sched.budgets.getD 6 0 + s.sched.lag))
  else if s.sched.state = 10 then s.sched.window.map (fun w => edgeAfter w.ts s.sched.lag)
  else none

/-- Whether EPOCH_MAX exceeds EPOCH_MIN for a decision in the tick now open (R385). -/
def State.epochSpans (s : State) : Bool :=
  s.publishing || (match s.tdFixed with
    | some t => decide ((t + 2 ^ 48 - s.now) % 2 ^ 48 ≤ 3)
    | none => false)

/-- Bytes of a score, of an entry, and the entry stride U (R377). -/
def scoreLen (f16 : Bool) : Nat := if f16 then 2 else 4
def entryLen (outs : Nat) (f16 : Bool) : Nat := 4 + 4 * ceilDiv (outs * scoreLen f16) 4
def strideOf (outs : Nat) (f16 : Bool) (rb : Nat) : Nat := max (entryLen outs f16) rb

/-- Bytes of a reply's headers before the reply header: the request's own Ethernet, VLAN and IP headers with UDP, or the
EtherType with OUI and subtype (R374). -/
def ShotReq.replyHdr (r : ShotReq) : Nat := r.off

/-- A request bound (R376): bank, model, layout, strict mode, epochs and REQ_STATUS by the checks of R375, in order. `held`: it
is bound as a strict request whatever SHOT_STRICT holds (R386). The declared length of a request without UDP follows the layout
(R363). -/
def State.bind (s : State) (r : ShotReq) (held : Bool) : State × ShotReq :=
  let bank := s.bank.active
  let m := (s.models bank).find? (fun e => e.2.id == r.model)
  let l := s.layout bank r.layout
  let declared := if r.udp then r.declared else 32 + r.nrec * l.rb
  let r := { r with declared := declared, pad := minPad r.off declared }
  let outs := match m with | some e => e.2.outputs | none => 0
  let big := r.replyHdr + 32 + r.nrec * strideOf outs r.f16 l.rb + 4
  let st : Nat := match m with
    | none => 3
    | some e =>
      if !l.valid || e.2.layout != r.layout then 4
      else if r.declared < 32 + r.nrec * l.rb then 5
      else if s.maxFrame r.frame.port < max 64 big then 4 else 0
  let strict := held || s.dnum 0x500004 == 1
  let hi := if !strict && s.epochSpans then (s.epoch + 1) % 2 ^ 32 else s.epoch
  let r := { r with bank := bank, seq := s.bank.seq, place := (m.map (·.1)).getD 0, status := st,
                    outs := if st = 0 then outs else 0, strict := strict, lo := s.epoch, hi := hi, hold := false }
  let s := if st = 3 then s.count cShotModelAbsent r.lane 1 else if st = 4 then s.count cShotLayoutInvalid r.lane 1
    else if st = 5 then s.count cShotReqTruncated r.lane 1 else s
  let s := if hi ≠ s.epoch then s.count cShotEpochSpan r.lane 1 else s
  (s.count cShotReq r.lane 1, r)

/-- The records of a request with REQ_STATUS OK, with the tick in which each arrives (R387). -/
def State.makeRecs (s : State) (r : ShotReq) (tick : Option Nat) : List ShotRec :=
  if r.status ≠ 0 then []
  else
    let l := s.layout r.bank r.layout
    (upTo r.nrec).map (fun i => { arr := match tick with
      | some t => t
      | none => s.pinsAt r (r.lastByte l i) / tickUnits })

/-- A Shot decision at an instant (R362, R363, R376, R386): a frame of another version or one too short is discarded; in
PUBLISH with strict mode the request is held from its decision. One for a mapped-out lane is dropped there (R498). -/
def State.shotDecide (s : State) (fr : RxFrame) (p : Parsed) (tc lane at_ : Nat) (conv : Option (List Byte)) : State :=
  let q := s.readReq fr p tc lane at_
  let r := { q.1 with conv := conv }
  if s.defect 4 lane then s.count cTeLaneAbsent 0 1
  else if fr.data.length < r.off + 32 || r.declared < 32 then s.count cShotReqTruncated lane 1
  else if q.2 ≠ 1 then s.count cShotBadVersion lane 1
  else
    let s := if r.overlong then s.count cShotReqOverlong lane 1 else s
    let s := s.convUpdate r (fun e => { e with reqs := e.reqs + 1, lastId := r.reqId })
    if s.dnum 0x500004 == 1 && s.publishing then
      let r := { r with hold := true, bank := s.bank.active, strict := true }
      { s with net := { s.net with reqs := s.net.reqs ++ [r] } }.count cShotStrictHold lane 1
    else
      let b := s.bind r false
      let r := { b.2 with recs := b.1.makeRecs b.2 none }
      { b.1 with net := { b.1.net with reqs := b.1.net.reqs ++ [r] } }

/-- SHOT_LANE_ADMIT (R325, R388): the oldest frame that waits for a lane starts streaming through it. -/
def shotLaneAdmit (o : LaneOp) (s : State) : State :=
  match s.net.reqs.find? (fun r => r.lane == o.lane.toNat && !r.hold && r.admitted.isNone && r.status == 0) with
  | some r => s.setReq { r with admitted := some (s.inst o.at_) }
  | none => s

/-! ### Lookups (R370, R372) -/

/-- A lookup issued for a CROSS feature and those that share it, with what comes of it at once (R370). -/
def State.issueOne (s : State) (r : ShotReq) (bad : List Nat) (t : TblDesc) (c : Nat × FeatDesc × Nat) (feats : List Nat) :
    State × Lookup :=
  let part := s.dnum 0x500001
  let k := rowKeyOf part c.2.1.table t c.2.2
  if r.strict && r.reply.isSome && s.publishing then (s, ⟨feats, k, .substituted, none⟩)
  else
    let hit := s.cremaFind k
    let s := if hit.isSome && feats.any bad.contains then
      (match hit with | some h => s.setCrema h.1 none | none => s).count cCacheUeInvalidate 0 1 else s
    match s.cremaFind k with
    | some (i, ln) =>
      let now := s.emb.useClock + 1
      let s := { s with emb := { s.emb with useClock := now } }.setCrema i (some { ln with used := now })
      (s.count cShotCremaHit r.lane 1, ⟨feats, k, .row (rowElems t ln.value) (s.rowEpoch ln.epoch), none⟩)
    | none => (s.count cShotT1Lookup r.lane 1, ⟨feats, k, .waiting, none⟩)

/-- The lookups whose last source field ends after byte `lo` of a record and at or before `hi`, added to those issued: one for
each table and ID among the features whose table check passes, in the order in which their last source fields end, then in
ascending feature index (R370). A feature that an issued lookup serves already issues none. -/
def State.issueAll (s : State) (r : ShotReq) (l : LayoutDesc) (rec_ : List Byte) (bad : List Nat) (lo hi : Nat)
    (looks : List Lookup) : State × List Lookup :=
  let cs := l.crosses rec_
  let ends := fun (c : Nat × FeatDesc × Nat) => decide (lo < l.srcEnd c.2.1) && decide (l.srcEnd c.2.1 ≤ hi)
  let good := sortOn (fun c => l.srcEnd c.2.1) (cs.filter (fun c => (s.scoreTable c.2.1).isSome))
  let same := fun (c d : Nat × FeatDesc × Nat) => d.2.1.table == c.2.1.table && d.2.2 == c.2.2
  let s := s.count cShotNoTable r.lane (((cs.filter ends).filter (fun c => (s.scoreTable c.2.1).isNone)).length)
  (good.filter ends).foldl (fun a c => match a.1.scoreTable c.2.1 with
    | none => a
    | some t =>
      if a.2.any (fun k => k.feats.contains c.1) then a
      else (let x := a.1.issueOne r bad t c ((good.filter (same c)).map (·.1))
            (x.1, a.2 ++ [x.2]))) (s, looks)

/-- The requests of the lookups of a record from place `n` on that miss the crema cache go to the bridges of their CTs (R34,
R370). -/
def State.askAll (s : State) (id i t n : Nat) (ls : List Lookup) : State :=
  (ls.zipIdx.drop n).foldl (fun s e => if e.1.found == .waiting then s.class2Ask (s.lookupTile e.1.key) t (id, i, e.2) else s) s

/-- A record with no lookup waiting becomes ready at an instant (R372). -/
def State.recTry (s : State) (id i at_ : Nat) : State :=
  match s.req id with
  | none => s
  | some r => match r.recs[i]? with
    | none => s
    | some x =>
      match x.ground with
      | none => s
      | some g =>
        if x.ready.isSome || x.overl || x.looks.any (fun l => l.found == .waiting) then s else s.recReady r i (max g at_)

/-- A record that met an unavailable row is counted once (R203). -/
def State.noteUnavail (s : State) (id i : Nat) : State :=
  match s.req id with
  | none => s
  | some r => match r.recs[i]? with
    | none => s
    | some x =>
      if !x.unavail && x.looks.any (fun l => l.found == .unavailable) then
        (s.setReq (r.setRec i { x with unavail := true })).count cMemUeRowUnavail 0 1
      else s

/-- GRIND_RECORD (R365 to R372): the next record of the request that streams through the lane has passed the Grind stage up to a
byte at this instant: the lookups whose source fields have passed are issued; once its last field byte has passed its deadline
starts, and the DOT features without usable tables are counted. `bad` names features whose crema line proved uncorrectable
(R207). The fields that a cut-off frame lacks never pass (R384). -/
def grindRecord (o : GrindOp) (s : State) : State :=
  let t := s.inst o.at_
  match s.net.reqs.find? (fun r => r.lane == o.lane.toNat && !r.hold && r.admitted.isSome &&
      decide (r.next < r.recs.length)) with
  | none => s
  | some r =>
    let l := s.layout r.bank r.layout
    let i := r.next
    match r.recs[i]? with
    | none => s
    | some x =>
      let whole := decide (l.lastField ≤ o.upto.toNat)
      let r := if whole then { r with next := i + 1 } else r
      if x.overl then s.setReq r
      else
        let d := if r.tc = 7 then s.dnum 0x521004 else s.dnum 0x521005
        let upto := min o.upto.toNat (r.frame.data.length - (r.off + 32 + i * l.rb))
        let y := s.issueAll r l (r.recBytes l.rb i) o.bad x.passed upto x.looks
        let ends := whole && !r.cut l i
        let x' := { x with passed := max x.passed upto, looks := y.2 }
        let dots := s.dotsBad l
        let x' := if ends then { x' with ground := some t, deadline := t + 100 * d, noDot := dots } else x'
        let s := if ends then y.1.count cShotNoTable r.lane dots.length else y.1
        ((s.setReq (r.setRec i x')).askAll r.frame.id i t x.looks.length y.2).recTry r.frame.id i t

/-- The lookups of a lane for a row whose requests have left and that still wait: request, record, lookup, number. -/
def State.waitingFor (s : State) (lane : Nat) (k : RowKey) : List (ShotReq × Nat × Nat × Nat) :=
  (s.net.reqs.filter (fun r => r.lane == lane)).flatMap (fun r => r.recs.zipIdx.flatMap (fun x =>
    x.1.looks.zipIdx.filterMap (fun l => if l.1.key == k && l.1.found == .waiting then l.1.sent.map (fun n => (r, x.2, l.2, n))
      else none)))

/-- The number of the oldest request of a lane for a row that has no response yet: a response answers that one (log entry 173). -/
def State.oldestAsk (s : State) (lane : Nat) (k : RowKey) : Option Nat :=
  (((s.waitingFor lane k).map (·.2.2.2)) ++ ((s.net.orphans.filter (fun e => e.1 == lane && e.2.1 == k)).map (·.2.2))).min?

/-- Bytes of the replica record that a lookup reads (R216). -/
def State.lookupLen (s : State) (k : RowKey) : Nat :=
  match s.tbl k.part k.table with
  | some t => t.rrecLen
  | none => 0

/-- A response that answers a record's lookup with what the replica holds (R240, R370). -/
def State.lookupGive (s : State) (k : RowKey) (r : ShotReq) (i j t : Nat) : State :=
  match r.recs[i]? with
  | none => s
  | some x =>
    let looks := x.looks.modify j (fun l => { l with found := s.replicaRow k })
    let s := (s.setReq (r.setRec i { x with looks := looks })).hotMiss (s.lookupTile k) k
    (s.noteUnavail r.frame.id i).recTry r.frame.id i t

/-- LOOKUP_RESPONSE (R34, R240, R370, R372): the row of the oldest request returns to its record, or is late. It waits, without
effect, while its CT's bridge lacks the tokens for its record. -/
def lookupResponse (o : LookupOp) (s : State) : State :=
  let lane := o.lane.toNat
  let t := s.inst o.at_
  let k : RowKey := ⟨s.dnum 0x500001, o.table.toNat, o.shard, o.slot⟩
  let s := s.class2Run t
  match s.oldestAsk lane k with
  | none => s
  | some n =>
    match s.class2Take (s.lookupTile k) t (s.lookupLen k) with
    | none => s
    | some s =>
      let s := s.noteEcc 1 o.ecc false
      match (s.waitingFor lane k).find? (fun w => w.2.2.2 == n) with
      | some (r, i, j, _) => s.lookupGive k r i j t
      | none => { s.hotMiss (s.lookupTile k) k with
          net := { s.net with orphans := s.net.orphans.filter (fun e => e.2.2 != n) } }.count cShotLookupLate lane 1

/-- LOOKUP_DEADLINE (R372): lookups whose record's deadline has come are abandoned. -/
def lookupDeadline (o : LaneOp) (s : State) : State :=
  let lane := o.lane.toNat
  let t := s.inst o.at_
  let due := (s.net.reqs.filter (fun r => r.lane == lane)).flatMap (fun r =>
    (r.recs.zipIdx.filter (fun e => e.1.ground.isSome && decide (e.1.deadline ≤ t) &&
      e.1.looks.any (fun l => l.found == .waiting))).map (fun e => (r.frame.id, e.2, e.1.deadline)))
  due.foldl (fun s e => (s.abandon lane e.1 e.2.1 e.2.2 .substituted).recTry e.1 e.2.1 t) s

/-! ### Overload (R379, R387) -/

/-- A record made OVERLOAD at an instant: its lookups are abandoned, without substitution (log entry 187), its wait for the
feature buffer ends, and any later score is discarded (log entry 174). -/
def State.overload (s : State) (id i c t : Nat) : State :=
  match s.req id with
  | none => s
  | some r =>
    let s := (s.fillBuf r.lane t).abandon r.lane id i t .noTable
    match s.req id with
    | none => s
    | some r => match r.recs[i]? with
      | none => s
      | some x =>
        let s := (((s.setReq (r.setRec i { x with overl := true })).endWait r.lane t x).count c r.lane 1).convUpdate r
          (fun e => { e with overl := e.overl + 1 })
        s.raiseLimited 0 0x5001 0xFF r.lane (s.counter cShotOverload1 r.lane + s.counter cShotOverload2 r.lane)

/-- RECORD_OVERLOAD (R387): records of a lane not scored by the second tick edge after the tick of their arrival. -/
def recordOverload (o : LaneOp) (s : State) : State :=
  let lane := o.lane.toNat
  let due := (s.net.reqs.filter (fun r => r.lane == lane && !r.hold)).flatMap (fun r =>
    let l := s.layout r.bank r.layout
    (r.recs.zipIdx.filter (fun e => e.1.scored.isNone && !e.1.overl && !e.1.sent && !r.cut l e.2 &&
      decide (e.1.arr + 2 ≤ s.clk.edges))).map (fun e => (r.frame.id, e.2, (e.1.arr + 2) * tickUnits)))
  due.foldl (fun s e => s.overload e.1 e.2.1 cShotOverload2 e.2.2) s

/-! ### The reply's bytes (R374, R377) -/

/-- The status of record i (R373). -/
def ShotReq.recStatus (r : ShotReq) (l : LayoutDesc) (i : Nat) (x : ShotRec) : Nat :=
  if x.overl then 6
  else if r.cut l i then 5
  else if x.absent then 3
  else if x.looks.any (fun l => l.found == .unavailable) then 2
  else if x.looks.any (fun l => l.found == .substituted) then 1 else 0

/-- A score as the entry carries it (R377). -/
def scoreBytes (f16 : Bool) (z : Nat) : List Byte :=
  if f16 then beBytes 2 (cvtToFmt false .fp16 .rne (unpack .fp32 z)).val else beBytes 4 z

/-- The entry of record i, padded to U (Table 13.7). -/
def ShotReq.entryBytes (r : ShotReq) (l : LayoutDesc) (i : Nat) (x : ShotRec) : List Byte :=
  let st := r.recStatus l i x
  let saw := fun (e : Nat) => x.looks.any (fun k => match k.found with
    | .row _ n => n == e
    | _ => false)
  let nan := st == 6 || st == 5 || st == 3
  let zs := if nan then List.replicate r.outs nan32 else x.scores
  padTo (strideOf r.outs r.f16 l.rb) (leBytes 1 (st + 16 * b2n (saw r.lo) + 32 * b2n (saw r.hi)) ++
    leBytes 1 (x.missing l) ++ leBytes 2 0 ++
    (upTo r.outs).flatMap (fun k => scoreBytes r.f16 (zs.getD k 0)))

/-- The IPv4 header checksum of a header whose checksum bytes are zero. -/
def ip4Sum (h : List Byte) : Nat := 65535 - sum16 h

/-- The headers of a reply before its reply header, `n` bytes following them (R374). -/
def State.replyHeaders (s : State) (r : ShotReq) (n : Nat) : List Byte :=
  let f := r.frame.bytes
  let eth := (f.drop 6).take 6 ++ s.portMac r.frame.port
  if r.udp then
    let ipAt := r.ipAt
    let tags := (f.drop 12).take (ipAt - 12)
    let udp := (f.drop (r.off - 6)).take 2 ++ (f.drop (r.off - 8)).take 2 ++ beBytes 2 (8 + n) ++ beBytes 2 0
    let ttl := leBytes 1 (s.dnum 0x500005)
    if r.v4 then
      let tos := leBytes 1 ((byteAt f (ipAt + 1)).toNat / 4 * 4)
      let h := fun (c : Nat) => [0x45#8] ++ tos ++ beBytes 2 (28 + n) ++ beBytes 2 0 ++ beBytes 2 0x4000 ++ ttl ++ [17#8] ++
        beBytes 2 c ++ (f.drop (ipAt + 16)).take 4 ++ (f.drop (ipAt + 12)).take 4
      eth ++ tags ++ h (ip4Sum (h 0)) ++ udp
    else
      let tc := beAt f ipAt 2 / 16 % 256 / 4 * 4
      eth ++ tags ++ beBytes 4 (6 * 2 ^ 28 + tc * 2 ^ 20) ++ beBytes 2 (8 + n) ++ [17#8] ++ ttl ++
        (f.drop (ipAt + 24)).take 16 ++ (f.drop (ipAt + 8)).take 16 ++ udp
  else
    eth ++ (f.drop 12).take (r.off - 7 - 12) ++ beBytes 2 0x88B7 ++ beBytes 3 (s.dnum 0x500003) ++ beBytes 2 2

/-- The reply header (Table 13.6). -/
def ShotReq.replyHead (r : ShotReq) (u : Nat) : List Byte :=
  leBytes 1 1 ++ leBytes 1 (b2n r.f16 + 2 * (r.bank % 2) + 4 * b2n r.strict + 8 * b2n r.restarted) ++ beBytes 2 r.model ++
    leBytes 1 r.layout ++ leBytes 1 r.outs ++ beBytes 2 r.nrec ++ beBytes 8 r.reqId ++ beBytes 4 r.lo ++ beBytes 4 r.hi ++
    beBytes 4 r.seq ++ leBytes 1 r.status ++ leBytes 1 0 ++ beBytes 2 u

/-! ### The reply schedule (R378 to R384, R528) -/

/-- Table 13.9 in units: receive path, transmit path and S without the bytes ahead, for Q. -/
def rxPath (bt : Nat) : Nat := 64 * [96, 128, 176].getD (btIndex bt) 0
def txPath (bt : Nat) : Nat := 64 * [96, 112, 136].getD (btIndex bt) 0
def schedLat (bt q : Nat) : Nat := rxPath bt + 64 * (24 + 48 + (q + 16) + (q + 56)) + txPath bt

/-- U of a request's reply: 0 when REQ_STATUS is not OK. -/
def State.replyU (s : State) (r : ShotReq) : Nat :=
  if r.status = 0 then strideOf r.outs r.f16 (s.layout r.bank r.layout).rb else 0

/-- Bytes of the reply from its header onward. -/
def State.replyLen (s : State) (r : ShotReq) : Nat := 32 + (if r.status = 0 then r.nrec * s.replyU r else 0)

/-- The expected FCS check of a request (R383). -/
def State.expectedCheck (s : State) (r : ShotReq) : Nat :=
  s.pinsAt r (r.off + r.declared + r.pad + 4) + rxPath (s.reqBt r)

/-- Bytes from the reply's first preamble byte to its FCS. -/
def State.replyFcsOff (s : State) (r : ShotReq) : Nat := 8 + max 60 (r.replyHdr + s.replyLen r)

/-- The instant at which the first byte of a reply is due: none while record 0 is not scored (R378, R383, R528). -/
def State.replyDue (s : State) (r : ShotReq) : Option Nat :=
  let bt := s.reqBt r
  let tail := s.expectedCheck r - s.replyFcsOff r * bt
  if r.hold then none
  else if r.status ≠ 0 || r.nrec == 0 then some (max r.dec tail)
  else
    let l := s.layout r.bank r.layout
    let ahead := (8 + r.replyHdr + 32) * bt
    let lag := 100 * max r.lag (s.dnum 0x521006)
    let sl := schedLat bt (s.groupTime r.bank (s.reqModel r)) + ahead + lag
    let end_ := s.pinsAt r r.frame.bytes.length
    let at0 := fun (scored last : Nat) => max (max (scored + txPath bt + ahead) (last + sl)) (tail + ahead) - ahead
    if r.cut l 0 then some (at0 end_ end_)
    else match r.recs.head? with
      | none => none
      | some x =>
        let last := s.pinsAt r (r.lastByte l 0)
        match x.scored with
        | some t => some (at0 t last)
        | none => if x.overl then some (at0 ((x.arr + 2) * tickUnits) last) else none

/-- A request's reply discarded at a port that is down (R299). -/
def State.replyDown (s : State) (r : ShotReq) (t : Nat) : State := (s.ethCount 44 r.frame.port).finishReq r t

/-- The request of a port whose reply is the next to leave: the oldest whose reply has not started (R380). -/
def State.nextReply (s : State) (p : Nat) : Option ShotReq :=
  s.net.reqs.find? (fun r => r.frame.port == p && r.reply.isNone)

/-- Whether a frame stands ready ahead of a reply of a class in the port's egress queues: one of a higher class, or one of the class
that was queued when the reply fell due (R306, R380). -/
def State.egressAhead (s : State) (p tc at_ due : Nat) : Bool :=
  (upTo 8).any (fun c => !s.pausedAt p c at_ &&
    (s.egress p c).any (fun i => decide (tc < c) || (c == tc && decide (i.at_ ≤ due))))

/-- REPLY_START (R374, R378, R380): the oldest request of a port without a reply starts it, once it is due, the port is free and
its TC is not paused (R306, R309); its entries are timed from that instant. A port in transmit LPI wakes first (R312). At a port
that is down a reply that is due is discarded, whatever the port's queues hold (R299). -/
def replyStart (o : PortOp) (s : State) : State :=
  match s.nextReply o.port with
  | none => s
  | some r =>
    match s.replyDue r with
    | none => s
    | some due =>
      let t := s.inst o.at_
      if t < due then s
      else if !s.portUp o.port then s.replyDown r t
      else if t < (s.port o.port).txEnd || s.egressAhead o.port r.tc t due || s.pausedAt o.port r.tc t ||
          s.net.reqs.any (fun x => x.frame.port == o.port && x.reply.isSome) then s
      else if (s.port o.port).lpiTx then s.wakePort o.port t
      else
        let bt := s.reqBt r
        let head := s.replyHeaders r (s.replyLen r) ++ r.replyHead (s.replyU r)
        let run : ReplyRun := ⟨t + (8 + r.replyHdr + 32) * bt, head, [], t + s.replyFcsOff r * bt⟩
        let s := s.setReq { r with reply := some run }
        s.setPort o.port { s.port o.port with txEnd := run.fcsAt + 16 * bt }

/-- REPLY_ENTRY_DUE (R379): the next entry of the port's running reply takes its record's result, or OVERLOAD. -/
def replyEntryDue (o : PortOp) (s : State) : State :=
  match s.net.reqs.find? (fun r => r.frame.port == o.port && r.reply.isSome) with
  | none => s
  | some r =>
    match r.reply with
    | none => s
    | some run =>
      let i := run.entries.length
      let bt := s.reqBt r
      let ti := run.t0 + i * s.replyU r * bt
      if r.status ≠ 0 || r.nrec ≤ i || s.inst o.at_ + txPath bt < ti then s
      else
        let l := s.layout r.bank r.layout
        match r.recs[i]? with
        | none => s
        | some x =>
          let late := match x.scored with
            | some t => decide (ti < t + txPath bt)
            | none => true
          let s := if late && !r.cut l i && !x.overl then s.overload r.frame.id i cShotOverload1 (s.inst o.at_) else s
          match s.req r.frame.id with
          | none => s
          | some r =>
            match r.recs[i]? with
            | none => s
            | some x =>
              let st := r.recStatus l i x
              let s := if st = 1 then s.count cShotSubst r.lane 1 else s
              let e := r.entryBytes l i x
              let r := { r.setRec i { x with sent := true } with reply := some { run with entries := run.entries ++ [e] } }
              (s.setReq r).count cShotRec r.lane 1

/-- REPLY_FCS_DUE (R381 to R384): the reply's FCS, inverted unless the request's own FCS has checked good by then. -/
def replyFcsDue (o : PortOp) (s : State) : State :=
  match s.net.reqs.find? (fun r => r.frame.port == o.port && r.reply.isSome) with
  | none => s
  | some r =>
    match r.reply with
    | none => s
    | some run =>
      if s.inst o.at_ < run.fcsAt || (r.status == 0 && decide (run.entries.length < r.nrec)) then s
      else if !s.portUp o.port then s.replyDown r (s.inst o.at_)
      else
        let bt := s.reqBt r
        let check := s.pinsAt r r.frame.bytes.length + rxPath bt
        let open_ := decide (check ≤ run.fcsAt)
        let good := open_ && !r.frame.bad && !r.short
        let body := run.head ++ run.entries.flatten
        let f := padFrame body ++ fcsOf (padFrame body)
        let f := if good then f else stompFrame f
        let s := (s.emit (.ethFrame o.port f)).sentCount o.port f
        let s := if body.length < 60 then s.ethCount 37 o.port else s
        let s := if good then s else
          ((((s.count cRxStompedReply r.lane 1).count cRxStompedReplyPort o.port 1).ethCount 36 o.port).convUpdate r
            (fun e => { e with stomped := e.stomped + 1 }))
        let s := if !open_ && r.overlong then s.count cShotReqOverlong r.lane 1 else s
        s.finishReq r (s.inst o.at_)

/-! ### Strict mode (R386) -/

/-- At t_d of a committing TAMP: a strict request whose reply has not started is held and loses its results, one whose
reply has started has its lookups substituted. -/
def State.shotAtTd (s : State) : State :=
  (s.net.reqs.filter (fun r => r.strict && !r.hold)).foldl (fun s r =>
    if r.reply.isSome then
      (upTo r.recs.length).foldl (fun s i =>
        (s.abandon r.lane r.frame.id i (s.inst 0) .substituted).recTry r.frame.id i (s.inst 0)) s
    else
      let s := s.dropRecs r (s.inst 0)
      let s := match s.req r.frame.id with
        | some q => s.leaveRecs q
        | none => s
      (s.setReq { r with hold := true, restarted := true, recs := [], next := 0 }).count cShotStrictRestart r.lane 1) s

/-- At t_d + 6: held requests are bound and start at the Grind stage, their arrival ticks taken as that edge. One held since its
decision is bound as a strict request; one that restarts is bound afresh (R386). -/
def State.shotAtCommitted (s : State) : State :=
  ((s.net.reqs.filter (fun r => r.hold)).foldl (fun s r =>
    let b := s.bind r (!r.restarted)
    b.1.setReq { b.2 with recs := b.1.makeRecs b.2 (some s.clk.edges) }) s).drainCheck

end Sys2Proof.Machine
end

