-- ==== Sys2Proof/Machine/Pipe.lean ====
section
/-! DEFINITION. A frame's way from its pipe to its destination (file 12): decisions (R331 to R335), the processor path (R341
to R344), fragments (R348 to R351), the flow table (R352 to R354), balance (R355, R356), and the rule switch (R346). -/

namespace Sys2Proof.Machine

/-- A field of PORT_PARSE (Table 12.7). -/
def State.portParse (s : State) (p hi lo : Nat) : Nat := bits (s.dnum (dkey 0x4302 (p + 1))) hi lo

/-! ### Decisions (R331 to R333) -/

/-- RANGE_CLASS of a frame (R336, R412): 8 NCLK of the pipe's lane, one evaluation counted. -/
def State.rangeOf (s : State) (pipe bank : Nat) (r : Parsed) (ue : Bool) : State × Nat :=
  let field := leNat (s.ruleGet bank 0x440005)
  if field = 0 || !s.variant.shot then (s, 0)
  else
    let s := s.count cTeRangeEval pipe 1
    if ue then (s.count cTeRangeUe pipe 1, 0) else (s, rangeClass (s.ruleGet bank 0x440006) (r.rangeValue field))

/-- The partition whose receive queue range holds a queue. -/
def State.rxqOwner (s : State) (q : Nat) : Option Nat :=
  (upTo 4).find? (fun n => s.ptEnabled n && inRange (s.ptRange n 13) q)

/-- The queue that a SET_QUEUE rule names, with the hash for the descriptor and the indirection entry taken (R332, R340). -/
def State.ruleQueue (s : State) (r : Parsed) (arg : Nat) : Option Nat × Nat × Option Nat :=
  if bit arg 12 then
    let pt := bits arg 14 13
    let h := s.rssHash pt r
    let i := h % 512
    let q := leAt (s.dget (dkey 0x4700 (pt + 1))) (2 * i) 2
    (if q = 0xFFFF then none else some q, h, some (512 * pt + i))
  else
    let q := arg % 4096
    (some q, (match s.rxqOwner q with | some pt => s.rssHash pt r | none => 0), none)

/-- Whether a parsed frame is a DAP request in-band (R344). -/
def State.isDap (s : State) (port : Nat) (bytes : List Byte) (r : Parsed) : Bool :=
  r.inner && r.frag == 0 && r.dport == s.dnum 0xA00001 && bytes.take 6 == s.portMac port

/-- The decision for a parsed frame (R330 to R333). -/
def State.steer (s : State) (pipe : Nat) (fr : RxFrame) (r : Parsed) (shot ue : Bool) : State × Decision :=
  let rg := s.rangeOf pipe fr.bank r ue
  let s := rg.1
  let key := r.key fr.port shot rg.2
  let fil := bestRule key (s.rules fr.bank 0x4410)
  let cls := bestRule key (s.rules fr.bank 0x4411)
  let act := match fil with | some f => leAt f 98 1 | none => 0
  let farg := match fil with | some f => leAt f 104 1 | none => 0
  let cact := match cls with | some f => leAt f 98 1 | none => 0
  let tc := match cls with
    | some f => if bit cact 0 then leAt f 100 1 % 8 else if bit r.vlan 15 then bits r.vlan 14 12 else s.portParse fr.port 18 16
    | none => if bit r.vlan 15 then bits r.vlan 14 12 else s.portParse fr.port 18 16
  let colour := match cls with
    | some f => if bit cact 1 then leAt f 101 1 else 0
    | none => 0
  let q : Option Nat × Nat × Option Nat := match cls with
    | some f => if bit cact 2 then s.ruleQueue r (leAt f 104 4) else (none, 0, none)
    | none => (none, 0, none)
  let base : Decision := { tc := tc, colour := colour, hash := q.2.1, bank := fr.bank, ver := fr.ver, copy := act == 3,
                           mirror := if act = 4 then some farg else none }
  let d : Decision :=
    if act = 1 then { base with drop := true }
    else if act = 2 then { base with forward := some farg }
    else if s.isDap fr.port fr.bytes r then { base with dap := true }
    else if shot && bit (s.portParse fr.port 0 0) 0 then { base with shot := true }
    else { base with queue := q.1, rss := q.2.2 }
  (s, d)

/-! ### The processor path (R341 to R343) -/

/-- A token of the port's bucket, which starts full (R342). -/
def State.procToken (s : State) (p at_ : Nat) : State × Bool :=
  let lvl := s.bucketAt p at_
  if 10 ^ 11 ≤ lvl then (s.setPort p { s.port p with bucket := some (lvl - 10 ^ 11, at_) }, true)
  else (s.count cPpProcDrop p 1, false)

/-- What is written of a frame to a receive queue. -/
def rxWork (fr : RxFrame) (d : Decision) (at_ : Nat) (proc : Option Nat) : RxWork :=
  { id := fr.id, port := fr.port, ver := d.ver, tick := fr.tick, tc := d.tc, colour := d.colour, hash := d.hash,
    size := fr.bytes.length, rest := fr.data, bad := fr.bad, asked := false, bufs := [],
    since := at_, proc := proc, entered := fr.ver }

/-- A frame or copy to the processor path (R341, R342): only good frames arrive. -/
def State.procPath (s : State) (pipe at_ : Nat) (fr : RxFrame) (d : Decision) : State :=
  let t := s.procToken fr.port at_
  if !t.2 then t.1
  else if fr.bad then t.1
  else
    let q := t.1.dnum 0x433001
    if q = 0xFFFF || (t.1.ethQ q).isNone then t.1.count cProcToMc 0 1
    else t.1.rxPut q (rxWork fr d at_ (some pipe))

/-- A frame leaves another port (R301, R302): cut-through when the port is at least as fast and nothing stands ahead of
it, else from the packet buffer when its FCS is good. MG is no port of the parser's steering (R319). -/
def State.forwardTo (s : State) (at_ : Nat) (fr : RxFrame) (d : Decision) (p : Nat) : State :=
  let fast := match s.portBt p, s.portBt fr.port with
    | some o, some i => decide (o ≤ i)
    | _, _ => false
  let cut := fast && (upTo 8).all (fun c => decide (c < d.tc) || (s.egress p c).isEmpty)
  if 192 ≤ p then s
  else if cut || !fr.bad then
    s.egressPut p d.tc at_ ⟨fr.id, some fr.ver, none, fr.bytes, fr.bad && cut, true, at_⟩
  else s

/-- A frame without a destination, or one that fails to parse (R341, R343). -/
def State.noDest (s : State) (pipe at_ : Nat) (fr : RxFrame) (d : Decision) : State :=
  let p := fr.port
  if s.portParse p 1 1 = 0 then s.procPath pipe at_ fr d
  else if s.portParse p 2 2 = 0 then s.count cPpPrivDrop p 1
  else (s.count cPpPrivFwd p 1).forwardTo at_ fr { d with tc := s.portParse p 18 16 } (s.portParse p 15 8)

/-! ### The flow table (R352 to R354) -/

/-- Entries past FLOW_AGE_MS are freed (R352). -/
def State.flowExpire (s : State) (at_ : Nat) : State :=
  let dead := fun (e : FlowEnt) => decide (e.lastAt + s.dnum 0x460001 * 10 ^ 8 ≤ at_)
  let n := (s.net.flows.filter dead).length
  { s with net := { s.net with flows := s.net.flows.filter (fun e => !dead e) } }.count cFlowAged 0 n

/-- A frame of a conversation: its entry updated, created, or none when the table is full. -/
def State.flowTouch (s : State) (at_ : Nat) (fr : RxFrame) (key : List Byte) (shot : Bool) (lane : Nat) : State × Bool :=
  let s := s.flowExpire at_
  let n := fr.bytes.length
  if s.net.flows.any (fun e => e.key == key) then
    ({ s with net := { s.net with flows := s.net.flows.map (fun e => if e.key == key then
        { e with last := fr.tick, lastAt := at_, frames := e.frames + 1, bytes := e.bytes + n, shot := e.shot || shot,
                 lane := lane } else e) } }, true)
  else if s.net.flows.length < 262144 then
    let e : FlowEnt := ⟨key, shot, lane, fr.tick, fr.tick, at_, 1, n, 0, 0, 0, 0⟩
    ({ s with net := { s.net with flows := s.net.flows ++ [e] } }.count
      cFlowNew 0 1, true)
  else let s := s.count cFlowUntracked 0 1
    (s.raiseLimited 0 0x4303 0xFF 0 (s.counter cFlowUntracked 0), false)

/-! ### Where a frame goes (R333, R334) -/

/-- Bytes that the packet buffer holds. -/
def State.pbHeld (s : State) : Nat :=
  let sum := fun (l : List Nat) => l.foldl (· + ·) 0
  sum (s.net.pipes.map (fun e => sum (e.2.map (·.bytes.length)))) +
    sum (s.net.egress.map (fun e => sum (e.2.map (·.bytes.length)))) +
    sum (s.net.queues.map (fun e => match e.2 with
      | some q => sum (q.work.map (·.size)) + sum (q.held.map (·.size))
      | none => 0)) +
    sum (s.net.reqs.map (·.frame.bytes.length))

/-- Whether R334 admits a frame of a colour. -/
def State.colourOk (s : State) (colour : Nat) : Bool :=
  colour == 0 || (colour == 1 && decide (s.pbHeld < 72 * 2 ^ 20)) || (colour == 2 && decide (s.pbHeld < 48 * 2 ^ 20))

/-- A frame for a receive queue (R310, R315, R316). -/
def State.toQueue (s : State) (at_ : Nat) (fr : RxFrame) (d : Decision) (q : Nat) : State :=
  let s := match d.rss with
    | some i => { s with net := { s.net with rssHits := Tab.put 0 s.net.rssHits i (Tab.get 0 s.net.rssHits i + 1) } }
    | none => s
  if (s.ethQ q).isNone || (s.rxqOwner q).isNone then s.ethCount 40 fr.port
  else if s.lossless fr.port d.tc then (if fr.bad then s else s.rxHold q at_ (rxWork fr d at_ none))
  else s.rxPut q (rxWork fr d at_ none)

/-- A frame for the Shot path (R325, R376). -/
def State.toShot (s : State) (at_ : Nat) (fr : RxFrame) (r : Parsed) (d : Decision) : State :=
  let f := fr.data
  let i := s.symHash r f % 64
  let lane := (byteAt (s.dget 0x432001) i).toNat % 8
  let c := r.conv f
  let t := s.flowTouch at_ fr (c.1 ++ c.2.1 ++ c.2.2) true lane
  let n := fr.bytes.length
  let s := { t.1 with net := { t.1.net with
    laneBytes := Tab.put 0 t.1.net.laneBytes lane (Tab.get 0 t.1.net.laneBytes lane + n),
    laneHits := Tab.put 0 t.1.net.laneHits i (Tab.get 0 t.1.net.laneHits i + 1) } }
  s.shotDecide fr r d.tc lane at_ (if t.2 then some (c.1 ++ c.2.1 ++ c.2.2) else none)

/-- An in-band DAP request on its way to the MC, through the port's bucket (R344): a frame with a bad FCS does not arrive. -/
def State.toMc (s : State) (at_ : Nat) (fr : RxFrame) (d : Decision) : State :=
  let t := s.procToken fr.port at_
  if t.2 && !fr.bad then { t.1 with net := { t.1.net with toMc := t.1.net.toMc ++ [(fr.port, d.tc, fr.bytes)] } } else t.1

/-- A frame handed to its destination and its copies made (R331, R333). -/
def State.dispatch (s : State) (pipe at_ : Nat) (fr : RxFrame) (r : Parsed) (d : Decision) : State :=
  if d.drop then s.count cPpFilterDrop pipe 1
  else
    let held := d.queue.isSome && d.forward.isNone && !d.dap && !d.shot && s.lossless fr.port d.tc
    if !held && !s.colourOk d.colour then s.count cPbColourDrop 0 1
    else
      let s := if d.copy then s.procPath pipe at_ fr d else s
      let s := match d.mirror with
        | some p => s.forwardTo at_ fr d p
        | none => s
      match d.forward with
      | some p =>
        let f := fr.data
        let c := r.conv f
        let lane := (byteAt (s.dget 0x432001) (s.symHash r f % 64)).toNat % 8
        (s.flowTouch at_ fr (c.1 ++ c.2.1 ++ c.2.2) false lane).1.forwardTo at_ fr d p
      | none =>
        if d.dap then s.toMc at_ fr d
        else if d.shot then s.toShot at_ fr r d
        else match d.queue with
          | some q => s.toQueue at_ fr d q
          | none => (s.count cPpNoDest pipe 1).noDest pipe at_ fr d

/-! ### Fragments (R348 to R351) -/

/-- Fragment entries past FRAG_AGE_US are removed (R349). -/
def State.fragExpire (s : State) (at_ : Nat) : State :=
  let dead := fun (e : FragEnt) => decide (e.at_ + s.dnum 0x450001 * 10 ^ 5 ≤ at_)
  let n := (s.net.frags.filter dead).length
  { s with net := { s.net with frags := s.net.frags.filter (fun e => !dead e) } }.count cFragAged 0 n

/-- A first fragment stores its decision, unless the table is full (R349, R351). -/
def State.fragStore (s : State) (at_ : Nat) (key : List Byte) (d : Decision) : State :=
  let rest := s.net.frags.filter (fun e => e.key != key)
  if 8192 ≤ rest.length then
    let s := s.count cFragTblFull 0 1
    s.raiseLimited 0 0x4302 0xFF 0 (s.counter cFragTblFull 0)
  else
    let e : FragEnt := ⟨key, at_, d⟩
    { s with net := { s.net with frags := rest ++ [e] } }.count cFragStored 0 1

/-! ### The pipe -/

/-- The failure's counter (R327). -/
def parseFailCtr (why : Nat) : Nat := cPpParseFail1 + (why - 1)

/-- Whether another pipe still holds a frame that its port received before this one (R323): the later one waits for it. -/
def State.pipeBlocked (s : State) (n : Nat) (fr : RxFrame) : Bool :=
  s.net.pipes.any (fun e => e.1 != n && e.2.any (fun g => g.port == fr.port && decide (g.id < fr.id)))

/-- PIPE_PARSE (R323 to R351): the oldest frame of a pipe is parsed and given its destination, in arrival order of its port (log
entry 171). An IP length beyond the frame's end fails the parse (R327) of every frame whose destination is not the Shot path
(R384, Table 13.8; log entry 46). -/
def pipeParse (o : PipeOp) (s : State) : State :=
  let n := o.pipe.toNat
  let t := s.inst o.at_
  match Tab.get [] s.net.pipes n with
  | [] => s
  | fr :: rest =>
    if s.pipeBlocked n fr then s else
    let s := { s with net := { s.net with pipes := Tab.put [] s.net.pipes n rest } }.count cPpFrames n 1
    let p := s.parse fr.port fr.data
    let r := p.1
    let none_ : Decision := { tc := s.portParse fr.port 18 16, bank := fr.bank, ver := fr.ver }
    if r.fail ≠ 0 then (s.count (parseFailCtr r.fail) n 1).noDest n t fr none_
    else
      let s := if r.frag = 0 then s else s.fragExpire t
      if r.frag = 2 then
        match s.net.frags.find? (fun e => e.key == r.fragId) with
        | some e => (s.count cFragFollow 0 1).dispatch n t fr r e.dec
        | none => (s.count cFragNoEntry 0 1).noDest n t fr none_
      else
        let d := s.steer n fr r p.2 o.rangeUe
      if r.short.isSome && !d.2.shot then (s.count (parseFailCtr 2) n 1).noDest n t fr none_ else
        let s := if r.frag = 1 then d.1.fragStore t r.fragId d.2 else d.1
        s.dispatch n t fr r d.2

/-- FRAG_AGE_EXPIRE (R349). -/
def fragAgeExpire (o : AgeOp) (s : State) : State := s.fragExpire (s.inst o.at_)

/-- FLOW_AGE_EXPIRE (R352). -/
def flowAgeExpire (o : AgeOp) (s : State) : State := s.flowExpire (s.inst o.at_)

/-! ### Balance (R355, R356) -/

/-- The moves of a hot unit's map entries: (place, new unit), in descending frame count, until the bytes left fall to
twice the mean or 16 are made; an entry whose own share exceeds the mean stays (log entry 48). -/
def rebalanceGo (sum n bytes frames : Nat) (to_ : Nat) : List (Nat × Nat) → Nat → Nat → List (Nat × Nat)
  | [], _, _ => []
  | (i, c) :: r, moves, left =>
    let share := if frames = 0 then 0 else bytes * c / frames
    if moves = 0 ∨ left * n ≤ 2 * sum then []
    else if sum < share * n then rebalanceGo sum n bytes frames to_ r moves left
    else (i, to_) :: rebalanceGo sum n bytes frames to_ r (moves - 1) (left - share)

/-- The hot units of a map and the moves for them: map entries, each unit's bytes, each entry's frames. -/
def balance (factor : Nat) (map : List (Nat × Nat)) (bytes frames : Nat → Nat) : List Nat × List (Nat × Nat) :=
  let units := (map.map (·.2)).eraseDups
  let n := units.length
  let sum := (units.map bytes).foldl (· + ·) 0
  let hot := units.filter (fun u => decide (factor * sum < bytes u * n))
  (hot, hot.flatMap (fun u =>
    let mine := ((map.filter (fun e => e.2 == u)).map (fun e => (e.1, frames e.1))).mergeSort (fun a b => decide (b.2 ≤ a.2))
    let low := units.foldl (fun b v => if bytes v < bytes b then v else b) (units.headD 0)
    rebalanceGo sum n (bytes u) ((mine.map (·.2)).foldl (· + ·) 0) low mine 16 (bytes u)))

/-- Partition pt's part of an interval's end. -/
def State.balancePt (s : State) (pt : Nat) : State :=
  let k := dkey 0x4700 (pt + 1)
  let t := s.dget k
  let map := ((upTo 512).map (fun i => (i, leAt t (2 * i) 2))).filter (fun e => e.2 != 0xFFFF)
  let b := balance (s.dnum 0x470201) map (Tab.get 0 s.net.qBytes) (fun i => Tab.get 0 s.net.rssHits (512 * pt + i))
  let s := b.1.foldl (fun s q => (s.count cQImbalance q 1).raiseDev 0x4304 q (Tab.get 0 s.net.qBytes q)) s
  if !bit (s.dnum (dkey 0x4701 (pt + 1))) 8 || b.2.isEmpty then s
  else ((s.dput k (b.2.foldl (fun t m => patch t (2 * m.1) (leBytes 2 m.2)) t)).count cRebalMoves 0 b.2.length).raise
    0x4306 pt b.2.length 0

/-- The Shot lanes' part of an interval's end. -/
def State.balanceLanes (s : State) : State :=
  if !s.variant.shot then s
  else
    let t := s.dget 0x432001
    let b := balance (s.dnum 0x470201) ((upTo 64).map (fun i => (i, (byteAt t i).toNat))) (Tab.get 0 s.net.laneBytes)
      (Tab.get 0 s.net.laneHits)
    let s := b.1.foldl (fun s l => (s.count cShotLaneImbalance 0 1).raiseDev 0x4305 l (Tab.get 0 s.net.laneBytes l)) s
    if s.dnum 0x432002 ≠ 1 || b.2.isEmpty then s
    else ((s.dput 0x432001 (b.2.foldl (fun t m => patch t m.1 (leBytes 1 m.2)) t)).count cRebalMoves 0 b.2.length).raiseDev
      0x4306 b.2.length 0

/-- BALANCE_INTERVAL_END (R355, R356): at an edge whose number is a multiple of 1,024. -/
def balanceIntervalEnd (s : State) : State :=
  if s.now % 1024 ≠ 0 then s
  else
    let s := ((upTo 4).foldl State.balancePt s).balanceLanes
    { s with net := { s.net with qBytes := [], rssHits := [], laneBytes := [], laneHits := [] } }

/-! ### The rule switch (R346, R347, R413) -/

/-- RULE_DRAIN (R347): unfinished frames that entered under another version. -/
def State.ruleDrain (s : State) : Nat :=
  let old := fun (v : Nat) => v != s.net.ruleVer
  let ids := (s.net.pipes.flatMap (fun e => (e.2.filter (fun f => old f.ver)).map (·.id))) ++
    (s.net.egress.flatMap (fun e => (e.2.filter (fun t => t.ver.any old)).map (·.id))) ++
    (s.net.queues.flatMap (fun e => match e.2 with
      | some q => ((q.work ++ q.held).filter (fun w => old w.entered)).map (·.id)
      | none => [])) ++
    ((s.net.reqs.filter (fun r => old r.frame.ver)).map (·.frame.id))
  ids.eraseDups.length

/-- Whether the bits of an ARG, ACTION, TC, COLOUR and the zero bytes of a rule of a stage are legal (Table 12.4). -/
def ruleReserved (filter : Bool) (r : List Byte) : Bool :=
  let act := leAt r 98 1
  let arg := leAt r 104 4
  let used := if filter then (if act = 2 ∨ act = 4 then 255 else 0) else if bit act 2 then 32767 else 0
  (if filter then decide (act < 1 ∨ 4 < act) else decide (8 ≤ act)) || decide (2 ≤ leAt r 99 1) || decide (8 ≤ leAt r 100 1) ||
    decide (2 < leAt r 101 1) || leAt r 102 2 != 0 || (arg &&& used) != arg || leAt r 108 20 != 0

/-- Whether a range tree breaks R413. -/
def rangeBad (t : List Byte) : Bool :=
  let n := leAt t 0 2
  n == 0 || decide (256 < n) || leAt t 2 6 != 0 || (upTo (n - 1)).any (fun i =>
    let nd := leAt t (8 + 8 * i) 8
    bits nd 11 0 != 0 || bit nd 61 || bits nd 63 62 != 0 || bits nd 59 52 == 0 || decide (n - 1 < bits nd 51 44 + bits nd 59 52))

/-- The checks of a rule switch on the inactive bank, in the order of Table 12.6. The -T has no range tree, so that RANGE_FIELD
fails there as absent (R3). -/
def State.ruleSwitchCheck (s : State) : Nat :=
  let b := 1 - s.net.ruleBank
  let fl := ((s.rules b 0x4410).map (·.2)).filter ruleValid
  let cl := ((s.rules b 0x4411).map (·.2)).filter ruleValid
  let rf := leNat (s.ruleGet b 0x440005)
  firstFail [
    (s.ruleDrain != 0, stRulesDraining),
    (fl.any (ruleReserved true) || cl.any (ruleReserved false) || decide (4 < rf) ||
      (rf != 0 && s.variant.shot && rangeBad (s.ruleGet b 0x440006)), stBadValue),
    (fl.any (fun r => (leAt r 98 1 == 2 || leAt r 98 1 == 4) &&
        (decide (192 ≤ leAt r 104 1) || (s.portBt (leAt r 104 1)).isNone)) ||
      (!s.variant.shot && ((fl ++ cl).any (fun r => leAt r 95 1 != 0) || rf != 0)), stAbsentUnit)]

/-- The switch edge (R346). -/
def State.ruleSwitch (s : State) : State :=
  { s with net := { s.net with ruleBank := 1 - s.net.ruleBank, ruleVer := (s.net.ruleVer + 1) % 16 } }.raiseDev 0x4307
    ((s.net.ruleVer + 1) % 16) 0

/-- RULE_SWITCH (R346): a commit of 1 into RULE_SWITCH alone. -/
def ruleSwitchCmd (s : State) : State := if s.ruleSwitchCheck = stOk then s.ruleSwitch else s

def execPipeParse (o : PipeOp) (s : State) : Out := .next (pipeParse o s)
def execFragAgeExpire (o : AgeOp) (s : State) : Out := .next (fragAgeExpire o s)
def execFlowAgeExpire (o : AgeOp) (s : State) : Out := .next (flowAgeExpire o s)
def execBalanceIntervalEnd (s : State) : Out := .next (balanceIntervalEnd s)
def execRuleSwitch (s : State) : Out := .next (ruleSwitchCmd s)
def execShotLaneAdmit (o : LaneOp) (s : State) : Out := .next (shotLaneAdmit o s)
def execGrindRecord (o : GrindOp) (s : State) : Out := .next (grindRecord o s)
def execLookupResponse (o : LookupOp) (s : State) : Out := .next (lookupResponse o s)
def execLookupDeadline (o : LaneOp) (s : State) : Out := .next (lookupDeadline o s)
def execTreeGroupStart (o : LaneOp) (s : State) : Out := .next (treeGroupStart o s)
def execTreeGroupComplete (o : TreeEndOp) (s : State) : Out := .next (treeGroupComplete o s)
def execReplyStart (o : PortOp) (s : State) : Out := .next (replyStart o s)
def execReplyEntryDue (o : PortOp) (s : State) : Out := .next (replyEntryDue o s)
def execReplyFcsDue (o : PortOp) (s : State) : Out := .next (replyFcsDue o s)
def execRecordOverload (o : LaneOp) (s : State) : Out := .next (recordOverload o s)

end Sys2Proof.Machine
end

