-- ==== Sys2Proof/Machine/Banks.lean ====
section
/-! DEFINITION. The model bank commit (file 14): its checks (R365, R402, R407), the switch (R408) and what it leaves of the
marks of tree store errors (R410). -/

namespace Sys2Proof.Machine

/-- Whether an FP32 value is finite. -/
def finite32 (x : Nat) : Bool := bits x 30 23 != 255

/-- Whether a boundary list is finite and strictly ascending (R365). -/
def boundsOk (l : List Nat) : Bool :=
  l.all finite32 && (List.zip l (l.drop 1)).all (fun e => fLt .fp32 e.1 e.2)

/-- Whether a feature descriptor breaks R365. -/
def State.featBad (s : State) (bank : Nat) (l : LayoutDesc) (i : Nat) (f : FeatDesc) : Bool :=
  let plain := fun (k : Nat) => match l.fields[k]? with
    | some d => d.ty != 6
    | none => false
  let cross := fun (k : Nat) => decide (k < i) && (match l.feats[k]? with
    | some g => g.op == 3
    | none => false)
  f.op == 0 || decide (4 < f.op) || decide (4 ≤ leAt f.raw 1 1) || leAt f.raw 11 1 != 0 ||
    (if f.op = 1 then !plain (f.src.getD 0 0)
     else if f.op = 2 then !plain (f.src.getD 0 0) || f.clip || f.table == 0 || decide (255 < f.table) ||
       decide (131072 < f.hi + f.table) || !boundsOk ((upTo f.table).map (fun j => s.bound bank (f.hi + j)))
     else if f.op = 3 then f.nsrc == 0 || decide (4 < f.nsrc) || (f.src.take f.nsrc).any (fun k => decide (l.nfield ≤ k))
     else !cross (f.src.getD 0 0) || !cross (f.src.getD 1 0))

/-- Whether a valid layout breaks R365. -/
def State.layoutBad (s : State) (bank : Nat) (l : LayoutDesc) : Bool :=
  l.rb % 4 != 0 || decide (l.rb < 4) || decide (8192 < l.rb) || l.nfield == 0 || decide (256 < l.nfield) || l.nfeat == 0 ||
    decide (1024 < l.nfeat) || leAt l.raw 6 1 != 1 || leAt l.raw 7 9 != 0 || l.fields.length != l.nfield ||
    l.feats.length != l.nfeat ||
    l.fields.any (fun f => decide (6 < f.ty) || decide (l.rb < f.off + fieldLen f.ty) || decide (2 ≤ leAt f.raw 3 1)) ||
    l.feats.zipIdx.any (fun e => s.featBad bank l e.2 e.1) || decide (64 < (l.feats.filter (fun f => f.op == 3)).length)

/-- Whether a valid model breaks order 2 of Table 14.7. -/
def State.modelBad (s : State) (bank : Nat) (all : List (Nat × ModelDesc)) (m : ModelDesc) : Bool :=
  let d := m.raw
  decide (4096 ≤ leAt d 0 2) || leAt d 2 1 != 1 || decide (64 ≤ leAt d 3 1) || leAt d 6 2 != 0 || leAt d 28 36 != 0 ||
    decide (4 < m.link) || m.k == 0 || decide (16 < m.k) || (m.link == 3 && m.k == 1) ||
    decide (32768 < m.treeBase + m.trees) || decide (1 < (all.filter (fun e => e.2.id == m.id)).length) ||
    (m.base.take m.k).any (fun x => !finite32 x) || !finite32 m.thresh ||
    (s.treeEntries bank m).any (fun e => e == 0 || decide (256 < e)) || !(s.layout bank m.layout).valid

/-- The used node records of a model, each with the LEAVES of its tree. -/
def modelNodes : Nat → List Nat → List (Nat × Nat)
  | _, [] => []
  | nb, L :: ls => (upTo (L - 1)).map (fun i => (nb + i, L)) ++ modelNodes (nb + (L - 1)) ls

/-- Whether a node record breaks order 5 of Table 14.7. -/
def nodeBad (l : LayoutDesc) (n L : Nat) : Bool :=
  let isBin := match l.feats[bits n 11 0]? with
    | some f => f.op == 2
    | none => false
  let th := bits n 43 12
  bits n 63 62 != 0 || bit n 61 != isBin || (bit n 61 && decide (65536 ≤ th)) ||
    (!bit n 61 && (unpack .fp32 th).isNan) || bits n 59 52 == 0 || decide (L - 1 < bits n 51 44 + bits n 59 52)

/-- Orders 2 to 7 of Table 14.7 on a bank. A model without nodes, or without leaves, has none that runs past the end. -/
def State.bankChecks (s : State) (bank : Nat) (poison : Bool) : Nat :=
  let ms := s.models bank
  let lays := ((upTo 64).map (s.layout bank)).filter (·.valid)
  let nodes := fun (m : ModelDesc) => modelNodes m.nodeBase (s.treeLeaves bank m)
  let size := fun (m : ModelDesc) => s.modelSize bank m
  firstFail [
    (lays.any (s.layoutBad bank) || ms.any (fun m => s.modelBad bank ms m.2), stBadValue),
    (ms.any (fun m => (decide (0 < (size m.2).1) && decide (4194304 < m.2.nodeBase + (size m.2).1)) ||
      (decide (0 < (size m.2).2) && decide (8388608 < m.2.leafBase + (size m.2).2))), stBadAddress),
    (ms.any (fun m => (nodes m.2).any (fun e => decide ((s.layout bank m.2.layout).nfeat ≤ bits (s.node e.1) 11 0))),
      stBadValue),
    (ms.any (fun m => (nodes m.2).any (fun e => nodeBad (s.layout bank m.2.layout) (s.node e.1) e.2)), stBadLayout),
    (ms.any (fun m => (upTo (size m.2).2).any (fun j => !finite32 (s.leaf (m.2.leafBase + j)))), stBadValue),
    (poison || (s.footprint bank).any (fun r => s.treeBad r.1 r.2), stPoison)]

/-- A rejected bank commit (R407), counted at lane 0 (R415, log entry 175). -/
def State.bankReject (s : State) (st : Nat) : State := (s.count cTeBankReject 0 1).raiseDev 0x5011 st 0

/-- Whether an NT DMA channel with a TREE destination runs or is held (Table 14.7, order 1). -/
def State.treeDma (s : State) : Bool :=
  (upTo 32).any (fun c => (s.chan (128 + c)).mode != .idle && regionOf (s.chan (128 + c)).act.dst == 7)

/-- The arrival of a bank commit (R407): CHECKING, or refused at order 1. -/
def State.bankCommit (s : State) : State × Nat :=
  if s.bank.mode ≠ 0 || s.treeDma then (s.bankReject stBankBusy, stBankBusy)
  else ({ s with bank := { s.bank with mode := 1 } }, stOk)

/-- The switch edge of a bank commit (R408, R410), counted at lane 0 (R415, log entry 175). -/
def State.bankSwitch (s : State) : State :=
  let nb := 1 - s.bank.active
  let fp := s.footprint nb
  let b := { s.bank with active := nb, seq := (s.bank.seq + 1) % 2 ^ 32, mode := 2,
                         damaged := s.bank.damaged.filter (fun d => fp.any (fun r => overlaps r.1 r.2 d.2.2 8)) }
  (({ s with bank := b }.count cTeBankCommit 0 1).raiseDev 0x5010 nb b.seq).drainCheck

/-- The end of the checks (R407, R408) and the commit's status. -/
def State.bankEnd (s : State) (poison : Bool) : State × Nat :=
  if s.bank.mode ≠ 1 then (s, stBankBusy)
  else
    let st := s.bankChecks (1 - s.bank.active) poison
    if st = stOk then (s.bankSwitch, stOk)
    else ({ s with bank := { s.bank with mode := 0 } }.bankReject st, st)

end Sys2Proof.Machine
end

