-- ==== Sys2Proof/Machine/Eth.lean ====
section
/-! DEFINITION. The commands of the Ethernet ports (file 11): link state, received and transmitted frames, flow control,
low-power idle and the queues' commands. -/

namespace Sys2Proof.Machine

/-- ETH_LINK_UP (R299): the PCS of a port in use and enabled aligns. One with a bad lane never does. -/
def ethLinkUp (o : PortOp) (s : State) : State :=
  match s.portBt o.port with
  | none => s
  | some bt =>
    if !s.portCfg o.port 0 || (s.port o.port).up || !s.lanesOk o.port bt ||
        !(if o.port = 192 then s.mcServes else s.running) then s
    else (s.setPort o.port { s.port o.port with up := true, lost := false }).raiseDev 0x4202 o.port 0

/-- The egress frames of a port that stand in no transmit queue are discarded (R299); queues that this empties have been empty
since the end of the tick (log entry 170). -/
def State.dropEgress (s : State) (p : Nat) : State :=
  let had := !s.egressEmpty p
  ((upTo 8).foldl (fun s tc =>
    let n := ((s.egress p tc).filter (fun t => t.queue.isNone)).length
    (s.setEgress p tc ((s.egress p tc).filter (fun t => t.queue.isSome))).ethCountN 44 p n) s).idleFrom p (s.inst tickUnits) had

/-- ETH_LINK_DOWN (R299). -/
def ethLinkDown (o : PortOp) (s : State) : State :=
  let x := s.port o.port
  if !x.up then s
  else ((s.setPort o.port { x with up := false, lost := true, lpiTx := false, lpiRx := false }).dropEgress o.port).raiseDev
    0x4203 o.port 0

/-- A frame enters its pipe when its header beats fit (R324, R346). -/
def State.pipePut (s : State) (o : EthRxOp) (bad : Bool) (bt : Nat) : State :=
  let giant := decide (s.maxFrame o.port < o.bytes.length)
  let bytes := o.bytes.take (s.maxFrame o.port)
  let p := s.dnum (dkey 0x4301 (o.port + 1)) % 8
  let t := s.inst o.at_
  let q := Tab.get [] s.net.pipes p
  let hb := headerBeats (s.parse o.port (if giant then bytes else bytes.take (bytes.length - 4))).1
  if 512 < (q.map (·.beats)).foldl (· + ·) 0 + hb then
    let s := s.count cPpHdrOverrun p 1
    s.raiseLimited p 0x4301 0xFF p (s.counter cPpHdrOverrun p)
  else
    let fr : RxFrame := { id := s.net.nextId, port := o.port, tick := edgeAfter s.now ((o.at_ + 8 * bt) / tickUnits), t := t, bytes := bytes,
                          bad := bad, bank := s.net.ruleBank, ver := s.net.ruleVer, beats := hb, giant := giant }
    { s with net := { s.net with nextId := s.net.nextId + 1, pipes := Tab.put [] s.net.pipes p (q ++ [fr]) } }

/-- A frame received on a port that is up (R300 to R304): counted; a good control frame acts; any other passes the address
filter to its pipe, or on MG to the MC. -/
def State.ethIn (s : State) (o : EthRxOp) : State :=
  match s.portBt o.port with
  | none => s
  | some bt =>
    if !s.portUp o.port then s
    else
      let bad := s.rxBad o
      let end_ := s.inst o.at_ + (8 + o.bytes.length) * bt
      let s := s.macCount o
      if isPfc o.bytes || isPause o.bytes || isLldp o.bytes then
        if bad then s
        else if isPfc o.bytes then (if o.port = 192 then s else s.pfcAct o.port end_ o.bytes)
        else if isLldp o.bytes then s.lldpAct o.port end_ o.bytes else s
      else if !s.addrPasses o.port o.bytes then s.ethCount 35 o.port
      else if o.port = 192 then s
      else s.pipePut o bad bt

/-- ETH_FRAME_RECEIVE (R300 to R304, R321, R324). -/
def ethFrameReceive (o : EthRxOp) (s : State) : State := s.ethIn o

/-- PFC_FRAME_RECEIVE (R303, R309). -/
def pfcFrameReceive (o : EthRxOp) (s : State) : State := if isPfc o.bytes then s.ethIn o else s

/-- PAUSE_FRAME_RECEIVE (R303). -/
def pauseFrameReceive (o : EthRxOp) (s : State) : State := if isPause o.bytes then s.ethIn o else s

/-- LLDP_RECEIVE (R303, R312). -/
def lldpReceive (o : EthRxOp) (s : State) : State := if isLldp o.bytes then s.ethIn o else s

/-- PFC_PAUSE_EXPIRE (R309). -/
def pfcPauseExpire (o : PauseOp) (s : State) : State :=
  let x := s.port o.port
  if s.pausedAt o.port o.tc.toNat (s.inst o.at_) then s
  else s.setPort o.port { x with pause := Tab.put 0 x.pause o.tc.toNat 0 }

/-- PFC_XOFF_REPEAT (R308): half the pause time after its last XOFF frame, for each class still above XON. -/
def pfcXoffRepeat (o : PortOp) (s : State) : State :=
  match s.portBt o.port with
  | none => s
  | some bt =>
    let t := s.inst o.at_
    let x := s.port o.port
    let due := (upTo 7).filter (fun tc =>
      let a := Tab.get 0 x.xoff tc
      a != 0 && decide (a - 1 + 2097120 * bt ≤ t) &&
        decide (1024 * s.dnum (dkey 0x4206 (o.port + 1)) < s.occupancy o.port tc))
    if due.isEmpty || !s.portUp o.port then s
    else
      let ch := due.map (fun tc => (tc, 0xFFFF))
      (s.setPort o.port { x with xoff := xoffAfter t ch x.xoff }).sendNow o.port t (s.pfcFrame o.port ch)

/-- LOSSLESS_FRAME_WRITE (R310). -/
def losslessFrameWrite (o : LosslessOp) (s : State) : State := s.losslessTry o.queue.toNat (s.inst o.at_)

/-- LOSSLESS_HOLD_TIMEOUT (R310). -/
def losslessHoldTimeout (o : LosslessOp) (s : State) : State := s.losslessTimeout o.queue.toNat (s.inst o.at_)

/-- Whether a class of a port is held back by a pending reply of a higher class, or by the port's next reply of the same class when
that fell due before every frame of the class was queued (R380). -/
def State.replyBlocks (s : State) (p tc : Nat) : Bool :=
  s.net.reqs.any (fun r => r.frame.port == p && r.reply.isNone && decide (tc < r.tc)) ||
    (s.nextReply p).any (fun r => r.tc == tc && (s.replyDue r).any (fun d => (s.egress p tc).all (fun i => decide (d < i.at_))))

/-- The class that a port serves next: the highest with a frame, neither paused nor held back (R306, R309, R380). -/
def State.nextClass (s : State) (p at_ : Nat) : Option Nat :=
  (upTo 8).reverse.find? (fun tc => !(s.egress p tc).isEmpty && !s.pausedAt p tc at_ && !s.replyBlocks p tc)

/-- The frame that an egress item sends: its bytes with FCS, and whether it was padded (R301, R305). -/
def State.itemFrame (s : State) (x : TxItem) (data : List Byte) : List Byte × Bool :=
  if x.fcs then (if x.stomp then stompFrame x.bytes else x.bytes, false)
  else
    let b := match x.queue with
      | some (q, i, n) => (match s.ethQ q with
        | some e => s.txData e i n data
        | none => [])
      | none => x.bytes
    (padFrame b ++ fcsOf (padFrame b), decide (b.length < 60))

/-- A transmit queue's frame has been read: its descriptors are written back and its interrupt is raised (R318, R428). -/
def State.txDone (s : State) (q i n : Nat) : State :=
  match s.ethQ q with
  | none => s
  | some x =>
    let s := (upTo n).foldl (fun s j => s.txBack x ((i + j) % x.entries) false) s
    (s.setQ q (some { x with head := (x.head + n) % x.entries })).queueIrq q x.part

/-- ETH_FRAME_TRANSMIT (R301, R305, R306, R318): the port's next frame, once the one before it has ended. -/
def ethFrameTransmit (o : EthTxOp) (s : State) : State :=
  match s.portBt o.port with
  | none => s
  | some bt =>
    let t := s.inst o.at_
    let x := s.port o.port
    if !s.portUp o.port || t < x.txEnd || s.net.reqs.any (fun r => r.frame.port == o.port && r.reply.isSome) then s
    else match s.nextClass o.port t with
      | none => s
      | some tc =>
        match s.egress o.port tc with
        | [] => s
        | i :: rest =>
          let f := s.itemFrame i o.data
          let s := s.setEgress o.port tc rest
          let s := if i.stomp then s.ethCount 36 o.port else s
          let s := if f.2 then s.ethCount 37 o.port else s
          let s := (s.emit (.ethFrame o.port f.1)).sentCount o.port f.1
          let s := match i.queue with
            | some (q, i, n) => s.txDone q i n
            | none => s
          let e := t + (8 + f.1.length + 12) * bt
          s.setPort o.port { s.port o.port with txEnd := e, idle := e }

/-- TAIL_READ_COMPLETE (R314). -/
def tailReadComplete (o : TailOp) (s : State) : State := s.tailReturn o.queue (s.inst o.at_) o.tail o.descs

/-- An access to register `r` of the page of a queue outside its partition's range (R433). -/
def State.pageViolate (s : State) (part q r : Nat) : State :=
  s.violate part 1 (if (upTo 4).any (fun n => s.ptEnabled n && s.queueIn n q) then 0 else 1)
    ((if 4096 ≤ q then 0x10000 + 16 * (q - 4096) else 16 * q) + r)

/-- Q_RX_DOORBELL and Q_TX_DOORBELL (R422, R427, R433): a host's write to the page of a queue, transmit queues counted from
4,096. A page outside its partition's range is a violation; one of an undefined queue is not. -/
def State.doorbellWrite (s : State) (part q : Nat) : State :=
  if !s.ptEnabled part then s
  else if s.queueIn part q then s.doorbell q
  else s.pageViolate part q 0

/-- LPI_TX_ENTRY (R311, R312). -/
def lpiTxEntry (o : PortOp) (s : State) : State :=
  let t := s.inst o.at_
  let x := s.port o.port
  if s.portUp o.port && s.lpiCap o.port && s.portCfg o.port 1 && (s.resolvedTw o.port t).isSome && !x.lpiTx &&
      s.egressEmpty o.port && decide (x.idle + 100000 * s.dnum (dkey 0x4208 (o.port + 1)) ≤ t) &&
      bits (s.dnum (dkey 0x4302 (o.port + 1))) 0 0 == 0 then
    (s.setPort o.port { x with lpiTx := true }).ethCount 41 o.port
  else s

/-- LPI_RX_ENTRY (R312). -/
def lpiRxEntry (o : PortOp) (s : State) : State :=
  let x := s.port o.port
  if s.portUp o.port && s.lpiCap o.port && s.portCfg o.port 1 && !x.lpiRx then
    (s.setPort o.port { x with lpiRx := true }).ethCount 42 o.port
  else s

/-- LPI_RX_EXIT (R312). -/
def lpiRxExit (o : PortOp) (s : State) : State :=
  let x := s.port o.port
  if x.lpiRx then s.setPort o.port { x with lpiRx := false } else s

/-- LLDP_TTL_EXPIRE (R312): the partner's EEE TLV ends. -/
def lldpTtlExpire (o : PortOp) (s : State) : State :=
  let x := s.port o.port
  match x.tw with
  | some (_, e) => if e ≤ s.inst o.at_ then s.setPort o.port { x with tw := none } else s
  | none => s

/-- LLDPDU_SEND (R312): an LLDPDU with the EEE TLV joins the port's egress queue of TC7 (log entry 43). -/
def lldpduSend (o : PortOp) (s : State) : State :=
  match s.portBt o.port with
  | none => s
  | some bt =>
    if s.lpiCap o.port && s.portCfg o.port 1 then
      s.egressPut o.port 7 (s.inst o.at_) ⟨0, none, none, lldpFrame o.port bt, false, false, s.inst o.at_⟩
    else s

def execEthLinkUp (o : PortOp) (s : State) : Out := .next (ethLinkUp o s)
def execEthLinkDown (o : PortOp) (s : State) : Out := .next (ethLinkDown o s)
def execEthFrameReceive (o : EthRxOp) (s : State) : Out := .next (ethFrameReceive o s)
def execPfcFrameReceive (o : EthRxOp) (s : State) : Out := .next (pfcFrameReceive o s)
def execPauseFrameReceive (o : EthRxOp) (s : State) : Out := .next (pauseFrameReceive o s)
def execLldpReceive (o : EthRxOp) (s : State) : Out := .next (lldpReceive o s)
def execPfcPauseExpire (o : PauseOp) (s : State) : Out := .next (pfcPauseExpire o s)
def execPfcXoffRepeat (o : PortOp) (s : State) : Out := .next (pfcXoffRepeat o s)
def execLosslessFrameWrite (o : LosslessOp) (s : State) : Out := .next (losslessFrameWrite o s)
def execLosslessHoldTimeout (o : LosslessOp) (s : State) : Out := .next (losslessHoldTimeout o s)
def execEthFrameTransmit (o : EthTxOp) (s : State) : Out := .next (ethFrameTransmit o s)
def execTailReadComplete (o : TailOp) (s : State) : Out := .next (tailReadComplete o s)
def execEthqDefine (o : MbxCmdOp) (s : State) : Out := .next (s.mbxRun 0x0401 o State.ethqDefine)
def execEthqFree (o : MbxCmdOp) (s : State) : Out := .next (s.mbxRun 0x0402 o State.ethqFree)
def execEthqQuery (o : MbxCmdOp) (s : State) : Out := .next (s.mbxRun 0x0403 o State.ethqQuery)
def execLpiTxEntry (o : PortOp) (s : State) : Out := .next (lpiTxEntry o s)
def execLpiRxEntry (o : PortOp) (s : State) : Out := .next (lpiRxEntry o s)
def execLpiRxExit (o : PortOp) (s : State) : Out := .next (lpiRxExit o s)
def execLldpTtlExpire (o : PortOp) (s : State) : Out := .next (lldpTtlExpire o s)
def execLldpduSend (o : PortOp) (s : State) : Out := .next (lldpduSend o s)

end Sys2Proof.Machine
end

