-- ==== Sys2Proof/Machine/Fabric.lean ====
section
/-! DEFINITION. Fabric links (file 10, R278 to R295): training, go-back-N retry, credits, the transmitter, and the re-map. -/

namespace Sys2Proof.Machine

/-! ### Training and leaving UP (R278 to R281) -/

/-- The width and the lanes used for a mask of lanes good at both ends (Table 10.2, step 2). -/
def chooseWidth (m : Nat) : Nat × Nat :=
  if m % 16 = 15 then (4, 15)
  else if m % 4 = 3 then (2, 3)
  else if m / 4 % 4 = 3 then (2, 12)
  else match (upTo 4).find? (fun i => bit m i) with
    | some i => (1, 2 ^ i)
    | none => (0, 0)

/-- The least one-way delay, rounded down (R279). -/
def leastDelay (d : List (Nat × Nat)) : Nat :=
  match d.map (fun p => (p.1 - p.2) / 2) with
  | [] => 0
  | a :: r => r.foldl min a

/-- A link leaves UP for `to_` (R281). -/
def State.leaveUp (s : State) (l : Nat) (to_ : LinkMode) : State :=
  let k := s.link l
  let lost := k.win.length + (k.queue.map (fun e => e.2.length)).foldl (· + ·) 0
  let k' : Link := { mode := to_, oldWidth := k.width, partner := k.partner, beacon := k.beacon, fresh := k.fresh }
  let s := ((s.setLink l k').count cFabFramesLost l lost).raiseDev 0x4101 l 0
  if (s.trained (s.linkDir l)).isEmpty then s.raiseDev 0x4104 (s.linkDir l) 0 else s

/-- An UP link returns to TRAINING (R280). -/
def State.retrain (s : State) (l : Nat) : State :=
  if (s.link l).mode == .up then (s.leaveUp l .training).count cFabRetrain l 1 else s

/-- The frames that waited for a direction take its links again once one is trained. -/
def State.flushWaiting (s : State) (dir : Nat) : State :=
  let mine := s.fab.waiting.filter (fun w => w.1 == dir)
  let rest := s.fab.waiting.filter (fun w => w.1 != dir)
  mine.foldl (fun s w => s.enqueueDir dir w.2.2) { s with fab := { s.fab with waiting := rest } }

/-- LINK_TRAIN (R278, R279): one attempt of a link in TRAINING. -/
def linkTrain (o : LinkTrainOp) (s : State) : State :=
  let l := o.link.val
  let k := s.link l
  if k.mode != .training then s
  else
    let s := s.count cFabTrain l 1
    let good := o.good.toNat &&& (15 - s.badLanes l)
    let cw := chooseWidth (good &&& o.theirs.toNat)
    let d := leastDelay o.delays
    let rank := s.rankOf o.coord.toNat
    let base : Link := { oldWidth := k.oldWidth, good := good, partner := rank, beacon := k.beacon, fresh := k.fresh }
    if cw.1 = 0 || !o.aligned then s.setLink l { base with mode := .failed }
    else if o.dims.toNat != s.dnum 0x410001 ||
        o.coord.toNat != s.step1 (s.dnum 0x410002) (s.linkDir l) ||
        o.dir != (if s.linkDir l % 2 = 0 then s.linkDir l + 1 else s.linkDir l - 1) then
      ((s.setLink l { base with mode := .refused }).count cFabMiswire l 1).raiseDev 0x4103 l rank
    else if s.dnum 0x410004 < d then s.setLink l { base with mode := .refused, delay := d }
    else
      let s := (s.setLink l { base with
        mode := .up, width := cw.1, used := cw.2, delay := d, fresh := k.fresh || k.oldWidth == 0,
        credit := [1024, 256, 256, 256, 256, 256, 256, 256] }).flushWaiting (s.linkDir l)
      if cw.1 < k.oldWidth then (s.count cFabWidthDown l 1).raiseDev 0x4102 l cw.1 else s

/-- LINK_TRAIN_RETRY (R278): a link in FAILED or REFUSED tries again. -/
def linkTrainRetry (o : LinkOp) (s : State) : State :=
  let k := s.link o.link.val
  if k.mode == .failed || k.mode == .refused then s.setLink o.link.val { k with mode := .training } else s

/-- LANE_LOCK_LOSS (R280). -/
def laneLockLoss (o : LinkOp) (s : State) : State := s.retrain o.link.val

/-- FAB_RETRAIN (R280): bits [63:48] are ignored. -/
def fabRetrain (o : RetrainOp) (s : State) : State :=
  ((upTo 48).filter (fun l => o.mask.getLsbD l)).foldl State.retrain s

/-- Uncorrectable codewords of a link in the 1,024-tick interval of the present tick (R280). -/
def State.uncorrNow (s : State) (l : Nat) : Nat :=
  let u := Tab.get (0, 0) s.fab.uncorr l
  if u.1 = s.now / 1024 then u.2 else 0

/-- FEC_UNCORR_CODEWORD (R280): nothing on a link that is absent, not FABRIC or UNUSED (R4, R276), or without power (R508). -/
def fecUncorr (o : LinkOp) (s : State) : State :=
  let l := o.link.val
  if s.power != .on || !s.fabricLink l then s
  else
    let n := s.uncorrNow l + 1
    let s := { s with fab := { s.fab with uncorr := Tab.put (0, 0) s.fab.uncorr l (s.now / 1024, n) } }.count cFabFecUncorr l 1
    if s.dnum 0x410005 < n then s.retrain l else s

/-! ### Acknowledgement, retry, credits (R282 to R284) -/

/-- The credits a link returns in its next frame: the first channel that has any (Table 10.3). -/
def Link.takeRet (k : Link) : Link × Nat × Nat :=
  match (upTo 8).find? (fun v => decide (0 < k.ret.getD v 0)) with
  | some v => ({ k with ret := k.ret.set v 0 }, v, k.ret.getD v 0)
  | none => (k, 0, 0)

/-- A CTRL frame of a KIND sent on a link, with credits. -/
def State.sendCtrl (s : State) (l kind seqRef : Nat) : State :=
  let r := (s.link l).takeRet
  (s.setLink l r.1).emit (.fabCtrl l (ctrlBytes kind seqRef r.2.1 r.2.2))

/-- Every channel's units that wait to go back are returned, each by a CTRL CREDIT (R284). -/
def State.sendCredits (s : State) (l : Nat) : State :=
  (upTo 8).foldl (fun s v => if (s.link l).ret.getD v 0 = 0 then s else s.sendCtrl l 3 0) s

/-- Credit units come back for a channel (R284). -/
def Link.addCredit (k : Link) (vc n : Nat) : Link := { k with credit := k.credit.set vc (k.credit.getD vc 0 + n) }

/-- An acknowledged SEQ releases every frame up to it (R283). -/
def Link.acked (k : Link) (seq : Nat) : Link :=
  match k.win.findIdx? (fun e => e.seq == seq) with
  | some i => { k with win := k.win.drop (i + 1), episodes := 0, episodeSeq := 256 }
  | none => k

/-- A resend from a SEQ in the window (R283): the frames that were kept, with the credits that they gave back, for a frame that was
refused has given none; ACK is the present one. The eighth episode in a row at one SEQ retrains the link. -/
def State.resend (s : State) (l seq : Nat) : State :=
  let k := s.link l
  match k.win.findIdx? (fun e => e.seq == seq) with
  | none => s
  | some i =>
    let fs := k.win.drop i
    let n := if k.episodeSeq == seq then k.episodes + 1 else 1
    let s := (s.setLink l { k with episodes := n, episodeSeq := seq }).count cFabRetry l 1
    if 8 ≤ n then s.retrain l
    else (fs.foldl (fun s e => s.sendData l e.seq k.lastAck e.vc e.credit e.frame) s).count cFabReplayFrames l fs.length

/-- The receiver refuses a frame: one NAK until the expected SEQ arrives (R283). -/
def State.refuseFrame (s : State) (l : Nat) : State :=
  let k := s.link l
  if k.nak then s else (s.setLink l { k with nak := true }).sendCtrl l 2 k.rxExp

/-- Whether a frame passes R282: TYPE 1, LEN that of its payload and at most 4,160, a good CRC. -/
def dataGood (o : FabDataOp) : Bool :=
  o.head.length == 16 && byteAt o.head 0 == 1#8 && beAt o.head 4 2 == payloadLen o.pay && decide (payloadLen o.pay ≤ 4160) &&
    o.fcs == fcsOf (o.head ++ payloadBytes o.pay)

/-- FAB_DATA_RECEIVE (R282, R283, R286, R287): accepted in sequence and routed on or delivered, or discarded. -/
def fabDataReceive (o : FabDataOp) (s : State) : State :=
  let l := o.link.val
  let k := s.link l
  if k.mode != .up then s
  else
    let s := s.count cFabFecCorr l o.corr
    if !dataGood o then (s.count cFabCrcErr l 1).refuseFrame l
    else if (byteAt o.head 1).toNat != k.rxExp then s.refuseFrame l
    else
      let f := headFrame o.head o.pay
      let k := (k.acked (byteAt o.head 2).toNat).addCredit ((byteAt o.head 10).toNat % 8) (beAt o.head 12 2)
      let k := { k with rxExp := (k.rxExp + 1) % 256, lastAck := (byteAt o.head 1).toNat, nak := false, noAck := k.noAck + 1,
                        ret := k.ret.set f.vc (k.ret.getD f.vc 0 + frameUnits f) }
      let s := (s.setLink l k).count cFabRxFrames l 1
      let s := if 16 ≤ k.noAck then (s.setLink l { k with noAck := 0 }).sendCtrl l 1 k.lastAck else s
      if f.dst = s.rank then s.emit (.delivered f)
      else if f.hops ≤ 1 then s.count cFabTtlDrop l 1
      else s.routeFrame l { f with hops := f.hops - 1 }

/-- Whether a CTRL frame passes R282. -/
def ctrlGood (o : FabCtrlOp) : Bool :=
  o.bytes.length == 16 && byteAt o.bytes 0 == 2#8 && o.bytes.drop 12 == fcsOf (o.bytes.take 12)

/-- SEQ_REF of a CTRL frame. -/
def ctrlRef (o : FabCtrlOp) : Nat := (byteAt o.bytes 2).toNat

/-- The part of a CTRL frame that every KIND has: a bad one is counted, credits are taken. One of another KIND than its command
names has no effect. -/
def State.ctrlIn (s : State) (kind : Nat) (o : FabCtrlOp) (f : State → State) : State :=
  let l := o.link.val
  if (s.link l).mode != .up then s
  else
    let s := s.count cFabFecCorr l o.corr
    if !ctrlGood o then (s.count cFabCrcErr l 1).refuseFrame l
    else if (byteAt o.bytes 1).toNat ≠ kind then s
    else f (s.setLink l ((s.link l).addCredit ((byteAt o.bytes 3).toNat % 8) (beAt o.bytes 4 2)))

/-- FAB_ACK_RECEIVE (R283). -/
def fabAckReceive (o : FabCtrlOp) (s : State) : State :=
  s.ctrlIn 1 o (fun s => s.setLink o.link.val ((s.link o.link.val).acked (ctrlRef o)))

/-- FAB_NAK_RECEIVE (R283). -/
def fabNakReceive (o : FabCtrlOp) (s : State) : State := s.ctrlIn 2 o (fun s => s.resend o.link.val (ctrlRef o))

/-- FAB_CREDIT_RECEIVE (R284). -/
def fabCreditReceive (o : FabCtrlOp) (s : State) : State := s.ctrlIn 3 o id

/-- FAB_IDLE_RECEIVE (R282, Table 10.3): idle fill; its credit field is as for DATA. -/
def fabIdleReceive (o : FabCtrlOp) (s : State) : State := s.ctrlIn 4 o id

/-- Whether a frame is a scheduled transfer that the guard holds (R73): collective units and exchange hops. -/
def scheduledFrame (f : Frame) : Bool :=
  match f.pay with
  | .coll _ => f.vc == 0
  | .exch .. => true
  | .exchEnd .. => true
  | _ => false

/-- Bytes of line time: header, payload, CRC and PCS delimiters (R282). -/
def lineBytes (f : Frame) : Nat := 16 + payloadLen f.pay + 4 + 8

/-- Whether a frame sent `nclk` into the tick arrives before the guard begins (R73): 64 bytes each NCLK at width 4. -/
def State.beforeGuard (s : State) (k : Link) (nclk : Nat) (f : Frame) : Bool :=
  decide ((nclk + k.delay) * (16 * k.width) + lineBytes f ≤ (10 * s.clk.len - 10 * s.dnum 0x600003) * (16 * k.width))

/-- The order in which the channels are served when the turn is pair `rr` (R284): VC0, VC7, then the pairs in turn. -/
def vcOrder (rr : Nat) : List Nat :=
  [0, 7] ++ (if rr % 3 = 0 then [5, 6, 3, 4, 1, 2] else if rr % 3 = 1 then [3, 4, 1, 2, 5, 6] else [1, 2, 5, 6, 3, 4])

/-- The turn after a channel has been served. -/
def nextTurn (rr vc : Nat) : Nat :=
  if vc = 5 || vc = 6 then 1 else if vc = 3 || vc = 4 then 2 else if vc = 1 || vc = 2 then 0 else rr

/-- Whether a channel's head could be sent: it has credit (R284). -/
def Link.ready (k : Link) (v : Nat) : Bool :=
  match Tab.get [] k.queue v with
  | [] => false
  | f :: _ => decide (frameUnits f ≤ k.credit.getD v 0)

/-- Whether the guard holds a channel's head (R73). -/
def State.guardHolds (s : State) (k : Link) (nclk v : Nat) : Bool :=
  match Tab.get [] k.queue v with
  | [] => false
  | f :: _ => scheduledFrame f && !s.beforeGuard k nclk f

/-- The head of a channel sent, with its sequence number and the credits due. -/
def State.sendHead (s : State) (l v : Nat) : State :=
  let k := s.link l
  match Tab.get [] k.queue v with
  | [] => s
  | f :: r =>
    let t := k.takeRet
    let k' := { t.1 with
      queue := Tab.put [] k.queue v r, held := Tab.put 0 k.held v 0, rr := nextTurn k.rr v,
      credit := k.credit.set v (k.credit.getD v 0 - frameUnits f), win := k.win ++ [⟨k.txSeq, f, t.2.1, t.2.2⟩],
      txSeq := (k.txSeq + 1) % 256, noAck := 0, guardHeld := k.guardHeld.filter (· != v) }
    (((s.setLink l k').sendData l k.txSeq k.lastAck t.2.1 t.2.2 f).count cFabTxFrames l 1).count cFabTxBytes l
      (payloadLen f.pay)

/-- FAB_FRAME_TRANSMIT (R284): the next frame by channel order that has credit; a scheduled one that would not complete
before the guard is held, counted once, and the channels behind it take their turn (R73). -/
def fabFrameTransmit (o : FabTxOp) (s : State) : State :=
  let l := o.link.val
  let k := s.link l
  if k.mode != .up || decide (64 ≤ k.win.length) then s
  else
    let order := (vcOrder k.rr).filter k.ready
    let holds := s.guardHolds k o.nclk
    let new := (order.takeWhile holds).filter (fun v => !k.guardHeld.contains v)
    let s := (s.setLink l { k with guardHeld := k.guardHeld ++ new }).count cSchedBurstHeld 0 new.length
    match order.find? (fun v => !holds v) with
    | some v => s.sendHead l v
    | none => s

/-- FAB_ACK_TIMER (R283): a CTRL ACK while accepted frames are unacknowledged, and the units freed go back (R284). -/
def fabAckTimer (o : LinkOp) (s : State) : State :=
  let k := s.link o.link.val
  if k.mode == .up && decide (0 < k.noAck) then
    ((s.setLink o.link.val { k with noAck := 0 }).sendCtrl o.link.val 1 k.lastAck).sendCredits o.link.val
  else s

/-- FAB_NAK_REPEAT (R283). -/
def fabNakRepeat (o : LinkOp) (s : State) : State :=
  let k := s.link o.link.val
  if k.mode == .up && k.nak then s.sendCtrl o.link.val 2 k.rxExp else s

/-- FAB_RETRY_TIMEOUT (R283): a resend from the oldest frame. -/
def fabRetryTimeout (o : LinkOp) (s : State) : State :=
  let k := s.link o.link.val
  match k.mode, k.win with
  | .up, e :: _ => (s.count cFabRetryTimeout o.link.val 1).resend o.link.val e.seq
  | _, _ => s

/-- FAB_STALL_DROP (R287): the head held for 16 ticks is discarded. -/
def fabStallDrop (o : FabStallOp) (s : State) : State :=
  let l := o.link.val
  if !s.fabricLink l then s
  else if o.noLink then
    match s.fab.waiting.find? (fun w => w.1 == s.linkDir l && w.2.2.vc == o.vc.toNat && decide (16 ≤ w.2.1)) with
    | some w => { s with fab := { s.fab with waiting := s.fab.waiting.erase w } }.count cFabStallDrop l 1
    | none => s
  else
    let k := s.link l
    let v := o.vc.toNat
    if 16 ≤ Tab.get 0 k.held v then
      (s.setLink l { k with queue := Tab.put [] k.queue v (Tab.get [] k.queue v).tail,
                            held := Tab.put 0 k.held v 0 }).count cFabStallDrop l 1
    else s

/-- Frames without a link, one tick later: of each direction and channel the first is at the head (R287). -/
def ageHeads : List (Nat × Nat) → List (Nat × Nat × Frame) → List (Nat × Nat × Frame)
  | _, [] => []
  | seen, w :: r =>
    if seen.contains (w.1, w.2.2.vc) then w :: ageHeads seen r
    else (w.1, w.2.1 + 1, w.2.2) :: ageHeads ((w.1, w.2.2.vc) :: seen) r

/-- A link at a tick edge: every head without credit has been held one tick more (R287), and the guard ends (R73). -/
def Link.holdTick (k : Link) : Link :=
  let held := (upTo 8).foldl (fun h v =>
    if (Tab.get [] k.queue v).isEmpty || k.ready v then Tab.put 0 h v 0 else Tab.put 0 h v (Tab.get 0 h v + 1)) k.held
  { k with held := held, guardHeld := [] }

/-- At a tick edge the heads that are held grow older (R287), and the UP links return the units freed (R284). -/
def State.holdTicks (s : State) : State :=
  let s := (s.fab.links.map (·.1)).foldl (fun s l => s.setLink l (s.link l).holdTick) s
  let s := { s with fab := { s.fab with waiting := ageHeads [] s.fab.waiting } }
  s.upLinks.foldl State.sendCredits s

/-! ### The re-map (R291 to R294) -/

/-- REMAP_GEN. -/
def State.remapGen (s : State) : Nat := s.dnum 0x410009

/-- A bitmap of ranks, 2,048 bytes (R292). -/
def rankBitmap (a : List Nat) : List Byte :=
  (upTo 2048).map (fun j => BitVec.ofNat 8 (((upTo 8).map (fun i => if a.contains (8 * j + i) then 2 ^ i else 0)).foldl (· + ·) 0))

/-- REMAP_REPORT_RECEIVE (R292): recorded and forwarded once. -/
def remapReportReceive (o : ReportOp) (s : State) : State :=
  let r := s.fab.remap
  if !r.active || o.gen.toNat != (s.remapGen + 1) % 2 ^ 32 || r.reports.any (fun e => e.1 == o.rank.toNat) then s
  else { s with fab := { s.fab with remap := { r with
      reports := r.reports ++ [(o.rank.toNat, o.leaving, o.named, o.lost)] } } }.flood
    (some o.link.val) (.report o.gen.toNat o.rank.toNat o.leaving o.named o.lost)

/-- Pairs in ascending order of the lower, then the higher rank. -/
def pairLe (a b : Nat × Nat) : Bool := decide (a.1 < b.1) || (a.1 == b.1 && decide (a.2 ≤ b.2))

/-- The absent set of Table 10.6 from the reports received. -/
def absentSet (size : Nat) (reports : List (Nat × Bool × List Nat × List Nat)) : List Nat :=
  let base := (upTo size).filter (fun r =>
    match reports.find? (fun e => e.1 == r) with
    | none => true
    | some e => e.2.1 || reports.any (fun q => q.2.2.1.contains r))
  let pairs := ((reports.flatMap (fun e => e.2.2.2.map (fun p => (min e.1 p, max e.1 p)))).eraseDups).mergeSort pairLe
  let has := fun r => reports.any (fun e => e.1 == r)
  (pairs.foldl (fun a p => if has p.1 && has p.2 && !a.contains p.1 && !a.contains p.2 then a ++ [p.2] else a)
    base).mergeSort (fun a b => decide (a ≤ b))

/-- REMAP_COLLECT_END (R292): at t_r + C the absent set is computed and its CONFIRM flooded. -/
def remapCollectEnd (s : State) : State :=
  let r := s.fab.remap
  if !r.active || r.computed || s.now != (r.tr + s.dnum 0x410007) % 2 ^ 48 then s
  else
    let a := absentSet s.podSize r.reports
    let crc := crc32 (rankBitmap a)
    let r' := { r with absent := a, computed := true, confirms := r.confirms ++ [(s.rank, crc)] }
    { s with fab := { s.fab with remap := r' } }.flood none (.confirm ((s.remapGen + 1) % 2 ^ 32) s.rank crc)

/-- REMAP_CONFIRM_RECEIVE (R292): recorded and forwarded once. -/
def remapConfirmReceive (o : ConfirmOp) (s : State) : State :=
  let r := s.fab.remap
  if !r.active || o.gen.toNat != (s.remapGen + 1) % 2 ^ 32 || r.confirms.any (fun e => e.1 == o.rank.toNat) then s
  else { s with fab := { s.fab with remap := { r with confirms := r.confirms ++ [(o.rank.toNat, o.crc.toNat)] } } }.flood
    (some o.link.val) (.confirm o.gen.toNat o.rank.toNat o.crc.toNat)

/-- The ranks that a module reaches in the torus with `a` removed, by layers. -/
def State.reach (s : State) (a : List Nat) : Nat → List Nat → List Nat → List Nat
  | 0, _, seen => seen
  | fuel + 1, cur, seen =>
    if cur.isEmpty then seen
    else
      let nxt := (cur.flatMap (fun r => (upTo 6).map (s.neighbour r))).eraseDups.filter
        (fun r => !seen.contains r && !a.contains r)
      State.reach s a fuel nxt (seen ++ nxt)

/-- Entry r of a rank map of U16 (SERVE_MAP, BUDDY_MAP). -/
def mapAt (m : List Byte) (r : Nat) : Nat := leAt m (2 * r) 2

/-- A rank map with entry r set. -/
def mapSet (m : List Byte) (r v : Nat) : List Byte := patch m (2 * r) (leBytes 2 v)

/-- The rank that the lowest remaining module has. -/
def lowestRemaining (size : Nat) (a : List Nat) : Nat := ((upTo size).find? (fun r => !a.contains r)).getD 0

/-- The repairs whose buddy has left the pod end as lost (R204), and what waited for them goes on. -/
def State.repairsLeft (s : State) : State :=
  ((s.mem.poison.filter (fun p => p.repair && (s.repairable p.gran.tier p.gran.addr).isNone)).foldl
    (fun s p => s.loseGranule p.gran.tier p.gran.addr) s).repairsEnd

/-- R294: the absent set takes force, shards move to buddies (R236), and the tick master moves when it is absent. -/
def State.applyAbsent (s : State) (a : List Nat) : State :=
  let buddy := s.dget 0x730004
  let serve := a.foldl (fun m r => mapSet m r (mapAt buddy r)) (s.dget 0x730001)
  let adopted := a.filter (fun r => mapAt buddy r == s.rank && !s.fab.absent.contains r)
  let s := ((s.dput 0x41000A (rankBitmap a)).dputNum 0x410009 4 ((s.remapGen + 1) % 2 ^ 32)).dput 0x730001 serve
  let s := { s with fab := { s.fab with absent := a }, coll := { s.coll with standEv := false } }.repairsLeft
  let s := adopted.foldl (fun s r => (s.raiseDev 0x7011 r 0).count cEuShardAdopted 0 1) s
  if a.contains (s.rankOf (s.dnum 0x600002)) && (s.dnum 0x600001 == 2) then
    let m := lowestRemaining s.podSize a
    let s := if m = s.rank then
        { s.dputNum 0x600001 1 0 with clk := { s.clk with holdover := false, noBeacon := 0 } }
      else s
    (s.dputNum 0x600002 4 (s.coordOf m)).raiseDev 0x4108 m s.now
  else s

/-- REMAP_APPLY (R292 to R294): at t_r + 2C the module halts on disagreement, is fenced, finds the pod parted or a shard
lost, or applies the absent set. -/
def remapApply (s : State) : State :=
  let r := s.fab.remap
  if !r.active || !r.computed || s.now != (r.tr + 2 * s.dnum 0x410007) % 2 ^ 48 then s
  else
    let a := r.absent
    let own := crc32 (rankBitmap a)
    let off := fun (s : State) => { s with fab := { s.fab with remap := { s.fab.remap with active := false } } }
    if r.confirms.any (fun c => c.2 != own) then (off (s.raiseDev 0x4105 ((s.remapGen + 1) % 2 ^ 32) own)).enterHalted
    else if a.contains s.rank then
      let s := (upTo 48).foldl (fun s l =>
        if s.fabricLink l then (if (s.link l).mode == .up then s.leaveUp l .disabled
          else s.setLink l { s.link l with mode := .disabled }) else s) s
      (off ({ s with fab := { s.fab with fenced := true, leaving := true } }.raiseDev 0x4106 s.rank
        ((s.remapGen + 1) % 2 ^ 32))).enterHalted
    else
      let seen := s.reach a 16384 [s.rank] [s.rank]
      match (upTo s.podSize).find? (fun q => !a.contains q && !seen.contains q) with
      | some q => (off (s.raiseDev 0x4107 q 0)).enterHalted
      | none =>
        let buddy := s.dget 0x730004
        let lost := a.filter (fun q => mapAt buddy q == 0xFFFF || a.contains (mapAt buddy q))
        if lost.isEmpty then
          let s := s.applyAbsent a
          { s with fab := { s.fab with remap := { s.fab.remap with active := false } } }
        else (off (lost.foldl (fun s q => s.raiseDev 0x7012 q 0) s)).enterHalted

/-! ### The commands -/

def execLinkTrain (o : LinkTrainOp) (s : State) : Host.Outcome State Fault Refusal := .next (linkTrain o s)
def execLinkTrainRetry (o : LinkOp) (s : State) : Host.Outcome State Fault Refusal := .next (linkTrainRetry o s)
def execLaneLockLoss (o : LinkOp) (s : State) : Host.Outcome State Fault Refusal := .next (laneLockLoss o s)
def execFabRetrain (o : RetrainOp) (s : State) : Host.Outcome State Fault Refusal := .next (fabRetrain o s)
def execFecUncorrCodeword (o : LinkOp) (s : State) : Host.Outcome State Fault Refusal := .next (fecUncorr o s)
def execFabDataReceive (o : FabDataOp) (s : State) : Host.Outcome State Fault Refusal := .next (fabDataReceive o s)
def execFabAckReceive (o : FabCtrlOp) (s : State) : Host.Outcome State Fault Refusal := .next (fabAckReceive o s)
def execFabNakReceive (o : FabCtrlOp) (s : State) : Host.Outcome State Fault Refusal := .next (fabNakReceive o s)
def execFabCreditReceive (o : FabCtrlOp) (s : State) : Host.Outcome State Fault Refusal := .next (fabCreditReceive o s)
def execFabIdleReceive (o : FabCtrlOp) (s : State) : Host.Outcome State Fault Refusal := .next (fabIdleReceive o s)
def execFabFrameTransmit (o : FabTxOp) (s : State) : Host.Outcome State Fault Refusal := .next (fabFrameTransmit o s)
def execFabAckTimer (o : LinkOp) (s : State) : Host.Outcome State Fault Refusal := .next (fabAckTimer o s)
def execFabNakRepeat (o : LinkOp) (s : State) : Host.Outcome State Fault Refusal := .next (fabNakRepeat o s)
def execFabRetryTimeout (o : LinkOp) (s : State) : Host.Outcome State Fault Refusal := .next (fabRetryTimeout o s)
def execFabStallDrop (o : FabStallOp) (s : State) : Host.Outcome State Fault Refusal := .next (fabStallDrop o s)
def execRemapReportReceive (o : ReportOp) (s : State) : Host.Outcome State Fault Refusal := .next (remapReportReceive o s)
def execRemapCollectEnd (s : State) : Host.Outcome State Fault Refusal := .next (remapCollectEnd s)
def execRemapConfirmReceive (o : ConfirmOp) (s : State) : Host.Outcome State Fault Refusal := .next (remapConfirmReceive o s)
def execRemapApply (s : State) : Host.Outcome State Fault Refusal := .next (remapApply s)

end Sys2Proof.Machine
end

