-- ==== Sys2Proof/Machine/Part.lean ====
section
/-! DEFINITION. Partitions becoming ENABLED and being cleared (R420, R421, R479), a host reset of an endpoint (R435, R436),
and the edges at which the device releases its outputs or holds them (R477, R479, R480). -/

namespace Sys2Proof.Machine

/-! ### Clearing a partition (R421) -/

/-- Zeros over [a, a+n) of a tier: granules covered whole are good again (R205), and the log says so (R208). -/
def State.zeroTier (s : State) (tier a n : Nat) : State :=
  let whole := s.mem.poison.filter (fun p =>
    p.gran.tier == tier && decide (a ≤ p.gran.addr) && decide (p.gran.addr + granLen tier ≤ a + n))
  let s := whole.foldl (fun s p => (s.ueOutcome tier p.gran.addr 3 0).clearPoison tier p.gran.addr) s
  if tier = 0 then { s with t0 := s.t0.zeroRange a n }
  else if tier = 1 then { s with t1 := s.t1.zeroRange a n }
  else { s with t2 := s.t2.zeroRange a n }.dropLines a n

/-- The numbers below `n` whose bit of a partition's mask entry is set. -/
def State.maskBits (s : State) (p sub n : Nat) : List Nat :=
  let m := s.dnum (ptKey p sub)
  (upTo n).filter (fun k => bit m k)

/-- The DMA channels that a partition's entries name. -/
def State.ptChans (s : State) (p : Nat) : List Nat :=
  (s.maskBits p 6 64) ++ ((s.maskBits p 7 64).map (· + 64)) ++ ((s.maskBits p 8 32).map (· + 128))

/-- The objects, tables and collectives of a partition are freed (R421). -/
def State.freeTables (s : State) (p : Nat) : State :=
  let mine := s.mem.objects.filter (fun e => e.1 / 65536 == p)
  let s := mine.foldl (fun s e => match e.2 with
    | some d => s.loseObject (objDesc d)
    | none => s) s
  { s with
    mem := { s.mem with objects := s.mem.objects.filter (fun e => e.1 / 65536 != p) }
    emb := { s.emb with tables := s.emb.tables.filter (fun e => e.1 / 4096 != p)
                        steps := s.emb.steps.filter (fun e => e.1 / 4096 != p)
                        stage := s.emb.stage.filter (fun r => r.part != p)
                        late := s.emb.late.filter (fun r => r.part != p)
                        deferred := s.emb.deferred.filter (fun k => k.part != p)
                        crema := s.emb.crema.filter (fun e => match e.2 with
                          | some l => l.key.part != p
                          | none => true) }
    coll := { s.coll with defs := s.coll.defs.filter (fun e => e.1 / 256 != p) } }

/-- What the clearing of a partition covers, of the resources that it holds (R421, steps 3 and 7). -/
def State.ptZones (s : State) (p : Nat) : List Zone :=
  let sc0 := s.ptScratch p 0
  let sc1 := s.ptScratch p 1
  let fence := s.ptRange p 12
  [.bytes 0 sc0.1 sc0.2, .bytes 0 (scratchSize + sc1.1) sc1.2, .bytes 1 (s.ptT1 p).1 (s.ptT1 p).2,
   .bytes 2 (s.ptT2 p).1 (s.ptT2 p).2, .fences fence.1 fence.2] ++
    (s.maskBits p 3 256).map .core ++ (s.ptChans p).map .chan

/-- Zeros over one part of what a clearing covers (R421, step 7). -/
def State.zeroZone (s : State) : Zone → State
  | .bytes tier a n => s.zeroTier tier a n
  | .core k =>
    { s with lmem := s.lmem.zeroRange (k * 2 ^ 18) (2 ^ 18)
             mem := { s.mem with lmBad := s.mem.lmBad.filter (fun w => w / 2 ^ 18 != k) } }
  | .fences first n => { s with fences := s.fences.filter (fun e => !inRange (first, n) (e.1 % 1024)) }
  | .chan _ => s

/-- Whether a channel that a clearing waits for still has bursts outstanding (R171). -/
def State.zoneBusy (s : State) : Zone → Bool
  | .chan ch => (s.chan ch).mode != .idle
  | _ => false

/-- PT_ENABLE from 1 to 0 at the commit edge (R421), under the resources that the partition holds until then. -/
def State.ptDisable (s : State) (p : Nat) : State :=
  let s := (s.maskBits p 3 256).foldl (fun s k => s.setCore k (s.core k).halt) s
  let s := (s.maskBits p 4 72).foldl State.meFlush s
  let s := (s.maskBits p 5 16).foldl State.euFlush s
  let s := (s.ptChans p).foldl (fun s ch => s.dmaAbort ch) s
  let qs := (s.net.queues.filter (fun e => e.2.any (fun q => q.part == p))).map (·.1)
  let s := (qs.foldl State.freeQueue s).freeTables p
  let s := s.dput (dkey 0x4700 (p + 1)) (List.replicate 1024 255#8)
  let watch := s.host.watch.map (fun e => if e.1 / 64 == p then (e.1, { e.2 with en := false }) else e)
  let zones := s.ptZones p
  zones.foldl State.zeroZone
    { s with host := { s.host with watch := watch, pt := Tab.put .disabled s.host.pt p .clearing,
                                   zones := Tab.put [] s.host.zones p zones } }

/-- PT_ENABLE from 0 to 1 at the commit edge (R420), in RUN. -/
def State.ptEnableUp (s : State) (p : Nat) : State :=
  if s.running then { s with host := { s.host with pt := Tab.put .disabled s.host.pt p .enabled } } else s

/-! ### Host reset (R435, R436) -/

/-- The partition bound to an endpoint code (PT_ENDPOINT, Table 15.2). -/
def State.boundPart (s : State) (e : Nat) : Option Nat := (upTo 4).find? (fun n => s.dnum (ptKey n 2) == e && e != 0)

/-- The MSI-X vectors of a partition masked (PCIe): the function's reset clears the table. -/
def State.maskVectors (s : State) (p : Nat) : State :=
  { s with host := { s.host with msix := s.host.msix.filter (fun e => e.1 / 2048 != p) } }

/-- A host reset of the partition bound to an endpoint (R436). -/
def State.hostResetPart (s : State) (p : Nat) : State :=
  let qs := (s.net.queues.filter (fun e => e.2.any (fun q => q.part == p && q.host))).map (·.1)
  let s := (qs.foldl State.freeQueue s).maskVectors p
  let hcq := s.host.hcq.map (fun e => if e.1 / 16 == p then (e.1, { e.2 with en := false }) else e)
  let m := Tab.get ({} : Mailbox) s.host.mbx p
  let s := { s with host := { s.host with hcq := hcq } }.setMbx p (if m.busy then { m with discard := true } else m)
  let own := Tab.get ({} : Requestee) s.dap.reqs (65536 + p)
  { s with dap := { s.dap with reqs := Tab.put {} s.dap.reqs (65536 + p) { own with items := [], block := none } } }

/-- A host reset of an endpoint (R435, R436, R451): its partition's, and the stage set of its own mailbox. `lost`: the
link goes down; otherwise Bus Master Enable is cleared. EV_PT_HOST_DOWN is raised where the host was up. -/
def State.hostReset (s : State) (e : Nat) (lost : Bool) : State :=
  let x := Tab.get {} s.host.endpts e
  let x' : Endpoint := if lost then {} else { x with bme := false }
  let s := { s with host := { s.host with endpts := Tab.put {} s.host.endpts e x' }
                    dap := { s.dap with reqs := Tab.put {} s.dap.reqs (65540 + e) {} } }
  let m := Tab.get ({} : Mailbox) s.host.mbx (4 + e)
  let s := if m.busy then s.setMbx (4 + e) { m with discard := true } else s
  match s.boundPart e with
  | none => s
  | some p => (s.hostResetPart p).raise 0x3001 p e 0

/-! ### RUN and the hold (R477 to R480) -/

/-- The FABRIC links of dimensions above 1 begin training; those of a dimension of 1 are UNUSED (R276, R278, R479). A fenced
module's stay in electrical idle until a device reset (R293). -/
def State.startLinks (s : State) : State :=
  (upTo s.variant.links).foldl (fun s l =>
    if s.quadMode (l / 4) = 1 then
      s.setLink l { mode := if s.dim (s.linkDir l / 2) ≤ 1 then .unused else if s.fab.fenced then .disabled else .training }
    else s.setLink l { mode := .disabled }) s

/-- The edge at which the device enters RUN (R479): partitions, BARs, links and ports; the endpoint mailboxes' stage sets
end (R451). -/
def State.enterRun (s : State) : State :=
  let s := { s with boot := { s.boot with state := 8 } }
  let s := (upTo 4).foldl (fun s p => if s.dnum (ptKey p 1) = 1 then s.ptEnableUp p else s) s
  let s := s.startLinks
  let s := (upTo 193).foldl (fun s p => s.setPort p { s.port p with lost := false }) s
  let s := { s with dap := { s.dap with reqs := s.dap.reqs.filter (fun e => decide (e.1 < 65540)) } }
  s.raiseDev 0x2002 (s.dnum 0x200004) 0

/-- Links and ports leave service: every UP link leaves UP (R281), every port goes down (R299). `to_` is the links' state. -/
def State.dropOutputs (s : State) (to_ : LinkMode) : State :=
  let s := (upTo 48).foldl (fun s l =>
    if (s.link l).mode == .up then s.leaveUp l to_
    else if (s.link l).mode == .disabled then s else s.setLink l { mode := to_ }) s
  (upTo 192).foldl (fun s p =>
    if (s.port p).up then
      ethLinkDown ⟨p, 0⟩ s
    else s) s

/-- The hold edge of HOLD_REQUESTED (R480): ports and links go down; the pod sees the beacons stop. -/
def State.enterHold (s : State) : State :=
  let s := s.dropOutputs .down
  { s with boot := { s.boot with state := 7 } }.raiseDev 0x2001 0 0

/-- PT_CLEAR_COMPLETE (R421): the zeroing of a CLEARING partition ends, once its aborted channels have completed (R171): what its
engines, EUs and channels finished meanwhile is zeroed too. -/
def ptClearComplete (o : PartOp) (s : State) : State :=
  let n := o.part.toNat
  let zones := Tab.get [] s.host.zones n
  if s.ptState n == .clearing && !zones.any s.zoneBusy then
    let s := zones.foldl State.zeroZone s
    { s with host := { s.host with pt := Tab.put .disabled s.host.pt n .disabled, zones := Tab.put [] s.host.zones n [] } }.raise
      0x3003 n 0 0
  else s

end Sys2Proof.Machine
end

