-- ==== Sys2Proof/Machine/Host.lean ====
section
/-! DEFINITION. What a host does through its BARs (file 15): doorbells, core posts, fence watches, completion queues,
interrupts (R426 to R431), the T1 aperture (R425), and an endpoint's reset and return (R435 to R437). -/

namespace Sys2Proof.Machine

/-! ### BAR0 (Table 15.5) -/

/-- Q_RX_DOORBELL (R427). -/
def qRxDoorbell (o : DoorbellOp) (s : State) : State := s.doorbellWrite o.part.toNat o.queue.toNat

/-- Q_TX_DOORBELL (R427). -/
def qTxDoorbell (o : DoorbellOp) (s : State) : State := s.doorbellWrite o.part.toNat (4096 + o.queue.toNat % 1024)

/-- A write to register `r` of a queue's page beside the doorbell: to Q_RX_IRQ or Q_TX_IRQ, whose reserved bits are ignored (R13,
R433); the others are read-only. -/
def State.pageWrite (s : State) (part q r v : Nat) : State :=
  if !s.queueIn part q then s.pageViolate part q r
  else if r = 12 && (s.ethQ q).isSome then
    { s with host := { s.host with qirq := Tab.put {} s.host.qirq q ⟨bits v 10 0, bit v 11, bits v 23 16⟩ } }
  else s

/-- A host's post to a core (R429). -/
def State.scPostWrite (s : State) (part k payload : Nat) : State :=
  if s.coreOk k && s.coreOwner k == some part then s.mbxPost k 5 part payload
  else s.violate part 1 (if !s.coreOk k then 2 else if (s.coreOwner k).isSome then 0 else 1) (0x30000 + 8 * k)

/-- SC_POST (R429). -/
def scPost (o : ScPostOp) (s : State) : State :=
  if s.ptEnabled o.part.toNat then s.scPostWrite o.part.toNat o.core.toNat o.payload.toNat else s

/-! ### Fence watches and completion queues in BAR2 (R430, R431) -/

/-- A write to FW_CTRL_w (R430): an armed watch that is satisfied fires at once. -/
def State.watchCtrl (s : State) (part w v : Nat) : State :=
  let k := 64 * part + w
  let f := bits v 9 0
  let t := bits v 10 10
  if bit v 11 && (!inRange (s.ptRange part 12) f || decide (s.variant.tiles ≤ t)) then
    s.violate part 2 (if s.variant.tiles ≤ t then 2 else if (s.fenceOwner f).isSome then 0 else 1) (0x3000 + 16 * w)
  else
    let x := Tab.get ({} : Watch) s.host.watch k
    let y : Watch := ⟨f, t, bit v 11, bits v 15 12, x.value⟩
    { s with host := { s.host with watch := Tab.put {} s.host.watch k y } }.fireWatches t f

/-- A write to FW_VALUE_w: an armed watch that is now satisfied fires. -/
def State.watchValue (s : State) (part w v : Nat) : State :=
  let k := 64 * part + w
  let x := Tab.get ({} : Watch) s.host.watch k
  { s with host := { s.host with watch := Tab.put {} s.host.watch k { x with value := BitVec.ofNat 32 v } } }.fireWatches
    x.tile x.fence

/-- FENCE_WATCH_ARM (R430). -/
def fenceWatchArm (o : WatchOp) (s : State) : State :=
  if s.ptEnabled o.part.toNat then s.watchCtrl o.part.toNat o.w.toNat o.ctrl.toNat else s

/-- Whether n is a power of two from 16 to 4,096 (HCQ_SIZE). -/
def hcqSizeOk (n : Nat) : Bool := [16, 32, 64, 128, 256, 512, 1024, 2048, 4096].contains n

/-- A 32-bit word written to the registers of a completion queue (Table 15.8); a reserved HCQ_SIZE keeps the field (R13). -/
def Hcq.write (q : Hcq) (off v : Nat) : Hcq :=
  if off = 0 then { q with base := BitVec.ofNat 64 (q.base.toNat / 2 ^ 32 * 2 ^ 32 + v / 16 * 16) }
  else if off = 4 then { q with base := BitVec.ofNat 64 (v * 2 ^ 32 + q.base.toNat % 2 ^ 32) }
  else if off = 8 then { q with size := if hcqSizeOk (bits v 12 0) then bits v 12 0 else q.size }
  else if off = 0xC then { q with head := bits v 11 0 }
  else if off = 0x10 then
    let q := { q with vector := bits v 10 0, irqEn := bit v 11, en := bit v 12, holdoff := bits v 23 16 }
    if bit v 12 then { q with tail := 0, phase := true } else q
  else if off = 0x14 then { q with ovf := q.ovf && !bit v 12 }
  else q

/-- The state with a register word of completion queue m of a partition written. -/
def State.hcqWrite (s : State) (part m off v : Nat) : State :=
  let k := 16 * part + m
  { s with host := { s.host with hcq := Tab.put {} s.host.hcq k ((Tab.get ({} : Hcq) s.host.hcq k).write off v) } }

/-- HCQ_ENABLE (R431). -/
def hcqEnable (o : HcqOp) (s : State) : State :=
  if s.ptEnabled o.part.toNat then s.hcqWrite o.part.toNat o.m.toNat 0x10 o.ctrl.toNat else s

/-! ### Interrupts (R428) -/

/-- Vector control of a table entry: unmasking with the pending bit set sends one message. -/
def State.vectorMask (s : State) (part vec : Nat) (m : Bool) : State :=
  let k := 2048 * part + vec
  let v := Tab.get ({} : MsixVec) s.host.msix k
  let s := { s with host := { s.host with msix := Tab.put {} s.host.msix k { v with masked := m } } }
  if !m && v.pending then s.msix part vec v.waits else s

/-- A 32-bit word written to the MSI-X table. -/
def State.msixWrite (s : State) (part vec off v : Nat) : State :=
  let k := 2048 * part + vec
  let x := Tab.get ({} : MsixVec) s.host.msix k
  let put := fun (y : MsixVec) => { s with host := { s.host with msix := Tab.put {} s.host.msix k y } }
  if off = 0 then put { x with addr := BitVec.ofNat 64 (x.addr.toNat / 2 ^ 32 * 2 ^ 32 + v / 4 * 4) }
  else if off = 4 then put { x with addr := BitVec.ofNat 64 (v * 2 ^ 32 + x.addr.toNat % 2 ^ 32) }
  else if off = 8 then put { x with data := BitVec.ofNat 32 v }
  else s.vectorMask part vec (bit v 0)

/-- MSIX_UNMASK (R428). -/
def msixUnmask (o : VectorOp) (s : State) : State :=
  if s.ptEnabled o.part.toNat then s.vectorMask o.part.toNat o.vec.toNat false else s

/-- What a source raises now: its partition, vector, holdoff and enable. -/
def State.intSource (s : State) (src : Nat) : Option (Nat × Nat × Nat × Bool) :=
  if src < 8192 then
    let r := Tab.get ({} : QIrq) s.host.qirq src
    (s.ethQ src).map (fun q => (q.part, r.vector, r.holdoff, r.en))
  else
    let q := Tab.get ({} : Hcq) s.host.hcq (src - 8192)
    some ((src - 8192) / 16, q.vector, q.holdoff, q.irqEn && q.en)

/-- MSIX_HOLDOFF_EXPIRE (R428): coalesced raises give one message, after which the holdoff runs again. -/
def msixHoldoffExpire (o : HoldoffOp) (s : State) : State :=
  let h := Tab.get ({} : Holdoff) s.host.hold o.source
  if !h.running then s
  else
    let s := { s with host := { s.host with hold := Tab.put {} s.host.hold o.source {} } }
    if !h.raised then s
    else match s.intSource o.source with
      | some (n, vec, hold, true) => s.raiseVector o.source n vec hold
      | _ => s

/-! ### BAR4 (R425) -/

/-- Whether a BAR4 request is one PCIe request of at most 4,096 bytes that crosses no 4 KiB boundary. -/
def bar4Ok (off len : Nat) : Bool := decide (0 < len) && decide (off % 4096 + len ≤ 4096)

/-- BAR4_READ (R425, R206, R422, R433, Table 7.9). -/
def bar4Read (o : Bar4ReadOp) (s : State) : State :=
  let n := o.part.toNat
  let r := s.ptT1 n
  if !bar4Ok o.off o.len then s
  else if !s.ptEnabled n then s.emit (.hostRead n o.off (List.replicate o.len 0#8) false)
  else if r.2 < o.off + o.len then
    (s.violate n 3 (s.rangeReason n 1 (r.1 + o.off) o.len) o.off).emit (.hostRead n o.off (List.replicate o.len 0#8) false)
  else (s.noteEcc 1 o.ecc false).bar4Take (n, o.off, o.len)

/-- BAR4_WRITE (R205, R425, R433). -/
def bar4Write (o : Bar4WriteOp) (s : State) : State :=
  let n := o.part.toNat
  let r := s.ptT1 n
  if !s.ptEnabled n || !bar4Ok o.off o.bytes.length then s
  else if r.2 < o.off + o.bytes.length then
    s.violate n 3 (s.rangeReason n 1 (r.1 + o.off) o.bytes.length) o.off
  else s.memWrite 1 (r.1 + o.off) o.bytes

/-! ### Endpoints (R416, R435 to R437) -/

/-- Whether an endpoint exists in the port mode in force (R416), by PT_ENDPOINT code; in FAULT and
RECOVERY only P0a trains, where its rails are on (R468, R470, R508, R510). -/
def State.endpointOk (s : State) (e : Nat) : Bool :=
  let mode := fun (p : Nat) => Tab.get 0 s.host.bifur p
  if s.boot.state = 9 || s.boot.state = 10 then e == 1 && s.power == .on && s.boot.fault != 15
  else decide (5 < s.boot.state) && (e == 1 || e == 3 || (e == 2 && mode 0 == 1) || (e == 4 && mode 1 == 1))

/-- A BAR of an endpoint (R417, Table 15.4): its number, its size in bytes, whether it is 64 bits wide and prefetchable. -/
structure PciBar where
  num      : Nat
  size     : Nat
  wide     : Bool
  prefetch : Bool
  deriving DecidableEq, Repr

/-- The BARs of Table 15.4. -/
def hostBars : List PciBar := [⟨0, 2 ^ 26, true, false⟩, ⟨2, 2 ^ 27, true, false⟩, ⟨4, 2 ^ 39, true, true⟩]

/-- What a PCIe function of an endpoint shows and can do (R417, Table 15.1): its identity, its BARs, sizes in bytes, its tags and
outstanding reads; the features not named are absent. -/
structure PciFunction where
  vendor     : Nat
  device     : Nat
  classCode  : Nat
  bars       : List PciBar
  msixVecs   : Nat
  msi        : Bool
  flr        : Bool
  aer        : Bool
  maxPayload : Nat
  maxReadReq : Nat
  tags10     : Bool
  tags14     : Bool
  reads      : Nat
  sriov      : Bool
  deriving DecidableEq, Repr

/-- The Device ID of a variant (R417). -/
def Variant.pciDevice : Variant → Nat
  | .x => 0x9640
  | .t => 0x9641
  | .s => 0x9642

/-- The function of an endpoint (R417, Table 15.1); none where the port mode in force has no such endpoint (R416, R4). In
RECOVERY it has a Device ID of its own and BAR2 alone (R468). -/
def State.pciFunction (s : State) (e : Nat) : Option PciFunction :=
  let recovery := s.boot.state == 10
  if s.endpointOk e then some
    { vendor := s.dnum 0x100004, device := if recovery then 0x96FF else s.variant.pciDevice, classCode := 0x120000,
      bars := if recovery then hostBars.filter (fun b => b.num == 2) else hostBars, msixVecs := 2048, msi := false, flr := true,
      aer := true, maxPayload := 512, maxReadReq := 4096, tags10 := true, tags14 := true, reads := 1024, sriov := false }
  else none

/-- The widest link of an endpoint: x16 in mode 0, x8 in mode 1 (R416); in FAULT and RECOVERY P0a is x16 (R468, R470). -/
def State.laneCount (s : State) (e : Nat) : Nat :=
  if s.boot.state != 9 && s.boot.state != 10 && Tab.get 0 s.host.bifur ((e - 1) / 2) == 1 then 8 else 16

/-- Whether an endpoint can train to a rate in GT/s (2 for 2.5, log entry 176) and a width, its widest or narrower (Table 15.1).
-/
def State.linkFits (s : State) (e rate width : Nat) : Bool :=
  [2, 5, 8, 16, 32, 64].contains rate && [1, 2, 4, 8, 16].contains width && decide (width ≤ s.laneCount e)

/-- Whether PERST of the port of an endpoint is asserted (R514). -/
def State.perstOn (s : State) (e : Nat) : Bool := bit s.host.perst ((e - 1) / 2)

/-- HOST_RESET (R435, R436, R514): of one endpoint, or by a port's reset input: its assertion resets every endpoint of the port,
whose links stay down until it ends. -/
def hostResetCmd (o : HostResetOp) (s : State) : State :=
  match o with
  | .endpoint ep lost => if s.endpointOk ep.toNat then s.hostReset ep.toNat lost else s
  | .perst port on =>
    let n := port.toNat
    if bit s.host.perst n == on then s
    else if on then
      ((upTo 4).filter (fun e => e / 2 == n && s.endpointOk (e + 1))).foldl (fun s e => s.hostReset (e + 1) true)
        { s with host := { s.host with perst := s.host.perst + 2 ^ n } }
    else { s with host := { s.host with perst := s.host.perst - 2 ^ n } }

/-- HOST_LINK_UP (R435, R436, R514): EV_PT_HOST_UP where the bound partition's PT_HOST_UP goes to 1. A link that is up and loses
Bus Master Enable is a host reset. -/
def hostLinkUp (o : HostLinkOp) (s : State) : State :=
  let e := o.ep.toNat
  if !s.endpointOk e || s.perstOn e || !s.linkFits e o.rate.toNat o.width.toNat then s
  else
    let x := Tab.get ({} : Endpoint) s.host.endpts e
    let s := if x.up && x.bme && !o.bme then s.hostReset e false else s
    let y : Endpoint := ⟨true, o.bme, o.rate.toNat, o.width.toNat⟩
    let s := { s with host := { s.host with endpts := Tab.put {} s.host.endpts e y } }
    match s.boundPart e with
    | some p => if o.bme && !(x.up && x.bme) then s.raise 0x3002 p e 0 else s
    | none => s

/-- HOST_CPL_TIMEOUT (R437): counted for the queue's partition. After a read of its tail word or of a descriptor the queue is as
if it held no buffers; one of a transmit buffer is counted alone (log entry 181). -/
def hostCplTimeout (o : CplOp) (s : State) : State :=
  match s.ethQ o.queue with
  | some q =>
    if !q.host then s
    else if o.buffer then (if 4096 ≤ o.queue then s.count cHostCplTimeout q.part 1 else s)
    else if q.flight.isSome then (s.count cHostCplTimeout q.part 1).tailLost o.queue
    else s
  | none => s

def execQRxDoorbell (o : DoorbellOp) (s : State) : Out := .next (qRxDoorbell o s)
def execQTxDoorbell (o : DoorbellOp) (s : State) : Out := .next (qTxDoorbell o s)
def execScPost (o : ScPostOp) (s : State) : Out := .next (scPost o s)
def execFenceWatchArm (o : WatchOp) (s : State) : Out := .next (fenceWatchArm o s)
def execHcqEnable (o : HcqOp) (s : State) : Out := .next (hcqEnable o s)
def execMsixHoldoffExpire (o : HoldoffOp) (s : State) : Out := .next (msixHoldoffExpire o s)
def execMsixUnmask (o : VectorOp) (s : State) : Out := .next (msixUnmask o s)
def execBar4Read (o : Bar4ReadOp) (s : State) : Out := .next (bar4Read o s)
def execBar4Write (o : Bar4WriteOp) (s : State) : Out := .next (bar4Write o s)
def execHostReset (o : HostResetOp) (s : State) : Out := .next (hostResetCmd o s)
def execHostLinkUp (o : HostLinkOp) (s : State) : Out := .next (hostLinkUp o s)
def execHostCplTimeout (o : CplOp) (s : State) : Out := .next (hostCplTimeout o s)
def execPtClearComplete (o : PartOp) (s : State) : Out := .next (ptClearComplete o s)

end Sys2Proof.Machine
end

