-- ==== Sys2Proof/Machine/Dict.lean ====
section
/-! DEFINITION. The object dictionary as requesters see it (R439 to R443, R450, R459 to R461): which entries are defined and
with what type, length and right, which are absent, the directories, and what a READ of each gives. -/

namespace Sys2Proof.Machine

/-! ### Defined entries (R439, R441, R459) -/

/-- The subindices of a counter group in order, from 1: a counter with one of its granularities (R459). -/
def ctrSubs (rows : List CtrRow) : List (CtrRow × Nat × Nat) := rows.flatMap (fun r => r.kinds.map (fun k => (r, k)))

/-- The counter subindices of an index; none where the index is no counter group. -/
def ctrGroupOf (idx : Nat) : List (CtrRow × Nat × Nat) :=
  match ctrGroups.find? (fun g => g.1 == idx) with
  | some g => ctrSubs g.2
  | none => []

/-- Whether a row names a counter: the Ethernet numbers that are not used hold their places in the group alone (R459, Table
11.9). -/
def CtrRow.used (r : CtrRow) : Bool := r.name != ""

/-- The counter and granularity of an entry. -/
def ctrEntry (k : Nat) : Option (CtrRow × Nat × Nat) :=
  if k % 256 = 0 then none else ((ctrGroupOf (k / 256))[k % 256 - 1]?).filter (fun c => c.1.used)

/-- The number of bytes of a counter entry. -/
def ctrLen (c : CtrRow × Nat × Nat) : Nat := c.1.width / 8 * c.2.2

/-- The highest subindex that an index defines; none where it holds no entries (R439). -/
def highestSub (idx : Nat) : Option Nat :=
  let hs := (entryRows.filter (fun r => r.idx == idx)).map (·.subHi) ++
    (let n := (ctrGroupOf idx).length; if n = 0 then [] else [n])
  match hs with
  | [] => none
  | h :: t => some (t.foldl max h)

/-- An index put in its place in an ascending list without repeats. -/
def insIdx (i : Nat) : List Nat → List Nat
  | [] => [i]
  | a :: r => if i < a then i :: a :: r else if i = a then a :: r else a :: insIdx i r

/-- The indices that hold entries, ascending. -/
def dictIndices : List Nat := (entryRows.map (·.idx) ++ ctrGroups.map (·.1)).foldl (fun l i => insIdx i l) []

/-- The number of counter entries. -/
def counterCount : Nat := (ctrGroups.map (fun g => ((ctrSubs g.2).filter (fun c => c.1.used)).length)).foldl (· + ·) 0

/-- The number of defined entries: those of the tables, the counters, and HIGHEST_SUB of each index. -/
def entryCount : Nat :=
  (entryRows.map (fun r => r.subHi + 1 - r.subLo)).foldl (· + ·) 0 +
    counterCount + dictIndices.length

/-- What defines an entry: a row of the tables, a counter (RO OCTETS), or HIGHEST_SUB (U8 CONST). The lengths of the two
directories follow from what they list. -/
def entryInfo (k : Nat) : Option EntryRow :=
  if k % 256 = 0 then
    (if (highestSub (k / 256)).isSome then some ⟨k / 256, 0, 0, 2, 1, 1, 0, 0, 255, false⟩ else none)
  else if k = 0x100202 then some ⟨0x1002, 2, 2, 11, 8 * entryCount, 1, 0, 0, 0, false⟩
  else if k = 0x900002 then some ⟨0x9000, 2, 2, 11, 48 * counterCount, 1, 0, 0, 0, false⟩
  else match entryRow k with
    | some r => some r
    | none => (ctrEntry k).map (fun c => ⟨k / 256, k % 256, k % 256, 11, ctrLen c, 2, 0, 0, 0, false⟩)

/-- The shortest value of an entry of variable length: a LAYOUT's header, a RANGE_TREE's head, an empty string. -/
def EntryRow.minLen (r : EntryRow) : Nat :=
  if !r.var then r.len else if r.idx = 0x5100 then 16 else if r.idx = 0x4400 then 8 else 0

/-- Whether a value's length is one that the entry allows (R442). -/
def EntryRow.lenOk (r : EntryRow) (n : Nat) : Bool := decide (r.minLen ≤ n) && decide (n ≤ r.len)

/-- The partition whose entry it is (R450): 0x3p00, and the entries named _PTn. -/
def partOf (k : Nat) : Option Nat :=
  let idx := k / 256 % 65536
  let sub := k % 256
  if sub = 0 then none
  else if idx = 0x3100 ∨ idx = 0x3200 ∨ idx = 0x3300 ∨ idx = 0x3400 then some (idx / 256 - 0x31)
  else if idx = 0x4700 ∨ idx = 0x4701 ∨ idx = 0x6210 ∨ idx = 0x7100 ∨ idx = 0x7310 then some (sub - 1)
  else none

/-- Whether an entry belongs to units that the variant lacks (R1, R4, R440): absent quads and their ports, the Shot path and
tree engine of the -T, its lanes in the defect maps, CT1's channels in those of the -S. The capability entries are the
exception. -/
def lacks (v : Variant) (k : Nat) : Bool :=
  let idx := k / 256 % 65536
  let sub := k % 256
  let port := decide (1 ≤ sub) && decide (sub ≤ 192) && decide (v.links ≤ (sub - 1) / 4)
  if k % 2 ^ 24 = 0x440006 then !v.shot
  else if idx = 0x4010 ∨ idx = 0x4011 ∨ idx = 0x4012 then decide (1 ≤ sub) && decide (v.links ≤ 4 * (sub - 1))
  else if 0x4201 ≤ idx ∧ idx ≤ 0x4209 then port
  else if 0x4301 ≤ idx ∧ idx ≤ 0x4304 then port
  else if idx = 0x4320 ∨ (0x5000 ≤ idx ∧ idx ≤ 0x5210) ∨ idx = 0x9510 ∨ (idx = 0x9500 ∧ sub < 240) then
    decide (1 ≤ sub) && !v.shot
  else (k == 0x810006 || k == 0x811006) && v.tiles == 1 || (k == 0x810004 || k == 0x811004) && !v.shot

/-- Whether an entry reads zero and ignores what is written because its unit is absent or its port not in use (R4, R298). -/
def State.entryAbsent (s : State) (k : Nat) : Bool :=
  let idx := k / 256 % 65536
  let sub := k % 256
  lacks s.variant k ||
    (((decide (0x4201 ≤ idx) && decide (idx ≤ 0x4209)) || (decide (0x4301 ≤ idx) && decide (idx ≤ 0x4304))) &&
      decide (1 ≤ sub) && (s.portBt (sub - 1)).isNone)

/-! ### The directories (R441, R459) -/

/-- FLAGS of Table 16.1. -/
def entryFlags (v : Variant) (k : Nat) (var : Bool) : Nat :=
  let idx := k / 256
  b2n (partOf k).isSome + 2 * b2n ((partOf k).isSome && (idx == 0x4700 || idx == 0x4701) || k == 0x900001) +
    4 * b2n (lacks v k) + 8 * b2n var + 16 * (partOf k).getD 0

/-- A record of ENTRY_DIR (Table 16.1). -/
def dirRecord (v : Variant) (k : Nat) : List Byte :=
  match entryInfo k with
  | some r => leBytes 2 (k / 256) ++ leBytes 1 (k % 256) ++ leBytes 1 r.ty ++ leBytes 1 r.acc ++
      leBytes 1 (entryFlags v k r.var) ++ leBytes 2 (r.len - 1)
  | none => []

/-- ENTRY_DIR (R441): every defined entry in ascending order. -/
def entryDir (v : Variant) : List Byte :=
  dictIndices.flatMap (fun i => (upTo ((highestSub i).getD 0 + 1)).flatMap (fun sub => dirRecord v (dkey i sub)))

/-- COUNTER_DIR (R459). -/
def counterDir : List Byte :=
  ctrGroups.flatMap (fun g => ((ctrSubs g.2).zipIdx.filter (fun e => e.1.1.used)).flatMap (fun e =>
    leBytes 2 g.1 ++ leBytes 1 (e.2 + 1) ++ leBytes 1 e.1.1.width ++ leBytes 2 e.1.2.2 ++ leBytes 1 e.1.2.1 ++ leBytes 1 0 ++
      padTo 40 (asciiBytes e.1.1.name)))

/-! ### Counter entries (R459) -/

/-- One instance of a counter at a granularity: the kept one as it stands, the others summed over it; the total of a fabric
counter includes what counts at no link (instance 48: R287, R290). The counters of an Ethernet port that is not in use and of an
absent link read zero (R4, R298); the ports of group 0x9800 are host ports (R518). -/
def State.ctrInstance (s : State) (c : CtrRow × Nat × Nat) (i : Nat) : Nat :=
  let row := c.1
  let kept := row.kinds.headD (1, 1)
  let sumOf := fun (p : Nat → Bool) =>
    ((upTo (if kept.1 = 10 then 49 else kept.2)).filter p).foldl (fun a j => (a + s.counter row.id j) % 2 ^ 64) 0
  if c.2.1 = kept.1 then
    (if (c.2.1 = 4 && row.id / 256 != 0x9800 && (s.portBt i).isNone) || (c.2.1 = 10 && decide (s.variant.links ≤ i)) then 0 else s.counter row.id i)
  else if row.id / 256 = 0x9200 then s.counter row.id 4
  else if c.2.1 = 3 then
    (let per := if kept.1 = 6 then 36 else if kept.1 = 7 then 128 else if kept.1 = 8 then 64 else if kept.1 = 9 then 8 else 1
     sumOf (fun j => j / per == i))
  else if c.2.1 = 11 then sumOf (fun j => s.fabricLink j && s.linkDir j == i)
  else sumOf (fun _ => true)

/-- Whether a partition's credential reads an instance of a counter (R459). -/
def State.ctrVisible (s : State) (part kind i : Nat) : Bool :=
  if kind = 2 then i == part
  else if kind = 5 then s.queueIn part i
  else if kind = 6 then s.meOwner i == some part
  else if kind = 7 then s.coreOwner i == some part
  else if kind = 8 then s.chanOwner i == some part
  else if kind = 9 then s.euOwner i == some part
  else true

/-- The value of a counter entry; `part`: the partition whose credential reads it. -/
def State.ctrValue (s : State) (c : CtrRow × Nat × Nat) (part : Option Nat) : List Byte :=
  (upTo c.2.2).flatMap (fun i =>
    leBytes (c.1.width / 8) (if part.all (fun p => s.ctrVisible p c.2.1 i) then s.ctrInstance c i else 0))

/-! ### Values that the device computes -/

/-- The record of a link in FAB_LINK_STATE (Table 10.7); while the device holds, FABRIC links read DOWN (R477). -/
def State.linkRecord (s : State) (l : Nat) : List Byte :=
  if s.quadMode (l / 4) ≠ 1 then List.replicate 8 0#8
  else
    let k := s.link l
    let m := if !s.running then 2 else match k.mode with
      | .disabled => 0 | .unused => 1 | .down => 2 | .training => 3 | .up => 4 | .refused => 5 | .failed => 6
    leBytes 1 m ++ leBytes 1 k.width ++ leBytes 1 (k.good % 16 + 16 * (k.used % 16)) ++ leBytes 1 (s.linkDir l) ++
      leBytes 2 k.partner ++ leBytes 2 k.delay

/-- The record of an endpoint in HOST_LINK_STATE (Table 15.2), by PT_ENDPOINT code. -/
def State.endpointRecord (s : State) (e : Nat) : List Byte :=
  if !s.endpointOk e then List.replicate 4 0#8
  else
    let x := Tab.get ({} : Endpoint) s.host.endpts e
    leBytes 1 (if x.up then 2 else 1) ++ leBytes 1 x.rate ++ leBytes 1 x.width ++ leBytes 1 ((s.boundPart e).getD 0xFF)

/-- A record of the UE log (Table 7.11). -/
def ueRecord (r : UeRec) : List Byte :=
  leBytes 8 r.tick ++ leBytes 1 r.tier ++ leBytes 1 r.outcome ++ leBytes 1 r.part ++ leBytes 1 r.flags ++ leBytes 2 r.object ++
    leBytes 2 0 ++ leBytes 8 r.addr ++ leBytes 4 r.ns ++ leBytes 4 0

/-- A flow entry of FLOW_PAGE (R461). -/
def flowRecord (e : FlowEnt) : List Byte :=
  padTo 37 e.key ++ leBytes 1 (1 + 2 * b2n e.shot) ++ leBytes 1 e.lane ++ leBytes 1 0 ++ leBytes 8 e.first ++ leBytes 8 e.last ++
    leBytes 8 e.frames ++ leBytes 8 e.bytes ++ leBytes 4 e.reqs ++ leBytes 4 e.stomped ++ leBytes 4 e.overl ++
    leBytes 8 e.lastId ++ List.replicate 36 0#8

/-- FLOW_PAGE from entry F (R461). -/
def State.flowPage (s : State) (f : Nat) : List Byte :=
  padTo 32768 (((s.net.flows.drop f).take 256).flatMap flowRecord)

/-- SEQ_MARKS (Table 16.10). -/
def State.seqMarks (s : State) : List Byte :=
  (upTo 16).flatMap (fun n => let m := Tab.get (0, 0) s.dap.marks n; leBytes 8 m.1 ++ leBytes 8 m.2)

/-- ACLK of a CT in MHz; 0 for an absent one. -/
def State.aclk (s : State) (ct : Nat) : Nat := if ct < s.variant.tiles then (Tab.get ({} : CtClk) s.health.clk ct).mhz else 0

/-- Inputs that are accepted asserted and not masked (R515, R516). -/
def State.inputOn (s : State) (n : Nat) : Bool := bit s.health.inputs n && !bit s.health.masked n

/-- INPUT_STATE (Table 19.8): accepted levels, and masked inputs from bit 8. -/
def State.inputState (s : State) : Nat :=
  ((upTo 5).map (fun n => 2 ^ n * b2n (s.inputOn n) + 2 ^ (8 + n) * b2n (bit s.health.masked n))).foldl (· + ·) 0

/-- The number of listed keys of a table that `p` selects. -/
def countKeys {α : Type} (t : Tab α) (p : Nat → Bool) : Nat := (t.filter (fun e => p e.1)).length

/-- The requests bound to the retiring bank that have not finished (R409). -/
def State.bankDrain (s : State) : Nat :=
  if s.bank.mode = 2 then
    (s.net.reqs.filter (fun r => r.bank != s.bank.active && (r.restarted || !r.hold))).length
  else 0

/-- The firmware slot that is not active. -/
def State.fwOther (s : State) : FwSlot := if s.boot.fwActive = 0 then s.boot.fw1 else s.boot.fw0

/-- The firmware slot that runs. -/
def State.fwRun (s : State) : FwSlot := if s.boot.fwActive = 0 then s.boot.fw0 else s.boot.fw1

/-- The current value of an entry that the device computes; none for one that it stores. `page` is the reader's
FLOW_PAGE_SEL. -/
def State.computed (s : State) (k page : Nat) : Option (List Byte) :=
  let idx := k / 256
  let sub := k % 256
  if sub = 0 then some (leBytes 1 ((highestSub idx).getD 0))
  else if idx = 0x1002 ∧ sub = 2 then some (entryDir s.variant)
  else if k = 0x100301 then some s.ident.id
  else if k = 0x100302 then some s.ident.pub
  else if k = 0x900002 then some counterDir
  else if k = 0x200001 then some (leBytes 1 s.boot.state)
  else if k = 0x200002 then some (leBytes 1 (b2n s.held))
  else if k = 0x200003 ∨ k = 0x440001 ∨ k = 0x520001 ∨ k = 0xA01005 then some [0#8]
  else if k = 0x300003 then some ((upTo 4).flatMap (fun e => s.endpointRecord (e + 1)))
  else if 0x3100 ≤ idx ∧ idx ≤ 0x3400 ∧ sub = 15 then
    some (leBytes 1 (match s.ptState (idx / 256 - 0x31) with
      | .disabled => 0 | .clearing => 1 | .enabled => 2))
  else if 0x3100 ≤ idx ∧ idx ≤ 0x3400 ∧ sub = 16 then some (leBytes 1 (b2n (s.hostUp (idx / 256 - 0x31))))
  else if k = 0x410003 then some (leBytes 2 s.rank)
  else if k = 0x412001 then some ((upTo 48).flatMap s.linkRecord)
  else if idx = 0x4209 then some (leBytes 4 (s.portState (sub - 1)))
  else if k = 0x440002 then some (leBytes 1 s.net.ruleVer)
  else if k = 0x440003 then some (leBytes 1 s.net.ruleBank)
  else if k = 0x440004 then some (leBytes 4 s.ruleDrain)
  else if k = 0x450002 then some (leBytes 2 s.net.frags.length)
  else if k = 0x460002 then some (leBytes 4 s.net.flows.length)
  else if k = 0x520002 then some (leBytes 1 s.bank.active)
  else if k = 0x520003 then some (leBytes 4 s.bank.seq)
  else if k = 0x520004 then some (leBytes 4 s.bankDrain)
  else if k = 0x520005 then some (leBytes 1 s.bank.mode)
  else if k = 0x60000B then some (leBytes 8 s.now)
  else if k = 0x60000C then some (leBytes 1 (if s.running then s.sched.state else 0))
  else if k = 0x60000D then some (leBytes 1 s.sched.repeats)
  else if k = 0x60000E then some (leBytes 1 s.sched.lastCause)
  else if idx = 0x6210 then some (leBytes 2 (countKeys s.coll.defs (fun c => c / 256 == sub - 1)))
  else if idx = 0x7100 then some (leBytes 4 (countKeys s.mem.objects (fun o => o / 65536 == sub - 1)))
  else if k = 0x720001 then some (padTo 512 (s.mem.ueLog.flatMap ueRecord))
  else if idx = 0x7310 then some (leBytes 2 (countKeys s.emb.tables (fun t => t / 4096 == sub - 1)))
  else if k = 0x800001 then some ((upTo 195).flatMap (fun m => leBytes 2 (wrap 16 (Tab.get 0 s.health.reading m))))
  else if k = 0x800002 then some ((upTo 195).flatMap (fun m => leBytes 1 (Tab.get 0 s.health.level m)))
  else if k = 0x800004 then some (leBytes 2 (s.aclk 0) ++ leBytes 2 (s.aclk 1))
  else if k = 0x850007 then some (leBytes 2 s.inputState)
  else if k = 0x9500F0 then some (s.flowPage page)
  else if k = 0x9500F1 then some (leBytes 4 page)
  else if k = 0xA01001 then some (leBytes 1 s.boot.fwActive)
  else if k = 0xA01002 then some (leBytes 4 (s.fwRun.version.getD 0))
  else if k = 0xA01003 then some (leBytes 4 s.boot.fwInact)
  else if k = 0xA01006 then some (leBytes 1 s.boot.fwPref)
  else if k = 0xA10201 then some s.seqMarks
  else none

/-! ### Rule and model bank entries (R345, R405) -/

/-- Whether an entry is held once per rule bank (R345). -/
def ruleEntry (k : Nat) : Bool :=
  k == 0x440005 || k == 0x440006 || k / 256 == 0x4410 && k % 256 != 0 || k / 256 == 0x4411 && k % 256 != 0

/-- Whether an entry is held once per model bank (R405). -/
def modelEntry (k : Nat) : Bool :=
  k % 256 != 0 && (k / 256 == 0x5100 || k / 256 == 0x5101 || k / 256 == 0x5201 || k / 256 == 0x5202)

/-- Where an entry's value is kept: the inactive bank's place for a bank's entry. -/
def State.bankKey (s : State) (k : Nat) : Nat :=
  if ruleEntry k then (1 - s.net.ruleBank) * 2 ^ 24 + k
  else if modelEntry k then (1 - s.bank.active) * 2 ^ 24 + k
  else k

/-- The value of an entry of variable length that was never written: the shortest one, of zeros. -/
def shortest (r : EntryRow) (b : List Byte) : List Byte := if b.length < r.minLen then padTo r.minLen b else b

/-- The value of an entry for a reader who may read it; `part` as for a counter. -/
def State.entryValue (s : State) (k page : Nat) (part : Option Nat) : List Byte :=
  match entryInfo k with
  | none => []
  | some r =>
    if s.entryAbsent k then List.replicate (if r.var then r.minLen else r.len) 0#8
    else if r.acc = 6 then List.replicate r.len 0#8
    else match ctrEntry k with
      | some c => s.ctrValue c part
      | none =>
        match s.computed k page with
        | some b => b
        | none => shortest r (s.dget (s.bankKey k))

end Sys2Proof.Machine
end

