-- ==== Sys2Proof/Machine/Image.lean ====
section
/-! DEFINITION. The configuration image (R472 to R474): what it holds, its bytes (Table 17.4), and the checks of Table 17.5
up to the checks of a commit. -/

namespace Sys2Proof.Machine

/-- Whether Table 17.3 holds an entry, by index and subindex and its right. -/
def inImage (k acc : Nat) : Bool :=
  let idx := k / 256
  let sub := k % 256
  (acc == 3 || acc == 4 || acc == 5) && k != 0x410008 && k != 0x440001 &&
    (idx == 0x2010 || (decide (0x3000 ≤ idx) && decide (idx < 0x5000)) || (idx == 0x5000 && decide (sub ≤ 5)) || idx == 0x5210 ||
      (idx == 0x6000 && decide (sub ≤ 6)) || idx == 0x6100 || (idx == 0x6200 && decide (sub ≤ 2)) ||
      (decide (0x7000 ≤ idx) && decide (idx < 0x9000)) || (idx == 0xA000 && (decide (sub ≤ 4) || sub == 6)))

/-- The entries that an image holds, ascending, with their rows. -/
def imageKeys : List (Nat × EntryRow) :=
  dictIndices.flatMap (fun i => (upTo (highestSub i |>.getD 0)).filterMap (fun j =>
    let k := dkey i (j + 1)
    match entryRow k with
    | some r => if inImage k r.acc then some (k, r) else none
    | none => none))

/-- The value that an image holds of an entry: a rule bank entry from the active bank (Table 17.3). -/
def State.imageValue (s : State) (k : Nat) (r : EntryRow) : List Byte :=
  if ruleEntry k then shortest r (s.dget (s.net.ruleBank * 2 ^ 24 + k))
  else if s.entryAbsent k then List.replicate r.len 0#8
  else s.dget k

/-- A record (Table 17.4). -/
def imageRecord (k ty : Nat) (v : List Byte) : List Byte :=
  leBytes 2 (k / 256) ++ leBytes 1 (k % 256) ++ leBytes 1 ty ++ leBytes 4 v.length ++ padTo (4 * ceilDiv v.length 4) v

/-- The image of the configuration in force (R473): no record of a port that is not in use. -/
def State.imageBytes (s : State) (seq : Nat) : List Byte :=
  let port := fun (k : Nat) => decide (0x420000 ≤ k) && decide (k < 0x431000) && s.entryAbsent k
  let ks := imageKeys.filter (fun e => !port e.1)
  let recs := ks.flatMap (fun e => imageRecord e.1 e.2.ty (s.imageValue e.1 e.2))
  let body := leBytes 4 0x49434652 ++ leBytes 2 1 ++ leBytes 2 1 ++ leBytes 1 s.variant.num ++ List.replicate 3 0#8 ++
    leBytes 4 seq ++ leBytes 4 ks.length ++ leBytes 4 recs.length ++ List.replicate 40 0#8 ++ recs ++ leBytes 4 0x444E4552 ++
    leBytes 4 seq ++ leBytes 4 ks.length
  body ++ leBytes 4 (crc32 body)

/-- SEQ of a slot that is a candidate (R474). -/
def slotSeq (b : List Byte) : Option Nat :=
  let n := leAt b 12 4
  if leAt b 0 4 = 0x49434652 ∧ 1 ≤ n ∧ n ≤ 0xFFFFFFFE then some n else none

/-- The bytes of configuration slot n. -/
def State.slot (s : State) (n : Nat) : List Byte := Tab.get [] s.boot.slots n

/-- The higher SEQ of any candidate; 0 where there is none (R476). -/
def State.topSeq (s : State) : Nat := max ((slotSeq (s.slot 0)).getD 0) ((slotSeq (s.slot 1)).getD 0)

/-- The records of LENGTH bytes: entry, DTYPE and value; none where they do not fill it exactly. -/
def imageRecords : Nat → List Byte → Option (List (Nat × Nat × List Byte))
  | _, [] => some []
  | 0, _ :: _ => none
  | n + 1, b =>
    let len := leAt b 4 4
    let all := 8 + 4 * ceilDiv len 4
    if b.length < all then none
    else (imageRecords n (b.drop all)).map (fun r => (dkey (leAt b 0 2) (leAt b 2 1), leAt b 3 1, (b.drop 8).take len) :: r)

/-- Strictly ascending. -/
def ascending : List Nat → Bool
  | a :: b :: r => decide (a < b) && ascending (b :: r)
  | _ => true

/-- Whether a record's entry is one that an image may hold, with the entry's DTYPE and length. -/
def recordOk (e : Nat × Nat × List Byte) : Bool :=
  match entryRow e.1 with
  | some r => inImage e.1 r.acc && r.ty == e.2.1 && r.lenOk e.2.2.length
  | none => false

/-- The checks 3 to 7 of Table 17.5 on a slot: the first failing reason, or the records. -/
def State.imageCheck (s : State) (b : List Byte) : Nat × List (Nat × List Byte) :=
  let len := leAt b 20 4
  let tr := b.drop (64 + len)
  let n := leAt b 16 4
  match imageRecords (len + 1) ((b.drop 64).take len) with
  | recs =>
    let rs := recs.getD []
    if leAt b 4 2 ≠ 1 || leAt b 9 3 != 0 || (b.drop 24).take 40 != List.replicate 40 0#8 || decide (cfgSlotSize < 80 + len) then (3, [])
    else if tr.length < 16 || leAt tr 0 4 != 0x444E4552 || leAt tr 4 4 != leAt b 12 4 || leAt tr 8 4 != n || recs.isNone ||
        rs.length != n then (4, [])
    else if leAt tr 12 4 ≠ crc32 (b.take (64 + len + 12)) then (5, [])
    else if leAt b 8 1 ≠ s.variant.num || leAt b 6 2 != 1 then (6, [])
    else if !rs.all recordOk || !ascending (rs.map (·.1)) then (7, [])
    else (0, rs.map (fun e => (e.1, e.2.2)))

/-- A save of the configuration in force starts, or is put off behind the one that runs (R476): into the slot that does not
hold the image last loaded or saved, which is erased first. -/
def State.startSave (s : State) : State :=
  match s.boot.saving with
  | some _ => { s with boot := { s.boot with again := true } }
  | none =>
    let n := match s.boot.last with
      | some l => 1 - l
      | none => 0
    let q := s.topSeq + 1
    { s with boot := { s.boot with saving := some ⟨n, q, s.imageBytes q⟩, slots := Tab.put [] s.boot.slots n [] } }

end Sys2Proof.Machine
end

