-- ==== Sys2Proof/Machine/Commit.lean ====
section
/-! DEFINITION. The checks of a WRITE and of a COMMIT (R443, R445): each entry's own range, and the cross-entry checks of the
chapters in their order. The trial state holds every staged value. -/

namespace Sys2Proof.Machine

/-! ### Own checks -/

/-- THRESH_k (R488, Table 18.2): WARN, THROTTLE, TRIP and HYST. -/
def threshOk (k : Nat) (b : List Byte) : Bool :=
  let f := fun (i : Nat) => sext 16 (leAt b (2 * i) 2)
  let w := f 0
  let t := f 1
  let r := f 2
  let h := f 3
  decide (1 ≤ h) && decide (h ≤ 100) &&
    (if k = 4 then decide (t < w) && decide (r < t) && decide (439 ≤ r)
     else if k = 5 then decide (w < r) && decide (r ≤ 601)
     else decide (w < t) && decide (t < r) &&
       (if k = 1 then decide (r ≤ 1050) else if k = 2 then decide (r ≤ 950) else if k = 3 then decide (r ≤ 80)
        else if k = 6 then decide (r ≤ 200) else decide (t ≤ 1700) && decide (r ≤ 1850)))

/-- Whether 16-bit fields of a value all satisfy `p`. -/
def all16 (b : List Byte) (p : Nat → Bool) : Bool := (upTo (b.length / 2)).all (fun i => p (leAt b (2 * i) 2))

/-- A queue number or 0xFFFF. -/
def queueOrNone (q : Nat) : Bool := decide (q < 4096) || q == 0xFFFF

/-- A core number or 0x100 in a 16-bit half of HOST_ATTN_CORE (R518). -/
def attnCoreOk (h : Nat) : Bool := decide (h ≤ 0x100)

/-- Whether a value of TORUS_DIMS is one that R275 allows by itself. -/
def dimsOk (n : Nat) : Bool :=
  let x := n % 256
  let y := n / 256 % 256
  let z := n / 65536
  decide (1 ≤ x) && decide (x ≤ 32) && decide (1 ≤ y) && decide (y ≤ 32) && decide (1 ≤ z) && decide (z ≤ 32) &&
    decide (x * y * z ≤ 16384)

/-- CRED_INFO_n (R449): byte 3 is zero, and ROLE is 1 to 7, also in one that empties its slot (log entry 189). -/
def credOk (b : List Byte) : Bool := leAt b 3 1 == 0 && decide (1 ≤ leAt b 2 1) && decide (leAt b 2 1 ≤ 7)

/-- Whether a rule of a stage holds no reserved bit or encoding (R13, R329, Table 12.4). ACTION 0 stands in a rule that is not
valid, as an empty bank has it (log entry 67). -/
def ruleValueOk (filter : Bool) (r : List Byte) : Bool :=
  !ruleReserved filter (if ruleValid r || leAt r 98 1 != 0 then r else patch r 98 [1#8])

/-- Whether a layout holds no reserved bit or encoding in its header and the descriptors present (R13, Tables 13.2 to 13.4). -/
def layoutValueOk (b : List Byte) : Bool :=
  let l := layoutOf b
  decide (leAt b 6 1 ≤ 1) && leAt b 7 9 == 0 && l.fields.all (fun f => decide (f.ty ≤ 6) && decide (leAt f.raw 3 1 < 2)) &&
    l.feats.all (fun f => decide (1 ≤ f.op) && decide (f.op ≤ 4) && decide (leAt f.raw 1 1 < 4) && leAt f.raw 11 1 == 0)

/-- Whether a model descriptor holds no reserved bit or encoding (R13, Table 14.3); without VALID all of it is ignored (R396). -/
def modelValueOk (d : List Byte) : Bool :=
  !bit (leAt d 2 1) 0 || decide (leAt d 0 2 < 4096) && leAt d 2 1 == 1 && decide (leAt d 3 1 < 64) && decide (leAt d 5 1 ≤ 4) &&
    leAt d 6 2 == 0 && leAt d 28 36 == 0

/-- Whether a range tree holds no reserved bit in its head and the node records present (R13, Table 14.8). -/
def treeValueOk (b : List Byte) : Bool :=
  leAt b 2 6 == 0 && (upTo (leAt b 0 2 - 1)).all (fun i => bits (leAt b (8 + 8 * i) 8) 63 62 == 0)

/-- Whether a value is in the range that its entry's table gives (R442, R462 and the tables of entries). -/
def State.inRangeOf (s : State) (k : Nat) (r : EntryRow) (b : List Byte) : Bool :=
  let n := leNat b
  let idx := k / 256
  let sub := k % 256
  if idx = 0x4201 then n &&& (if sub = 193 then 0x1F else 0x7F1F) == n
  else if k = 0x410001 then dimsOk n
  else if k = 0x410002 then decide (n < 2 ^ 24)
  else if idx = 0x4302 then (n &&& 0x7FF7F) == n && decide (1 ≤ bits n 6 3) && decide (bits n 6 3 ≤ 8)
  else if k = 0x440005 then decide (n ≤ 4)
  else if k = 0x440006 then treeValueOk b
  else if idx = 0x4410 then (chunks 128 512 b).all (ruleValueOk true)
  else if idx = 0x4411 then (chunks 128 512 b).all (ruleValueOk false)
  else if idx = 0x5100 then layoutValueOk b
  else if idx = 0x5201 then (chunks 128 256 b).all modelValueOk
  else if idx = 0x5202 then all16 b (fun e => decide (e < 512))
  else if k = 0x432001 then b.all (fun x => decide (x.toNat ≤ 7))
  else if k = 0x433001 then queueOrNone n
  else if idx = 0x4700 then all16 b queueOrNone
  else if idx = 0x4701 then decide (n < 512)
  else if idx = 0x6100 then decide (1 ≤ n)
  else if k = 0x700004 then decide (n ≤ (if s.variant.tiles = 1 then 64 else 128))
  else if k = 0x730004 then all16 b (fun q => decide (q < 16384) || q == 0xFFFF)
  else if k = 0x800003 then decide (700 ≤ n) && decide (n ≤ 1300) && n % 100 == 0
  else if idx = 0x8010 then threshOk sub b
  else if k = 0x850008 then attnCoreOk (n % 65536) && attnCoreOk (n / 65536)
  else if k = 0x900001 then decide (n < 65536) && (n == 0 || (ctrGroups.any (fun g => g.1 == n)))
  else if k = 0xA00004 then decide (n ≤ 3) || n == 0xFF
  else if idx = 0xA100 then credOk b
  else if k = 0x200007 then n == 0x9640
  else if r.ty = 11 ∨ r.ty = 10 then true
  else decide (r.vmin ≤ n) && decide (n ≤ r.vmax)

/-- Whether firmware bytes are accepted (R468): the version that an accepted image holds. -/
def FwSlot.verify (f : FwSlot) : Option Nat :=
  match f.version with
  | some v => some v
  | none => Config.fwVerify (f.bytes.map (fun e => (e.1, e.2)))

/-- The own check of an entry under the trial state `t`, the hold condition apart (R445, order 1). `img`: in an image a value
equal to the entry's default is accepted. -/
def State.ownCheck (s t : State) (k : Nat) (r : EntryRow) (b : List Byte) (img : Bool) : Nat :=
  if img && b == entryDefault s.variant s.modrec k then stOk
  else if !s.inRangeOf k r b then stBadValue
  else if ruleEntry k && !img && s.ruleDrain != 0 then stRulesDraining
  else if modelEntry k && s.bank.mode != 0 then stBankBusy
  else if k / 256 = 0x4700 && !img && bit (t.dnum (dkey 0x4701 (k % 256))) 8 then stRebalanceOn
  else if k = 0xA01005 && leNat b = 1 && s.fwOther.verify.isNone then stBadValue
  else if k = 0xA01101 && decide (512 ≤ t.dnum 0xA01004) then stBadValue
  else stOk

/-! ### Cross-entry checks -/

/-- Gbit/s of a port in use (Table 11.1); 0 for one that is not. -/
def State.portRate (s : State) (p : Nat) : Nat :=
  match s.portBt p with
  | some bt => 800 / bt
  | none => 0

/-- The sum of the rates of the ports that `p` selects. -/
def State.rateSum (s : State) (p : Nat → Bool) : Nat :=
  ((upTo 192).filter p).foldl (fun a i => a + s.portRate i) 0

/-- Whether the PFC thresholds break R308. -/
def State.pfcBad (s : State) : Bool :=
  let ps := (upTo 192).filter (fun p => (s.portBt p).isSome)
  ps.any (fun p => decide (s.dnum (dkey 0x4205 (p + 1)) ≤ s.dnum (dkey 0x4206 (p + 1)))) ||
    decide (65536 < ps.foldl (fun a p =>
      a + (s.dnum (dkey 0x4205 (p + 1)) + 128) * ((upTo 7).filter (fun tc => s.lossless p tc)).length) 0)

/-- Whether a coordinate is not below its dimension (R275). -/
def State.torusBad (s : State) : Bool := (upTo 3).any (fun d => decide (s.dim d ≤ coordAt (s.dnum 0x410002) d))

/-- Whether a start edge has not come yet; tick numbers are compared modulo 2^48 (R72). -/
def State.ahead (s : State) (start : Nat) : Bool :=
  let d := (start + 2 ^ 48 - s.now) % 2 ^ 48
  decide (0 < d) && decide (d < 2 ^ 47)

/-- Whether the row cache region overlaps a partition's T1 range (R197): checked where its size is committed; Table 15.3 has the
check of a commit of the range. -/
def State.cacheOverlap (s : State) : Bool :=
  (upTo 4).any (fun n => let r := s.ptT1 n; decide (0 < r.2) && decide (s.rowCacheBase < r.1 + r.2))

/-- Whether two slots share a KEY_ID, or no OWNER is left (R449). -/
def State.credBad (s : State) : Bool :=
  let id := fun (n : Nat) => leAt (s.dget (dkey 0xA100 (n + 1))) 0 2
  let role := fun (n : Nat) => leAt (s.dget (dkey 0xA100 (n + 1))) 2 1
  let used := (upTo 16).filter (fun n => id n != 0)
  used.any (fun n => used.any (fun m => decide (m < n) && id m == id n)) || !used.any (fun n => role n == 1)

/-- Whether the entries of a partition from .01 to .0E are staged (R419). -/
def partStaged (items : List (Nat × List Byte)) : Bool :=
  items.any (fun e => (upTo 4).any (fun n => e.1 / 256 == 0x3100 + 0x100 * n) && decide (e.1 % 256 ≤ 14))

/-- What of one partition's entries runs past what exists (Table 15.3, ST_BAD_VALUE); a range that meets the row cache lies in
no single entry. -/
def State.ptRangeFails (s : State) (n : Nat) : List (Bool × Nat × Nat) :=
  let past := fun (r : Nat × Nat) (lim : Nat) => decide (0 < r.2) && decide (lim < r.1 + r.2)
  let t1 := s.ptT1 n
  [ (decide (4 < s.dnum (ptKey n 2)), ptKey n 2, stBadValue),
    (past (s.ptScratch n 0) scratchSize || past (s.ptScratch n 1) scratchSize, ptKey n 9, stBadValue),
    (past t1 (s.variant.t1Size / 2 ^ 20 * 2 ^ 20), ptKey n 10, stBadValue),
    (past t1 s.rowCacheBase, 0, stBadValue),
    (past (s.ptT2 n) (2 ^ 40), ptKey n 11, stBadValue),
    (past (s.ptRange n 12) 1024, ptKey n 12, stBadValue),
    (past (s.ptRange n 13) 4096, ptKey n 13, stBadValue),
    (past (s.ptRange n 14) 1024, ptKey n 14, stBadValue)]

/-- What of one partition's entries names a unit that is absent or mapped out (Table 15.3, ST_ABSENT_UNIT). -/
def State.ptAbsentFails (s : State) (n : Nat) : List (Bool × Nat × Nat) :=
  let e := s.dnum (ptKey n 2)
  [ ((e == 2 && Tab.get 0 s.host.bifur 0 != 1) || (e == 4 && Tab.get 0 s.host.bifur 1 != 1), ptKey n 2, stAbsentUnit),
    ((s.maskBits n 3 256).any (fun k => !s.coreOk k), ptKey n 3, stAbsentUnit),
    ((s.maskBits n 4 72).any (fun k => !s.meOk k), ptKey n 4, stAbsentUnit),
    ((s.maskBits n 5 16).any (fun k => !s.euOk k), ptKey n 5, stAbsentUnit),
    (s.variant.tiles == 1 && s.dnum (ptKey n 7) != 0, ptKey n 7, stAbsentUnit),
    (s.variant.tiles == 1 && decide (0 < (s.ptScratch n 1).2), ptKey n 9, stAbsentUnit)]

/-- Whether two ranges given as first and size share anything. -/
def rangesMeet (a b : Nat × Nat) : Bool := decide (0 < a.2) && decide (0 < b.2) && overlaps a.1 a.2 b.1 b.2

/-- Whether two partitions hold the same thing (Table 15.3, ST_RESOURCE_CONFLICT). -/
def State.ptConflict (s : State) (n m : Nat) : Bool :=
  let both := fun (sub : Nat) => (s.dnum (ptKey n sub) &&& s.dnum (ptKey m sub)) != 0
  (s.dnum (ptKey n 2) != 0 && s.dnum (ptKey n 2) == s.dnum (ptKey m 2)) || [3, 4, 5, 6, 7, 8].any both ||
    [12, 13, 14].any (fun sub => rangesMeet (s.ptRange n sub) (s.ptRange m sub)) ||
    [0, 1].any (fun t => rangesMeet (s.ptScratch n t) (s.ptScratch m t)) || rangesMeet (s.ptT1 n) (s.ptT1 m) ||
    rangesMeet (s.ptT2 n) (s.ptT2 m)

/-- The value that a list of entries gives an entry. -/
def itemOf (items : List (Nat × List Byte)) (k : Nat) : Option (List Byte) := (items.find? (fun e => e.1 == k)).map (·.2)

/-- Whether an entry is among the items with value 1. -/
def itemOn (items : List (Nat × List Byte)) (k : Nat) : Bool := (itemOf items k).any (fun b => leNat b == 1)

/-- What of a commit meets the second line of Table 15.3: what it changes of partition n, by its state. -/
def State.ptActiveFails (s t : State) (items : List (Nat × List Byte)) (n : Nat) : List (Bool × Nat × Nat) :=
  let off := (itemOf items (ptKey n 1)).any (fun b => leNat b == 0)
  let clearing := s.ptState n == .clearing
  (s.ptState n != .disabled && clearing && itemOn items (ptKey n 1), ptKey n 1, stPartActive) ::
    ((upTo 13).map (· + 2)).map (fun sub =>
      (s.ptState n != .disabled && s.dget (ptKey n sub) != t.dget (ptKey n sub) &&
        (!off || (clearing && t.dnum (ptKey n sub) != 0)), ptKey n sub, stPartActive))

/-- The first failing check: the entry named and the status; (0, ST_OK) where none fails. -/
def firstCross : List (Bool × Nat × Nat) → Nat × Nat
  | [] => (0, stOk)
  | (b, k, st) :: r => if b then (k, st) else firstCross r

/-- Table 15.3 (R419): the entry named and the status. -/
def State.ptCheck (s t : State) (items : List (Nat × List Byte)) : Nat × Nat :=
  firstCross ([(t.dnum 0x600008 == 1, 0, stSchedRunning)] ++
    (upTo 4).flatMap (fun n => s.ptActiveFails t items n) ++ (upTo 4).flatMap t.ptRangeFails ++
    (upTo 4).flatMap t.ptAbsentFails ++
    [((upTo 4).any (fun n => (upTo n).any (fun m => t.ptConflict n m)), 0, stResourceConflict)])

/-- A rule of R480 on OUTPUT_HOLD = 1. -/
def State.holdCheck (s t : State) (v : Nat) : Nat :=
  if v = 1 && s.running then
    firstFail [
      (t.dnum 0x600008 == 1, stSchedRunning),
      ((upTo 4).any (fun n => s.ptState n != .disabled), stPartActive)]
  else stOk

/-- The cross-entry checks (R445, order 2), in the order of the chapters: the entry named by a rule on one entry of the
configuration alone (0: none), and the status. -/
def State.crossChecks (s t : State) (items : List (Nat × List Byte)) : List (Bool × Nat × Nat) :=
  let has := fun (k : Nat) => (itemOf items k).isSome
  let one := has 0x600008 && t.dnum 0x600008 == 1
  let start := one && (s.sched.state == 0 || s.sched.state == 12)
  let budget := fun (i : Nat) => t.dnum (dkey 0x6100 (i + 1))
  let on := s.dnum 0x600008 == 1
  let planned := one || (on && (has 0x610005 || has 0x610007))
  let st419 := if partStaged items then s.ptCheck t items else (0, stOk)
  let st480 := match itemOf items 0x200002 with
    | some b => s.holdCheck t (leNat b)
    | none => stOk
  [ (decide (6400 < t.rateSum (fun p => bit (t.dnum (dkey 0x4302 (p + 1))) 0 && t.variant.shot)), 0, stShotRate),
    (decide (t.dnum 0x600004 < t.diameter), 0, stBadValue),
    (one && (upTo 7).any (fun i => budget i == 0), 0, stPlanInvalid),
    (start && !s.ahead (t.dnum 0x600007), 0, stStartLate),
    (on && has 0x600009, 0x600009, stSchedRunning),
    (on && has 0x60000A, 0x60000A, stSchedRunning),
    (has 0x700004 && t.cacheOverlap, 0, stBadValue),
    (s.mem.objects.any (fun e => e.2.any (fun d => (objDesc d).mirrored)) && s.dget 0x730004 != t.dget 0x730004, 0x730004,
      stObjectInUse),
    (planned && s.planBroken s.colls (budget 4) (budget 6), 0, stPlanInvalid),
    (t.torusBad, 0, stBadValue),
    (has 0x410008 && s.sched.state != 13, 0x410008, stNotRemap),
    (has 0x410008 && !s.ahead (t.dnum 0x410008), 0x410008, stStartLate),
    (t.pfcBad, 0, stBadValue),
    ((upTo 8).any (fun q => decide (4800 < t.rateSum (fun p => t.dnum (dkey 0x4301 (p + 1)) == q))), 0, stBadValue),
    (itemOn items 0x440001 && t.ruleSwitchCheck != stOk, 0x440001, t.ruleSwitchCheck),
    (st419.2 != stOk, st419.1, st419.2),
    (t.credBad, 0, stBadValue),
    (s.held && itemOn items 0x600008, 0x600008, stBadValue),
    (st480 != stOk, 0x200002, st480)]

/-! ### The trial state -/

/-- Whether an entry only acts and keeps no value of its own. -/
def actsOnly (k : Nat) : Bool :=
  k == 0x200002 || k == 0x200003 || k == 0x200006 || k == 0x200007 || k == 0x410006 || k == 0x440001 || k == 0x520001 ||
    k == 0x900001 || k == 0x9500F1 || k == 0xA01005 || k == 0xA01101

/-- What is stored of a value: SCORE_EN reads 0 on the -T. -/
def State.storedValue (s : State) (k : Nat) (b : List Byte) : List Byte :=
  if k / 256 = 0x4302 && !s.variant.shot then leBytes 4 (leNat b / 2 * 2) else b

/-- The state with every entry's value in its place. -/
def State.putItems (s : State) (items : List (Nat × List Byte)) : State :=
  items.foldl (fun s e => if actsOnly e.1 then s else s.dput (s.bankKey e.1) (s.storedValue e.1 e.2)) s

/-- The staged entries that count: not those of absent units or of ports not in use after the commit (R440, R526). -/
def State.liveItems (s : State) (items : List (Nat × List Byte)) : List (Nat × List Byte) :=
  let t := s.putItems items
  items.filter (fun e => !t.entryAbsent e.1)

/-- The state as if every staged value had been applied. -/
def State.trial (s : State) (items : List (Nat × List Byte)) : State := s.putItems (s.liveItems items)

/-- Orders 1 and 2 of R445 on a stage set: the failing entry (0: none) and the status. -/
def State.commitCheck (s : State) (items : List (Nat × List Byte)) : Nat × Nat :=
  let live := s.liveItems items
  let t := s.putItems live
  let own := live.filterMap (fun e => match entryRow e.1 with
    | none => none
    | some r =>
      let st := if r.acc = 4 && !s.held then stNotHeld else s.ownCheck t e.1 r e.2 false
      if st = stOk then none else some (e.1, st))
  match own with
  | f :: _ => f
  | [] => firstCross (s.crossChecks t live)

end Sys2Proof.Machine
end

