-- ==== Sys2Proof/Machine/Apply.lean ====
section
/-! DEFINITION. What values do when they are applied (R443, R445): at once for a WRITE, at the commit edge for a stage set. -/

namespace Sys2Proof.Machine

/-! ### Ports (R526) -/

/-- A port that leaves use loses its values, and its counters clear (R526). -/
def State.portLeave (s : State) (p : Nat) : State :=
  let mine := fun (k : Nat) => k % 256 == p + 1 &&
    ((decide (0x4201 ≤ k / 256) && decide (k / 256 ≤ 0x4209)) || (decide (0x4301 ≤ k / 256) && decide (k / 256 ≤ 0x4304)))
  let ctr := fun (k : Nat) =>
    let g := (ctrGroupOf (k / 65536 / 256)).any (fun c => c.1.id == k / 65536 && (c.1.kinds.headD (1, 1)).1 == 4)
    g && k % 65536 == p
  let s := { s with dict := s.dict.filter (fun e => !mine e.1), ctr := s.ctr.filter (fun e => !ctr e.1) }
  let s := s.setPort p {}
  (upTo 8).foldl (fun s tc => s.setEgress p tc []) s

/-- The ports that were in use and are not any more leave use. -/
def State.portsAfter (s old : State) : State :=
  (upTo 192).foldl (fun s p => if (old.portBt p).isSome && (s.portBt p).isNone then s.portLeave p else s) s

/-- What a new ENABLE of a port's ETH_PORT_CFG does (R299). -/
def State.portEnable (s : State) (p : Nat) (was is : Bool) : State :=
  if was && !is then ethLinkDown ⟨p, 0⟩ s
  else if is && !was then s.setPort p { s.port p with lost := false }
  else s

/-! ### The schedule (R87, R88, R295) -/

/-- SCHED_ENABLE applied: armed at 1 while IDLE or HALTED (R93); at 0 the schedule stops after the running step, at once
where none runs, and a re-map is left for IDLE. A 1 committed while a stop is pending in a running step takes the stop back,
with no ST_START_LATE check and no new start: the spec is silent there. DESIGN CHOICE (log entry 135). -/
def State.schedEnable (s : State) (was is : Nat) : State :=
  if is = 1 then
    let arms := s.sched.state == 0 || s.sched.state == 12
    { s with sched := { s.sched with armed := arms || s.sched.armed, stopping := false } }
  else if is = 0 ∧ was = 1 then
    let off : Sched := { s.sched with state := 0, armed := false, active := false, stopping := false, window := none }
    if s.sched.state = 13 then
      { s.dput 0x410008 (leBytes 8 0) with
        sched := off, fab := { s.fab with remap := { s.fab.remap with active := false, resume := none } } }
    else if s.sched.active then { s with sched := { s.sched with stopping := true, armed := false } }
    else { s with sched := off }
  else s

/-! ### Statistics (R460) -/

/-- The counters of a group, or of every group for 0, cleared: every instance, or a partition's. -/
def State.statsClear (s : State) (group : Nat) (part : Option Nat) : State :=
  let goes := fun (k : Nat) =>
    let id := k / 65536
    (group == 0 || id / 256 == group) && part.all (fun p =>
      match (ctrGroupOf (id / 256)).find? (fun c => c.1.id == id) with
      | some c =>
        let kind := (c.1.kinds.headD (1, 1)).1
        [2, 5, 6, 7, 8, 9].contains kind && s.ctrVisible p kind (k % 65536)
      | none => false)
  { s with ctr := s.ctr.filter (fun e => !goes e.1) }

/-! ### Firmware (R483) -/

/-- The state with the non-active firmware slot replaced. -/
def State.setFwOther (s : State) (f : FwSlot) : State :=
  if s.boot.fwActive = 0 then { s with boot := { s.boot with fw1 := f } } else { s with boot := { s.boot with fw0 := f } }

/-- FW_BLOCK: a block into the non-active slot. -/
def State.fwBlock (s : State) (b : List Byte) : State :=
  let n := s.dnum 0xA01004
  let s := s.setFwOther { bytes := s.fwOther.bytes.writeN (65536 * n) b, version := none }
  { s.dputNum 0xA01004 2 (n + 1) with boot := { s.boot with fwInact := 0, fwPref := s.boot.fwActive } }

/-- FW_VERIFY = 1 on a slot that passes. -/
def State.fwVerified (s : State) : State :=
  match s.fwOther.verify with
  | some v =>
    let o := 1 - s.boot.fwActive
    let s := s.setFwOther { s.fwOther with version := some v }
    { s with boot := { s.boot with fwInact := v, fwPref := o } }.raiseDev 0xA011 o v
  | none => s

/-! ### Applying -/

/-- What one applied entry does beside holding its value. `old` is the state before the edge, `req` the requester. STATS_CLEAR
acts before every other entry (R460), and ACLK_MAX at the next tick edge (R490). -/
def State.act (old : State) (req : Nat) (s : State) (e : Nat × List Byte) : State :=
  let k := e.1
  let v := leNat e.2
  let idx := k / 256
  if idx = 0x4201 then s.portEnable (k % 256 - 1) (bit (old.dnum k) 0) (bit v 0)
  else if k = 0x600008 then s.schedEnable (old.dnum k) v
  else if k = 0x410008 then { s with fab := { s.fab with remap := { s.fab.remap with resume := some v } } }
  else if (upTo 4).any (fun n => k == ptKey n 1) ∧ v = 1 ∧ old.dnum k = 0 then s.ptEnableUp (idx / 256 - 0x31)
  else if k = 0x440001 ∧ v = 1 then s.ruleSwitch
  else if k = 0x410006 then fabRetrain ⟨BitVec.ofNat 64 v⟩ s
  else if k = 0x700004 ∧ v ≠ old.dnum k then { s with emb := { s.emb with rowCache := [] } }
  else if k = 0x9500F1 then
    { s with dap := { s.dap with reqs := Tab.put {} s.dap.reqs req { Tab.get {} s.dap.reqs req with page := v } } }
  else if k = 0xA01005 ∧ v = 1 then s.fwVerified
  else if k = 0xA01101 then s.fwBlock e.2
  else if idx = 0xA101 then s.raiseDev 0xA003 (leAt (s.dget (dkey 0xA100 (k % 256))) 0 2) (k % 256 - 1)
  else if k = 0x520001 ∧ v = 1 then s.bankSwitch
  else s

/-- The step schedule at a hold edge: IDLE (R477). A step that still ran after SCHED_ENABLE = 0 has ended with what it staged, and a
re-map too; a commit that has been decided completes all the same (R97). DEDUCED (log entry 190). -/
def State.schedIdle (s : State) : State :=
  let s := if s.sched.active && s.sched.pub.isNone then s.euAbort.collAbort else s
  { s with sched := { s.sched with state := 0, active := false, armed := false, stopping := false, window := none },
           fab := { s.fab with remap := { s.fab.remap with active := false, resume := none } } }

/-- OUTPUT_HOLD applied (R478, R480). -/
def State.applyHold (s : State) (items : List (Nat × List Byte)) : State :=
  match itemOf items 0x200002 with
  | some b =>
    if leNat b = 0 then (if s.held then s.enterRun else s) else if s.running then s.enterHold.schedIdle else s
  | none => s

/-- Whether a commit saves the configuration (R476). -/
def State.saves (old : State) (items : List (Nat × List Byte)) : Bool :=
  itemOn items 0x200003 || [0x300001, 0x300002].any (fun k => (itemOf items k).any (fun b => leNat b != old.dnum k))

/-- The counters cleared at the edge, before every increment in it (R460). -/
def State.clearFirst (s : State) (items : List (Nat × List Byte)) (part : Option Nat) : State :=
  match itemOf items 0x900001 with
  | some b => s.statsClear (leNat b) part
  | none => s

/-- The buckets of the ports whose PROC_RATE or PROC_BURST the items change run up to the edge at the old values (R342). -/
def State.settleBuckets (s : State) (items : List (Nat × List Byte)) : State :=
  items.foldl (fun s e =>
    if (e.1 / 256 = 0x4303 ∨ e.1 / 256 = 0x4304) ∧ (s.portBt (e.1 % 256 - 1)).isSome
    then s.settleBucket (e.1 % 256 - 1) (s.inst 0) else s) s

/-- The values applied at one edge (R445): counters are cleared; partitions are disabled under the resources they held; ports
leave use; the entries act; outputs are held or released; a save starts. -/
def State.applyItems (s : State) (items : List (Nat × List Byte)) (req : Nat) (part : Option Nat) : State :=
  let old := s
  let s := (upTo 4).foldl (fun s n =>
    if (itemOf items (ptKey n 1)).any (fun b => leNat b == 0) && s.ptEnabled n then s.ptDisable n else s) (s.clearFirst items part)
  let s := ((s.settleBuckets items).putItems items).portsAfter old
  let s := items.foldl (State.act old req) s
  let s := s.applyHold items
  if old.saves items then s.startSave else s

/-- Values applied to entries by the device's own paths, as the owner (no event of a commit). -/
def State.ownerWrite (s : State) (items : List (Nat × List Byte)) : State × Nat :=
  let c := s.commitCheck items
  if c.2 = stOk then (s.applyItems (s.liveItems items) 0 none, stOk) else (s, c.2)

end Sys2Proof.Machine
end

