-- ==== Sys2Proof/Machine/Startup.lean ====
section
/-! DEFINITION. Startup and configuration (file 17) and the power states (file 19): from power to RUN, the configuration image
at startup and on request, saves, faults, trips, device reset, and firmware in RECOVERY. -/

namespace Sys2Proof.Machine

/-! ### The image applied (R474, R475) -/

/-- The state with the entries of the image at their defaults, rule entries in the inactive bank. -/
def State.imageBase (s : State) : State :=
  let goes := fun (k : Nat) =>
    let e := k % 2 ^ 24
    match entryRow e with
    | some r => inImage e r.acc && (if ruleEntry e then k == s.bankKey e else true)
    | none => false
  { s with dict := s.dict.filter (fun e => !goes e.1) }

/-- The bytes of two maps joined bit by bit. -/
def orBytes (a b : List Byte) : List Byte := List.zipWith (fun x y => x ||| y) a b

/-- The defect map that the next startup puts in force: the record's and the software's (R497). -/
def State.joinDefects (s : State) : State :=
  (upTo 8).foldl (fun s i =>
    s.dput (dkey 0x8100 (i + 1)) (orBytes (s.modrec.defect.getD i []) (s.dget (dkey 0x8110 (i + 1))))) s

/-- The configuration that the records of an image give over the defaults, with the port modes and the defect map that it
would bring. -/
def State.imageTrial (s : State) (recs : List (Nat × List Byte)) : State × List (Nat × List Byte) :=
  let b := s.imageBase
  let live := b.liveItems recs
  let t := (b.putItems live).joinDefects
  ({ t with host := { t.host with bifur := Tab.put 0 (Tab.put 0 [] 0 (t.dnum 0x300001)) 1 (t.dnum 0x300002) } }, live)

/-- Reason 8 of Table 17.5: the failing entry, and whether a check fails. A mapped-out lane or DMA channel that the image still
uses fails it too (R498). -/
def State.imageValueBad (s : State) (recs : List (Nat × List Byte)) : Option Nat :=
  let b := s.imageBase
  let tl := s.imageTrial recs
  let own := tl.2.find? (fun e => match entryRow e.1 with
    | some r => s.ownCheck tl.1 e.1 r e.2 true != stOk
    | none => true)
  let chans := (upTo 4).flatMap (fun n => [6, 7, 8].filterMap (fun sub =>
    if tl.1.dnum (ptKey n sub) &&& leNat (tl.1.dget (dkey 0x8100 (sub - 1))) != 0 then some (ptKey n sub) else none))
  let lanes := s.variant.shot && (tl.1.dget 0x432001).any (fun x => tl.1.defect 4 x.toNat)
  match own with
  | some e => some e.1
  | none =>
    let c := firstCross (b.crossChecks tl.1 (tl.2 ++ [(0x440001, [1#8])]))
    if c.2 ≠ stOk then some c.1 else if lanes then some 0x432001 else chans.head?

/-- CONFIG_STATUS (Table 17.8). -/
def configStatus (reason slot seq key : Nat) : List Byte :=
  leBytes 1 reason ++ leBytes 1 slot ++ leBytes 2 0 ++ leBytes 4 seq ++ leBytes 2 (key / 256) ++ leBytes 1 (key % 256) ++
    List.replicate 5 0#8

/-- A slot checked from reason 3 on (Table 17.5): reason 0 with the records, or the first failing reason and entry. -/
def State.slotCheck (s : State) (n : Nat) : Nat × Nat × List (Nat × List Byte) :=
  let c := s.imageCheck (s.slot n)
  if c.1 ≠ 0 then (c.1, 0, [])
  else match s.imageValueBad c.2 with
    | some k => (8, k, [])
    | none => (0, 0, c.2)

/-- The records of a slot's image applied at one edge, which ends in RUN (R475). `boot`: at startup, the port modes and the
defect map come into force too. -/
def State.applyImage (s : State) (n : Nat) (recs : List (Nat × List Byte)) (boot : Bool) : State :=
  let tl := s.imageTrial recs
  let b := (if boot then s else s.settleBuckets tl.2).imageBase.putItems tl.2
  let b := if boot then { b.joinDefects with host := { b.host with bifur := tl.1.host.bifur } } else b
  let b := (b.portsAfter s).dputNum 0x200004 4 (leAt (s.slot n) 12 4)
  let b := { b with boot := { b.boot with last := some n }, emb := { b.emb with rowCache := [] } }
  b.ruleSwitch.enterRun

/-- An image that fails: CONFIG_STATUS. -/
def State.imageFails (s : State) (reason n key : Nat) : State :=
  s.dput 0x200005 (configStatus reason n (leAt (s.slot n) 12 4) key)

/-- Step 5 (R474, R475): the slot chosen, checked and applied, or HOLD_AWAIT_HOST. -/
def State.configLoad (s : State) : State :=
  let hold := fun (s : State) (reason n : Nat) =>
    { s with boot := { s.boot with state := 6 } }.raiseDev 0x2001 reason n
  let a := slotSeq (s.slot 0)
  let b := slotSeq (s.slot 1)
  if a.isNone && b.isNone then hold (s.dput 0x200005 (configStatus 1 0 0 0)) 1 0
  else if a = b then hold (s.imageFails 2 0 0) 2 0
  else
    let n := if a.getD 0 < b.getD 0 then 1 else 0
    let c := s.slotCheck n
    if c.1 = 0 then s.applyImage n c.2.2 true else hold (s.imageFails c.1 n c.2.1) c.1 n

/-! ### Faults and trips (R470, R492, R508, R512) -/

/-- Entry to FAULT. -/
def State.enterFault (s : State) (reason arg : Nat) : State :=
  { s with boot := { s.boot with state := 9, fault := reason, monitor := arg } }.raiseDev 0x2003 reason arg

/-- What of the NT works without the datapath: MG, the rule bank's number and version, and requests handed to the MC. -/
def Net.mgOnly (n : Net) : Net :=
  { nextId := n.nextId, lookNo := n.lookNo, ports := n.ports.filter (fun e => e.1 == 192),
    egress := n.egress.filter (fun e => e.1 / 8 == 192), ruleBank := n.ruleBank, ruleVer := n.ruleVer, toMc := n.toMc }

/-- What a trip does (R492): every host endpoint's link goes down, the transmitters go idle, the NT datapath stops, the tiles lose
their power, and with the links the repairs under way end (R508); the module is in AUX and in FAULT. -/
def State.trip (s : State) (reason arg : Nat) : State :=
  let s := (upTo 4).foldl (fun s e =>
    if (Tab.get ({} : Endpoint) s.host.endpts (e + 1)).up then s.hostReset (e + 1) true else s) s
  let s := s.dropOutputs .down
  let s := { s with power := .aux, cores := [], engines := [], chans := [], eus := [], bars := [], sched := {},
                    host := { s.host with pt := [] }, net := s.net.mgOnly,
                    mem := { s.mem with poison := s.mem.poison.map (fun (p : Poison) => { p with repair := false }) } }
  s.enterFault reason arg

/-! ### Restart (R464, R465, R482, Table 17.7) -/

/-- L and S of a slot at a device reset (R454). -/
def markAtReset (m : Nat × Nat) : Nat × Nat := (m.2, m.2 + 2 ^ 20)

/-- What a device reset keeps (Table 17.7) and the level of the PERST inputs, everything else as after reset. -/
def State.restart (s : State) : State :=
  let cred := s.dict.filter (fun e => e.1 / 256 == 0xA100 || e.1 / 256 == 0xA101 || e.1 == 0xA00005)
  let marks := (upTo 16).foldl (fun t n =>
    if leAt (s.dget (dkey 0xA100 (n + 1))) 0 2 = 0 then t
    else Tab.put (0, 0) t n (markAtReset (Tab.get (0, 0) s.dap.marks n))) s.dap.marks
  let bad := (s.mem.poison.filter (fun p => p.gran.tier == 2)).map (fun p => { p with repair := false, lost := true })
  let mem : Mem := { poison := bad, boot := s.mem.boot + 1 }
  let boot : Boot := { helper := s.boot.helper, record := s.boot.record, reserved := s.boot.reserved, fw0 := s.boot.fw0,
                       fw1 := s.boot.fw1, fwActive := s.boot.fwActive, fwPref := s.boot.fwPref, slots := s.boot.slots }
  let dap : DapSt := { marks := marks }
  { pending := s.pending, variant := s.variant, dict := cred, events := s.events, out := s.out,
    draws := s.draws, t2 := s.t2, mem := mem, boot := boot, dap := dap, host := { perst := s.host.perst },
    health := { refRan := s.health.refRan } }

/-- Steps 1 and 2 (R468): the preferred slot, or the other with EV_FW_FALLBACK, or RECOVERY. -/
def State.bootFirmware (s : State) : State :=
  let f := fun (n : Nat) => if n = 0 then s.boot.fw0 else s.boot.fw1
  let p := s.boot.fwPref
  let take := fun (n v : Nat) =>
    let g : FwSlot := { f n with version := some v }
    let b := { s.boot with fwActive := n, state := 2 }
    { s with boot := if n = 0 then { b with fw0 := g } else { b with fw1 := g } }
  match (f p).verify with
  | some v => take p v
  | none =>
    match (f (1 - p)).verify with
    | some v => (take (1 - p) v).raiseDev 0xA010 (1 - p) 0
    | none => { s with boot := { s.boot with state := 10 } }

/-- The identity derived (R469). -/
def State.identify (s : State) : State :=
  let seed := Config.pufSeed s.boot.helper
  let key := Config.deviceKey seed
  let pub := 4#8 :: (beBytes 48 (Config.publicPoint key).1 ++ beBytes 48 (Config.publicPoint key).2)
  { s with ident := { seed := seed, key := key, pub := pub, id := sha384 pub } }

/-- Whether the module record in the flash is applied (R470): signed, for this device and for the package's variant. -/
def State.recordGood (s : State) : Bool :=
  s.boot.record.signed && s.boot.record.deviceId == s.ident.id && s.boot.record.variant == s.variant

/-- Steps 1 to 3 (Table 17.1): BRINGUP with the module record applied, RECOVERY, or FAULT with reason PUF or RECORD. -/
def State.startup (s : State) (puf : Bool) : State :=
  let s := s.bootFirmware
  if s.boot.state = 10 then s
  else if !puf then s.enterFault 9 0
  else
    let s := s.identify
    if !s.recordGood then s.enterFault 10 0
    else { s with modrec := s.boot.record, boot := { s.boot with state := 4 } }

/-- Whether the startup sequence has not begun: OFF, or as after reset. -/
def State.unstarted (s : State) : Bool := (s.power == .off || decide (s.boot.state ≤ 1)) && !s.boot.railOff

/-- POWER_GOOD (R464, R505, R508). -/
def powerGood (o : StartOp) (s : State) : State := if s.unstarted then s.restart.startup o.puf else s

/-- BRINGUP_COMPLETE (R471): FAULT with reason HBM or CXL, or step 5. -/
def bringupComplete (o : BringupOp) (s : State) : State :=
  if s.boot.state ≠ 4 then s
  else match o.hbm with
    | some k => (s.raiseDev 0x7007 k.val 0).enterFault 11 0
    | none => if o.cxl then s.enterFault 12 0 else { s with boot := { s.boot with state := 5 } }.configLoad

/-- RAIL_TIMEOUT (R510): OFF for VDD_AON and VDD_MC, otherwise FAULT with reason RAIL after steps 1 and 2. -/
def railTimeout (o : RailOp) (s : State) : State :=
  let m := o.monitor.toNat
  if !s.unstarted || decide (m < 113) || decide (143 < m) then s
  else if m = 137 ∨ m = 138 then
    { s with power := .off, boot := { s.boot with state := 0, railOff := true } }
  else
    let s := s.restart.bootFirmware
    if s.boot.state = 10 then { s with boot := { s.boot with fault := 15, monitor := m } } else s.enterFault 15 m

/-- A slot whose save is cut off: header and records, no trailer (R476). -/
def cutImage (b : List Byte) : List Byte := b.take (64 + leAt b 20 4)

/-- INPUT_DISCONNECT (R505, R508): every rail off; only the flash keeps what it holds. -/
def inputDisconnect (s : State) : State :=
  let slots := match s.boot.saving with
    | some x => Tab.put [] s.boot.slots x.slot (cutImage x.image)
    | none => s.boot.slots
  let r := { s with mem := { s.mem with poison := [] } }.restart
  { r with power := .off, t2 := [], boot := { r.boot with state := 0, slots := slots } }

/-! ### RECOVERY (R468) -/

/-- FW_BLOCK in RECOVERY: 32,768 bytes into slot 0. -/
def State.recoveryBlock (s : State) (payload : List Byte) : State × Nat :=
  let off := leAt payload 0 4
  if payload.length ≠ 32772 ∨ off % 32768 ≠ 0 ∨ fwSlotSize ≤ off then (s, stBadValue)
  else
    let f : FwSlot := { bytes := s.boot.fw0.bytes.writeN off (payload.drop 4), version := none }
    ({ s with boot := { s.boot with fw0 := f } }, stOk)

/-- FW_BOOT in RECOVERY: slot 0 verified; accepted, the startup begins again. -/
def State.recoveryBoot (s : State) (puf : Bool) : State × Nat :=
  match s.boot.fw0.verify with
  | some v => ({ s with boot := { s.boot with fw0 := { s.boot.fw0 with version := some v } } }.restart.startup puf, stOk)
  | none => (s, stBadValue)

/-- RECOVERY_FW_BLOCK (R468): the command of P0a's mailbox. -/
def recoveryFwBlock (o : RecoveryOp) (s : State) : State :=
  if s.boot.state ≠ 10 then s
  else
    let r := s.recoveryBlock o.payload
    r.1.mbxRespond 5 0x0A01 r.2 o.tag.toNat []

/-- RECOVERY_FW_BOOT (R468). -/
def recoveryFwBoot (o : RecoveryBootOp) (s : State) : State :=
  if s.boot.state ≠ 10 then s
  else
    let r := s.recoveryBoot o.puf
    if r.2 = stOk then r.1 else s.mbxRespond 5 0x0A02 r.2 o.tag.toNat []

/-! ### Direct applications by the owner -/

/-- Whether the MC serves requests (R466). -/
def State.serving (s : State) : Bool := decide (6 ≤ s.boot.state) && decide (s.boot.state ≤ 9)

/-- Values applied in a state that admits them: in FAULT, no commit (R470). -/
def State.ownerApply (s : State) (items : List (Nat × List Byte)) : State :=
  if s.serving && s.boot.state != 9 then (s.ownerWrite items).1 else s

/-- OUTPUT_HOLD (R478, R480). -/
def outputHold (o : FlagOp) (s : State) : State := s.ownerApply [(0x200002, leBytes 1 (b2n o.value))]

/-- CONFIG_SAVE (R476). -/
def configSave (s : State) : State := s.ownerApply [(0x200003, [1#8])]

/-- CONFIG_SAVE_COMPLETE (R476). -/
def configSaveComplete (o : OutcomeOp) (s : State) : State :=
  match s.boot.saving with
  | none => s
  | some x =>
    let put := fun (b : List Byte) => Tab.put [] s.boot.slots x.slot b
    let s := if o.flag then
        ({ s with boot := { s.boot with saving := none, slots := put x.image, last := some x.slot } }.dputNum 0x200004 4
          x.seq).raiseDev 0x2004 x.seq x.slot
      else { s with boot := { s.boot with saving := none, slots := put (Config.failedSave x.seq) } }.raiseDev 0x2005 x.seq x.slot
    if s.boot.again then { s with boot := { s.boot with again := false } }.startSave else s

/-- A WRITE of CONFIG_LOAD_SLOT (R481) and its status. -/
def State.loadSlot (s : State) (n : Nat) : State × Nat :=
  if 1 < n then (s, stBadValue)
  else if !s.held then (s, stNotHeld)
  else
    let c := s.slotCheck n
    if c.1 = 0 then (s.applyImage n c.2.2 false, stOk) else (s.imageFails c.1 n c.2.1, stBadValue)

/-- CONFIG_LOAD_SLOT (R481). -/
def configLoadSlot (o : ValueOp) (s : State) : State :=
  if s.serving && s.boot.state != 9 then (s.loadSlot o.value.toNat).1 else s

/-- Whether a DEVICE_RESET is not accepted yet: REFCLK has not run for 10 ms (R512), or the PWR_FAULT_N that tripped the module is
masked (R516). -/
def State.resetBlocked (s : State) : Bool :=
  decide (s.health.refRan < refReady) ||
    (s.boot.state == 9 && s.boot.fault == 13 && s.boot.monitor == 194 && bit s.health.masked 4)

/-- A WRITE of DEVICE_RESET (R482) and its status. -/
def State.resetWrite (s : State) (v : Nat) : State × Nat :=
  if v ≠ 0x9640 then (s, stBadValue)
  else if s.resetBlocked then (s, Config.resetRefused)
  else ({ s with boot := { s.boot with reset := true } }, stOk)

/-- DEVICE_RESET (R482). -/
def deviceReset (o : ValueOp) (s : State) : State := if s.serving then (s.resetWrite o.value.toNat).1 else s

/-- Whether a reset that was asked for may start (R482, R493, R512, R516): no save runs, nothing blocks it, and after a trip the
monitors have cooled. -/
def State.resetReady (s : State) : Bool :=
  s.boot.reset && s.boot.saving.isNone && !s.resetBlocked &&
    (!(s.boot.state == 9 && s.boot.fault == 13) || decide (128 ≤ s.health.cool))

/-- DEVICE_RESET_START (R482, R493): the sequence begins again at step 1. -/
def deviceResetStart (o : StartOp) (s : State) : State :=
  if !s.resetReady then s
  else
    let tripped := s.boot.state == 9 && s.boot.fault == 13
    let r := s.restart
    (if tripped then r.count cTripResets 0 1 else r).startup o.puf

/-- FW_BLOCK (R483). -/
def fwBlockCmd (o : BytesOp) (s : State) : State :=
  if s.serving && o.bytes.length == 65536 && decide (s.dnum 0xA01004 < 512) then s.fwBlock o.bytes else s

/-- FW_VERIFY (R483). -/
def fwVerifyCmd (s : State) : State := if s.serving then s.fwVerified else s

/-- STATS_CLEAR (R460). -/
def statsClearCmd (o : StatsOp) (s : State) : State :=
  let n := o.value.toNat
  if s.serving && s.boot.state != 9 && decide (n < 65536) && (n == 0 || ctrGroups.any (fun g => g.1 == n)) then
    s.statsClear n (o.part.map (·.toNat))
  else s

def execPowerGood (o : StartOp) (s : State) : Out := .next (powerGood o s)
def execBringupComplete (o : BringupOp) (s : State) : Out := .next (bringupComplete o s)
def execRailTimeout (o : RailOp) (s : State) : Out := .next (railTimeout o s)
def execInputDisconnect (s : State) : Out := .next (inputDisconnect s)
def execRecoveryFwBlock (o : RecoveryOp) (s : State) : Out := .next (recoveryFwBlock o s)
def execRecoveryFwBoot (o : RecoveryBootOp) (s : State) : Out := .next (recoveryFwBoot o s)
def execOutputHold (o : FlagOp) (s : State) : Out := .next (outputHold o s)
def execConfigSave (s : State) : Out := .next (configSave s)
def execConfigSaveComplete (o : OutcomeOp) (s : State) : Out := .next (configSaveComplete o s)
def execConfigLoadSlot (o : ValueOp) (s : State) : Out := .next (configLoadSlot o s)
def execDeviceReset (o : ValueOp) (s : State) : Out := .next (deviceReset o s)
def execDeviceResetStart (o : StartOp) (s : State) : Out := .next (deviceResetStart o s)
def execFwBlock (o : BytesOp) (s : State) : Out := .next (fwBlockCmd o s)
def execFwVerify (s : State) : Out := .next (fwVerifyCmd s)
def execStatsClear (o : StatsOp) (s : State) : Out := .next (statsClearCmd o s)

end Sys2Proof.Machine
end

