-- ==== Sys2Proof/Machine/DapFrame.lean ====
section
/-! DEFINITION. The frames of DAP (R452): where a request lies in its frame, and the frame that answers it with the request's
layers; ARP and neighbour solicitation on MG. -/

namespace Sys2Proof.Machine

/-! ### The layers of a request -/

/-- The layers of a frame in order: each with the parse before it. -/
def layerList (c : ParseCfg) : Nat → Parsed → Layer → List (Layer × Parsed)
  | 0, _, _ => []
  | k + 1, r, l =>
    match l with
    | .done => []
    | l => (let n := parseLayer c r l
            (l, r) :: layerList c k n.1 n.2)

/-- The parse of a frame for the MC: its depth is not limited on MG (R452). -/
def State.mcCfg (s : State) (frame : List Byte) : ParseCfg :=
  let f := frame.take (frame.length - 4)
  { f := f, lim := f.length, vxlan := s.dnum 0x431001, geneve := s.dnum 0x431002 }

/-- The DAP message of a frame that the MC holds (R452, R453): the bytes of its innermost UDP layer. none where the frame is no such
datagram or is fragmented. -/
def State.dapHeld (s : State) (frame : List Byte) : Option (Parsed × List Byte) :=
  let c := s.mcCfg frame
  let r := parseGo c 96 {} .eth
  let n := c.be (r.udpAt + 4) 2
  if r.fail ≠ 0 || r.frag != 0 || !r.inner then none else some (r, ((c.f.drop (r.udpAt + 8)).take (n - 8)))

/-- The DAP message of a frame that arrives (R452): none also where it does not pass the address filter, goes to another port, or
the port is down. Once it has arrived, what becomes of the port changes nothing of it (R454). -/
def State.dapMessage (s : State) (port : Nat) (frame : List Byte) : Option (Parsed × List Byte) :=
  (s.dapHeld frame).filter (fun e => e.1.dport == s.dnum 0xA00001 && s.addrPasses port frame && s.portUp port)

/-! ### The answering frame (R452) -/

/-- The Internet checksum of bytes (an odd last byte padded with zero). -/
def inetSum (b : List Byte) : Nat := 65535 - sum16 (if b.length % 2 = 1 then b ++ [0#8] else b)

/-- Two fields of `n` bytes at `a` and `b` exchanged. -/
def swapAt (l : List Byte) (a b n : Nat) : List Byte :=
  let x := (l.drop a).take n
  let y := (l.drop b).take n
  patch (patch l a y) b x

/-- A layer of the answer, its lengths set from where it starts to the end: addresses and ports exchanged, the rest as R452
states. Checksums of UDP and GRE are set apart. -/
def answerLayer (g : List Byte) (e : Layer × Parsed) : List Byte :=
  let a := e.2.p
  let n := g.length
  match e.1 with
  | .eth => swapAt g a (a + 6) 6
  | .ip4 =>
    let hl := 4 * ((byteAt g a).toNat % 16)
    let g := swapAt g (a + 12) (a + 16) 4
    let g := patch g (a + 1) ([BitVec.ofNat 8 (4 * ((byteAt g (a + 1)).toNat / 4))] ++ beBytes 2 (n - a) ++ beBytes 2 0 ++
      beBytes 2 0x4000 ++ [64#8])
    let g := patch g (a + 10) (beBytes 2 0)
    patch g (a + 10) (beBytes 2 (inetSum ((g.drop a).take hl)))
  | .ip6 =>
    let g := swapAt g (a + 8) (a + 24) 16
    let tc := beAt g a 2 / 64 % 64 * 4
    let g := patch g a (beBytes 4 (0x60000000 + tc * 2 ^ 20))
    patch (patch g (a + 4) (beBytes 2 (n - a - 40))) (a + 7) [64#8]
  | .l4 =>
    if e.2.proto = 17 then
      let g := swapAt g a (a + 2) 2
      patch g (a + 4) (beBytes 2 (n - a) ++ beBytes 2 0)
    else g
  | _ => g

/-- The checksum of the DAP layer, over the pseudo-header of its IP layer (RFC 768, RFC 8200); 0 is sent as 0xFFFF. -/
def udpChecksum (g : List Byte) (r : Parsed) : List Byte :=
  let seg := g.drop r.udpAt
  let pseudo := if r.v4 then (g.drop (r.ip + 12)).take 8 ++ beBytes 2 17 ++ beBytes 2 seg.length
    else (g.drop (r.ip + 8)).take 32 ++ beBytes 4 seg.length ++ beBytes 4 17
  let x := inetSum (pseudo ++ seg)
  patch g (r.udpAt + 6) (beBytes 2 (if x = 0 then 65535 else x))

/-- The checksum of a GRE layer that has one (RFC 2784), over the layer and what follows it. -/
def greChecksum (g : List Byte) (e : Layer × Parsed) : List Byte :=
  let a := e.2.p
  match e.1 with
  | .l4 =>
    if e.2.proto = 47 && bit (beAt g a 2) 15 then
      let g := patch g (a + 4) (beBytes 2 0)
      patch g (a + 4) (beBytes 2 (inetSum (g.drop a)))
    else g
  | _ => g

/-- The frame, without FCS, that answers a request's frame with a message. -/
def State.answerFrame (s : State) (frame : List Byte) (r : Parsed) (msg : List Byte) : List Byte :=
  let c := s.mcCfg frame
  let ls := layerList c 96 {} .eth
  let g := c.f.take (r.udpAt + 8) ++ msg
  let g := udpChecksum (ls.foldl answerLayer g) r
  ls.reverse.foldl greChecksum g

/-- A frame of the MC for a port's egress queue. -/
def State.mcSend (s : State) (port tc : Nat) (bytes : List Byte) : State :=
  s.egressPut port tc (s.inst 0) ⟨0, none, none, bytes, false, false, s.inst 0⟩

/-! ### ARP and neighbour solicitation on MG (R452) -/

/-- The link-local address formed from MG's MAC address by EUI-64. -/
def State.linkLocal (s : State) : List Byte :=
  let m := s.portMac 192
  [0xFE#8, 0x80#8] ++ List.replicate 6 0#8 ++ [byteAt m 0 ^^^ 2#8, byteAt m 1, byteAt m 2, 0xFF#8, 0xFE#8, byteAt m 3, byteAt m 4,
    byteAt m 5]

/-- ARP_REQUEST: a request for MG_IPV4 is answered (RFC 826). -/
def arpRequest (o : DapOp) (s : State) : State :=
  let f := o.bytes.take (o.bytes.length - 4)
  let ip := beBytes 4 (s.dnum 0xA00006)
  if !s.serving || o.port != 192 || !s.portUp 192 || !s.addrPasses 192 o.bytes || s.dnum 0xA00006 == 0 ||
      beAt f 12 10 != 0x08060001080006040001 || (f.drop 38).take 4 != ip then s
  else
    let mac := s.portMac 192
    s.mcSend 192 0 ((f.drop 22).take 6 ++ mac ++ beBytes 10 0x08060001080006040002 ++ mac ++ ip ++ (f.drop 22).take 10)

/-- NEIGHBOR_SOLICITATION: a solicitation for the link-local address is answered (RFC 4861). -/
def neighborSolicitation (o : DapOp) (s : State) : State :=
  let f := o.bytes.take (o.bytes.length - 4)
  let mine := s.linkLocal
  if !s.serving || o.port != 192 || !s.portUp 192 || !s.addrPasses 192 o.bytes || beAt f 12 2 != 0x86DD || beAt f 20 2 != 0x3AFF ||
      beAt f 54 2 != 0x8700 || f.length < 78 || (f.drop 62).take 16 != mine then s
  else
    let mac := s.portMac 192
    let src := (f.drop 22).take 16
    let anon := src.all (· == 0#8)
    let dst := if anon then [0xFF#8, 0x02#8] ++ List.replicate 13 0#8 ++ [1#8] else src
    let to_ := if anon then beBytes 6 0x333300000001 else (f.drop 6).take 6
    let body := fun (ck : Nat) => beBytes 2 0x8800 ++ beBytes 2 ck ++ beBytes 4 (if anon then 0x20000000 else 0x60000000) ++ mine ++
      beBytes 2 0x0201 ++ mac
    let ck := inetSum (mine ++ dst ++ beBytes 4 32 ++ beBytes 4 58 ++ body 0)
    s.mcSend 192 0 (to_ ++ mac ++ beBytes 2 0x86DD ++ beBytes 4 0x60000000 ++ beBytes 2 32 ++ beBytes 2 0x3AFF ++ mine ++ dst ++
      body ck)

def execArpRequest (o : DapOp) (s : State) : Out := .next (arpRequest o s)
def execNeighborSolicitation (o : DapOp) (s : State) : Out := .next (neighborSolicitation o s)

end Sys2Proof.Machine
end

