-- ==== Sys2Proof/Machine/Serve.lean ====
section
/-! DEFINITION. The server of the dictionary (file 16): requests of the three paths with their checks (R458), roles (R450,
R451), pieces (R453), stage sets (R444), commits (R445) and reports. -/

namespace Sys2Proof.Machine

/-! ### Requesters and roles (R449 to R451) -/

/-- Who makes a request: role, key in the table of requesters, the partition of a PARTITION role, the mailbox and the
partition it counts violations for, and what EV_DAP_COMMIT carries (path, ARG0 [31:16], PARTITION). -/
structure Who where
  role : Nat
  req  : Nat
  part : Option Nat
  mbx  : Option Nat
  viol : Option Nat
  path : Nat
  id   : Nat
  evPt : Nat

/-- The requester of a DAP message. -/
def State.whoDap (s : State) (port keyId : Nat) : Who :=
  let r := s.roleOf keyId
  { role := r, req := keyId, part := if 4 ≤ r then some (r - 4) else none, mbx := none, viol := none,
    path := if port = 192 then 1 else 2, id := keyId, evPt := 0xFF }

/-- The requester at a mailbox: a partition's, or an endpoint's with the OWNER role (R451, R470). -/
def State.whoMbx (s : State) (m : Nat) : Who :=
  if m < 4 then
    let op := s.dnum 0xA00004 == m
    { role := if op then 2 else 4 + m, req := 65536 + m, part := if op then none else some m, mbx := some m, viol := some m,
      path := 3, id := m, evPt := m }
  else { role := 1, req := 65536 + m, part := none, mbx := some m, viol := none, path := 3, id := 0x0100 + (m - 4), evPt := 0xFF }

/-- Whether a role reads an entry's value (Table 16.4, R461). -/
def State.mayRead (s : State) (w : Who) (k : Nat) : Bool :=
  match w.part with
  | none => true
  | some n => (match partOf k with
    | some m => m == n
    | none => !(decide (0xA000 ≤ k / 256) && decide (k / 256 ≤ 0xAFFF))) && (k != 0x9500F0 || s.dnum 0x500001 == n)

/-- Whether an entry is one of 0x3p00.01 to .0E (R418). -/
def ptResource (k : Nat) : Bool :=
  (upTo 4).any (fun n => k / 256 == 0x3100 + 0x100 * n) && decide (1 ≤ k % 256) && decide (k % 256 ≤ 14)

/-- Whether a role writes and stages an entry (Table 16.4, R418, R461). -/
def State.mayWrite (s : State) (w : Who) (k : Nat) : Bool :=
  let idx := k / 256
  if w.role = 1 then !(w.mbx.isSome && ptResource k)
  else if w.role = 2 then !(decide (0x3000 ≤ idx) && decide (idx ≤ 0x3FFF)) && !(decide (0xA000 ≤ idx) && decide (idx ≤ 0xAFFF))
  else if w.role = 3 then k == 0x9500F1
  else match w.part with
    | some n => k == dkey 0x4700 (n + 1) || k == dkey 0x4701 (n + 1) || k == 0x900001 ||
        (k == 0x9500F1 && s.dnum 0x500001 == n)
    | none => false

/-- Whether FAULT admits a WRITE of an entry (R470). -/
def faultWrite (k : Nat) : Bool := k == 0x200007 || k / 256 == 0xA010 || k / 256 == 0xA011

/-! ### Requests -/

/-- A request: operation (Table 16.6) and the fields that Tables 16.5 and 16.8 share. -/
structure Req where
  op     : Nat
  key    : Nat
  dtype  : Nat
  staged : Bool
  last   : Bool
  offset : Nat
  total  : Nat
  value  : List Byte

/-- What a request gives: status, DTYPE, whether the value ends, its offset, whole length and bytes; `wait`: the answer comes
at the end of a commit's bank checks. -/
structure Reply where
  st     : State
  status : Nat
  dtype  : Nat := 0
  last   : Bool := true
  offset : Nat := 0
  total  : Nat := 0
  value  : List Byte := []
  wait   : Bool := false

/-- A reply without a value: one to READ, WRITE or STAGE carries the request's fields, any other those of an empty single
piece (R453; log entry 149). -/
def Req.bare (q : Req) (s : State) (status : Nat) : Reply :=
  if q.op = 1 ∨ q.op = 2 ∨ q.op = 3 then
    { st := s, status := status, dtype := q.dtype, last := q.last, offset := q.offset, total := q.total }
  else { st := s, status := status }

/-- A requester's own state. -/
def State.own (s : State) (w : Who) : Requestee := Tab.get {} s.dap.reqs w.req

/-- The state with a requester's own state replaced. -/
def State.setOwn (s : State) (w : Who) (r : Requestee) : State := { s with dap := { s.dap with reqs := Tab.put {} s.dap.reqs w.req r } }

/-- A violation of the mailbox's partition (R433). -/
def State.mbxViolate (s : State) (w : Who) (reason k : Nat) : State :=
  match w.viol with
  | some n => s.violate n 4 reason k
  | none => s

/-! ### READ -/

/-- The whole value that a READ gives, and the state with a violation counted (R433, R450). -/
def State.readWhole (s : State) (w : Who) (r : EntryRow) (k : Nat) : State × List Byte :=
  if s.mayRead w k then (s, s.entryValue k (s.own w).page w.part)
  else
    let other := (partOf k).any (fun m => some m != w.part)
    (if other then s.mbxViolate w 0 k else s, List.replicate (if r.var then r.minLen else r.len) 0#8)

/-- The snapshot of a requester after a READ arrives: it lasts until the next READ at OFFSET 0 or of another entry (R453). -/
def snapKept (q : Req) (snap : Option (Nat × List Byte)) : Option (Nat × List Byte) :=
  snap.filter (fun e => e.1 == q.key && q.offset != 0)

/-- The piece of a value that a READ asks for, and the snapshot that later pieces read. -/
def State.readPiece (s : State) (w : Who) (q : Req) (r : EntryRow) (most : Nat) (b : List Byte) : Reply :=
  let v := (b.drop q.offset).take most
  { st := s.setOwn w { s.own w with snap := some (q.key, b) }, status := stOk, dtype := r.ty,
    last := q.offset + v.length == b.length, offset := q.offset, total := b.length, value := v }

/-- READ (R443, R444, R453); `most` is the longest piece of the path. One that the role does not admit gives zeros, before its
length and order are checked (R450, R458). A staged READ of an absent unit's entry answers as any READ of it (R440). -/
def State.doRead (s : State) (w : Who) (q : Req) (r : EntryRow) (most : Nat) : Reply :=
  let s := s.setOwn w { s.own w with snap := snapKept q (s.own w).snap }
  let own := s.own w
  if !s.mayRead w q.key then
    let t := s.readWhole w r q.key
    t.1.readPiece w q r most t.2
  else if !q.value.isEmpty then { st := s, status := stBadLength }
  else if q.offset ≠ 0 then
    match own.snap with
    | none => { st := s, status := stBlockOrder }
    | some (_, b) => if b.length ≤ q.offset then { st := s, status := stBadLength } else s.readPiece w q r most b
  else match q.staged, Tab.get none own.items q.key with
    | true, some b => s.readPiece w q r most b
    | true, none =>
      if s.entryAbsent q.key then s.readPiece w q r most (s.readWhole w r q.key).2 else { st := s, status := stNoSuchEntry }
    | false, _ => s.readPiece w q r most (s.readWhole w r q.key).2

/-- Whether a READ takes its value at the next tick edge (R459, R461): a counter group's entry or FLOW_PAGE, at OFFSET 0. -/
def State.sampled (s : State) (w : Who) (q : Req) : Bool :=
  ((ctrEntry q.key).isSome || q.key == 0x9500F0) && q.offset == 0 && !q.staged && q.value.isEmpty && s.mayRead w q.key

/-! ### Pieces (R453) -/

/-- A piece of a WRITE or STAGE: the block in progress after it, and the whole value when it completes, or the status that
refuses it. -/
def piece (blk : Option Block) (q : Req) (r : EntryRow) : Option Block × (Option (List Byte)) × Nat :=
  let n := q.value.length
  let ends := q.offset + n == q.total
  let bad := decide (q.total < q.offset + n) || q.last != ends || !r.lenOk q.total
  if q.offset = 0 then
    if bad then (none, none, stBadLength)
    else if q.last then (none, some q.value, stOk)
    else (some ⟨q.key, q.op, q.total, q.value⟩, none, stOk)
  else match blk with
    | some b =>
      if b.key ≠ q.key ∨ b.op ≠ q.op ∨ b.bytes.length ≠ q.offset then (none, none, stBlockOrder)
      else if b.total ≠ q.total ∨ bad then (none, none, stBadLength)
      else if q.last then (none, some (b.bytes ++ q.value), stOk)
      else (some { b with bytes := b.bytes ++ q.value }, none, stOk)
    | none => (none, none, stBlockOrder)

/-! ### WRITE and STAGE (R443, R444) -/

/-- A whole value written (R443): the value and the entry's own rules, then the effect at once. -/
def State.writeValue (s : State) (w : Who) (k : Nat) (r : EntryRow) (b : List Byte) : State × Nat :=
  if k = 0x200007 then s.resetWrite (leNat b)
  else if k = 0x200006 then s.loadSlot (leNat b)
  else
    let items := [(k, b)]
    let st := s.ownCheck s k r b false
    let st := if st = stOk && k == 0x200002 then s.holdCheck s (leNat b) else st
    if st ≠ stOk then (s, st) else (s.applyItems items w.req w.part, stOk)

/-- A whole value staged (R444): CONFIG_LOAD_SLOT and DEVICE_RESET are refused (R481, R482). -/
def State.stageValue (s : State) (w : Who) (k : Nat) (b : List Byte) : State × Nat :=
  let own := s.own w
  let items : Tab (Option (List Byte)) := Tab.put none own.items k (some b)
  let bytes : Nat := (items.map (fun e => (e.2.getD []).length)).foldl (· + ·) 0
  if k = 0x200006 ∨ k = 0x200007 then (s, stBadValue)
  else if 1024 < items.length ∨ 1048576 < bytes then (s, stStageLimit)
  else (s.setOwn w { own with items := items }, stOk)

/-- The status that an access right gives a WRITE or a STAGE (Table 16.3). -/
def rightStatus (op acc : Nat) : Nat :=
  if acc = 1 ∨ acc = 2 then stReadOnly else if op = 2 ∧ (acc = 4 ∨ acc = 5) then stStagedOnly else stOk

/-- A WRITE or STAGE past the check of its role: right, DTYPE, length and order, value (R458, 7 to 10). -/
def State.putChecked (s : State) (w : Who) (q : Req) (r : EntryRow) : State × Nat :=
  let rs := rightStatus q.op r.acc
  if rs ≠ stOk then (s, rs)
  else if q.dtype ≠ r.ty then (s, stType)
  else
    let own := s.own w
    let p := piece own.block q r
    let s := s.setOwn w { own with block := p.1 }
    match p.2.1 with
    | some b => if q.op = 2 then s.writeValue w q.key r b else s.stageValue w q.key b
    | none => (s, p.2.2)

/-- A denied WRITE or STAGE counted (R418, R433): of the mailbox's partition, and under any other credential, for an entry of a
partition's resources, of the credential's partition or else of the entry's (log entry 72). -/
def State.putViolate (s : State) (w : Who) (k : Nat) : State :=
  let own := match w.viol, w.part with
    | some n, _ => some n
    | none, p => if ptResource k then (match p with | some n => some n | none => partOf k) else none
  match own with
  | some n => s.violate n 4 (if (partOf k).any (fun m => m != n) then 0 else 3) k
  | none => s

/-- WRITE and STAGE (R440, R450, R470): an entry of an absent unit is ignored with ST_OK; a STAGE of the entry of a port that
is not in use is checked as any other, for the commit may bring the port into use (R444, R526). -/
def State.doPut (s : State) (w : Who) (q : Req) (r : EntryRow) : Reply :=
  if !s.mayWrite w q.key then q.bare (s.putViolate w q.key) stDenied
  else if s.boot.state = 9 && !(q.op == 2 && faultWrite q.key) then q.bare s stDenied
  else if lacks s.variant q.key || (q.op == 2 && s.entryAbsent q.key) then q.bare s stOk
  else
    let p := s.putChecked w q r
    q.bare p.1 p.2

/-! ### COMMIT (R445, R448) -/

/-- The report of a COMMIT (Table 16.6). -/
def report (key applied tick : Nat) : List Byte :=
  leBytes 2 (key / 256) ++ leBytes 1 (key % 256) ++ leBytes 1 0 ++ leBytes 4 applied ++ leBytes 6 tick ++ leBytes 2 0

/-- A rejected commit's reply; one that comes too late for a start edge raises EV_SCHED_START_LATE (R87, R295). -/
def State.commitFail (s t : State) (f : Nat × Nat) : Reply :=
  let s := if f.2 = stStartLate then
      s.raiseDev 0x6013 0 (t.dnum (if f.1 = 0x410008 then 0x410008 else 0x600007))
    else s
  { st := s, status := f.2, dtype := 11, total := 16, value := report f.1 0 0 }

/-- An accepted commit: every entry applied at the edge, and EV_DAP_COMMIT. -/
def State.commitDone (s : State) (w : Who) (live : List (Nat × List Byte)) : Reply :=
  let s := s.applyItems live w.req w.part
  { st := s.raise 0xA002 w.evPt (w.path + 65536 * w.id) live.length, status := stOk, dtype := 11, total := 16,
    value := report 0 live.length s.now }

/-- COMMIT: the stage set is emptied either way; staged BANK_COMMIT leaves the answer to the end of the bank's checks. -/
def State.doCommit (s : State) (w : Who) (q : Req) (work : DapWork) : Reply :=
  let own := s.own w
  let items := own.items.map (fun e => (e.1, e.2.getD []))
  if !q.value.isEmpty then q.bare s stBadLength
  else if s.boot.state = 9 && !items.isEmpty then q.bare s stDenied
  else
    let s := s.setOwn w { own with items := [] }
    let c := s.commitCheck items
    let live := s.liveItems items
    if c.2 ≠ stOk then s.commitFail (s.putItems live) c
    else if itemOn live 0x520001 then
      let b := s.bankCommit
      if b.2 ≠ stOk then b.1.commitFail s (0x520001, b.2)
      else { st := { b.1 with dap := { b.1.dap with busy := some ⟨some work, items⟩ } }, status := stOk, wait := true }
    else s.commitDone w live

/-- The end of the bank's checks for a commit under way (R407, R408): the checks run on the bank as staged. -/
def State.commitBank (s : State) (w : Who) (items : List (Nat × List Byte)) (poison : Bool) : Reply :=
  let live := s.liveItems items
  let st := (s.putItems live).bankChecks (1 - s.bank.active) poison
  let s := { s with bank := { s.bank with mode := 0 } }
  if st = stOk then s.commitDone w live else (s.bankReject st).commitFail s (0x520001, st)

/-! ### The operations (R458, order 4 on) -/

/-- The answer of a READ. -/
def State.answerRead (s : State) (w : Who) (q : Req) (r : EntryRow) (most : Nat) : Reply :=
  let p := s.doRead w q r most
  if p.status = stOk then p else q.bare p.st p.status

/-- A request of any path but SUBSCRIBE. -/
def State.serve (s : State) (w : Who) (q : Req) (most : Nat) (work : DapWork) : Reply :=
  if q.op = 4 then s.doCommit w q work
  else if q.op = 5 then
    if q.value.isEmpty then q.bare (s.setOwn w { s.own w with items := [], block := none }) stOk else q.bare s stBadLength
  else if q.op = 1 ∨ q.op = 2 ∨ q.op = 3 then
    match entryInfo q.key with
    | none => q.bare (if q.op = 1 then s.setOwn w { s.own w with snap := none } else s) stNoSuchEntry
    | some r =>
      if q.op = 1 then
        (if s.sampled w q then { st := { s with dap := { s.dap with sample := some work } }, status := stOk, wait := true }
         else s.answerRead w q r most)
      else s.doPut w q r
  else q.bare s stBadOpcode

end Sys2Proof.Machine
end

