-- ==== Sys2Proof/Machine/Dap.lean ====
section
/-! DEFINITION. The paths to the dictionary (file 16): DAP messages with their credential and SEQ checks (R452 to R454), the
mailbox (R432, R457), subscriptions (R455), and the order in which the MC takes requests (R446, R456). -/

namespace Sys2Proof.Machine

/-! ### DAP messages (R453, Table 16.5) -/

/-- A message: its 32-byte header, value and TAG under a key. -/
def dapMsg (key : List Byte) (op flags dtype keyId status seq idx sub offset total : Nat) (value : List Byte) : List Byte :=
  let h := beBytes 1 1 ++ beBytes 1 op ++ beBytes 1 flags ++ beBytes 1 dtype ++ beBytes 2 keyId ++ beBytes 2 status ++
    beBytes 8 seq ++ beBytes 2 idx ++ beBytes 1 sub ++ beBytes 1 0 ++ beBytes 2 value.length ++ beBytes 2 0 ++
    beBytes 4 offset ++ beBytes 4 total ++ value
  h ++ (hmacSha256 key h).take 16

/-- The slot whose credential has a KEY_ID. -/
def State.credSlot (s : State) (keyId : Nat) : Option Nat :=
  if keyId = 0 then none else (upTo 16).find? (fun n => leAt (s.dget (dkey 0xA100 (n + 1))) 0 2 == keyId)

/-- The HMAC key of a slot. -/
def State.credKey (s : State) (n : Nat) : List Byte := s.dget (dkey 0xA101 (n + 1))

/-- The request that a message carries. -/
def reqOf (m : List Byte) : Req :=
  { op := beAt m 1 1, key := dkey (beAt m 16 2) (beAt m 18 1), dtype := beAt m 3 1, staged := bit (beAt m 2 1) 1,
    last := bit (beAt m 2 1) 2, offset := beAt m 24 4, total := beAt m 28 4, value := (m.drop 32).take (m.length - 48) }

/-- The message that answers a request. -/
def answerMsg (key m : List Byte) (r : Reply) : List Byte :=
  dapMsg key (beAt m 1 1) (1 + 2 * b2n (bit (beAt m 2 1) 1) + 4 * b2n r.last) r.dtype (beAt m 4 2) r.status (beAt m 8 8) (beAt m 16 2)
    (beAt m 18 1) r.offset r.total r.value

/-- SUBSCRIBE (R455). -/
def State.subscribe (s : State) (w : Who) (q : Req) (port tc : Nat) (frame : List Byte) (p : Parsed) : Reply :=
  let v := q.value
  let life := leAt v 4 4
  let same := fun (b : Subscr) => b.keyId == w.req && b.addr == p.src && b.udp == p.sport
  let out : State → Nat → Reply := fun s st => q.bare s st
  if v.length ≠ 8 then out s stBadLength
  else if 3600 < life then out s stBadValue
  else if life = 0 then out { s with dap := { s.dap with subs := s.dap.subs.filter (fun b => !same b) } } stOk
  else if s.dap.subs.any same then
    let subs := s.dap.subs.map (fun b => if same b then
      { b with port := port, mask := leAt v 0 2, telem := bit (leAt v 2 1) 0, life := life, frame := frame, tc := tc } else b)
    out { s with dap := { s.dap with subs := subs } } stOk
  else if 8 ≤ s.dap.subs.length then out s stNoSubscription
  else
    let b : Subscr := ⟨w.req, p.src, p.sport, port, leAt v 0 2, bit (leAt v 2 1) 0, life, 0, [], 0, frame, tc⟩
    out { s with dap := { s.dap with subs := s.dap.subs ++ [b] } } stOk

/-- The answer of a request sent, and kept for a retransmission (R452, R454). -/
def State.sendAnswer (s : State) (n port tc : Nat) (frame : List Byte) (p : Parsed) (m ans : List Byte) : State :=
  let s := { s with dap := { s.dap with prev := Tab.put none s.dap.prev n (some (m, ans)) } }
  s.mcSend port tc (s.answerFrame frame p ans)

/-- An authenticated message: SEQ (R454), then the operation. -/
def State.dapAccept (s : State) (n port tc : Nat) (frame : List Byte) (p : Parsed) (m : List Byte) : State :=
  let key := s.credKey n
  let keyId := beAt m 4 2
  let seq := beAt m 8 8
  let mark := Tab.get (0, 0) s.dap.marks n
  let w := s.whoDap port keyId
  let s := (s.count cDapRx 0 1).setOwn w { s.own w with last := s.now }
  if seq ≤ mark.1 then
    match Tab.get none s.dap.prev n with
    | some (m0, a) =>
      if seq = mark.1 ∧ m0 = m then (s.count cDapRetx 0 1).mcSend port tc (s.answerFrame frame p a)
      else (s.count cDapStaleSeq 0 1).mcSend port tc (s.answerFrame frame p
        (answerMsg key m { st := s, status := stStaleSeq, dtype := 5, total := 8, value := leBytes 8 mark.1 }))
    | none => (s.count cDapStaleSeq 0 1).mcSend port tc (s.answerFrame frame p
        (answerMsg key m { st := s, status := stStaleSeq, dtype := 5, total := 8, value := leBytes 8 mark.1 }))
  else
    let mark' := (seq, if mark.2 ≤ seq + 2 ^ 16 then seq + 2 ^ 20 else mark.2)
    let s := { s with dap := { s.dap with marks := Tab.put (0, 0) s.dap.marks n mark' } }
    let q := reqOf m
    let r := if q.op = 6 then s.subscribe w q port tc frame p else s.serve w q 1024 (.msg port tc frame)
    if r.wait then r.st else r.st.sendAnswer n port tc frame p m (answerMsg key m r)

/-- A datagram taken by the MC: form (R453), credential and TAG (R454), then the rest. -/
def State.dapTake (s : State) (port tc : Nat) (frame : List Byte) : State :=
  match s.dapHeld frame with
  | none => s
  | some (p, m) =>
    let len := beAt m 20 2
    if m.length < 48 || 1024 < len || m.length ≠ 48 + len || beAt m 0 1 != 1 then s.count cDapBadMsg 0 1
    else
      let fails := fun (s : State) =>
        let s := s.count cDapAuthFail 0 1
        s.raiseLimited 0 0xA001 0xFF (beAt m 4 2) (s.counter cDapAuthFail 0)
      match s.credSlot (beAt m 4 2) with
      | none => fails s
      | some n =>
        if (hmacSha256 (s.credKey n) (m.take (32 + len))).take 16 ≠ m.drop (32 + len) then fails s
        else s.dapAccept n port tc frame p m

/-! ### The mailbox (R432, R457) -/

/-- The 16-byte item header of Table 16.8. -/
def itemHeader (q : Req) (r : Reply) : List Byte :=
  leBytes 2 (q.key / 256) ++ leBytes 1 (q.key % 256) ++ leBytes 1 r.dtype ++ leBytes 1 (2 * b2n q.staged + 4 * b2n r.last) ++
    leBytes 3 0 ++ leBytes 4 r.offset ++ leBytes 4 r.total

/-- The request of a mailbox item. -/
def itemReq (op : Nat) (b : List Byte) : Req :=
  { op := op, key := dkey (leAt b 0 2) (leAt b 2 1), dtype := leAt b 3 1, staged := bit (leAt b 4 1) 1, last := bit (leAt b 4 1) 2,
    offset := leAt b 8 4, total := leAt b 12 4, value := b.drop 16 }

/-- Whether a mailbox is live (R422, R451, R468, R470). -/
def State.mbxLive (s : State) (m : Nat) : Bool :=
  if m < 4 then s.ptEnabled m
  else
    (Tab.get ({} : Endpoint) s.host.endpts (m - 4)).up && s.endpointOk (m - 4) &&
      ((s.boot.state == 6 && s.dnum 0xA00005 == 1) || s.boot.state == 9 || s.boot.state == 10)

/-- The commands of units, by code, for a partition. -/
def State.unitCmd (s : State) (part cmd : Nat) (b : List Byte) : Option Answer :=
  if cmd = 0x0401 then some (s.ethqDefine part b)
  else if cmd = 0x0402 then some (s.ethqFree part b)
  else if cmd = 0x0403 then some (s.ethqQuery part b)
  else if cmd = 0x0601 then some (s.collDefine part b)
  else if cmd = 0x0602 then some (s.collFree part b)
  else if cmd = 0x0603 then some (s.collQuery part b)
  else if cmd = 0x0701 then some (s.objAlloc part b)
  else if cmd = 0x0702 then some (s.objFree part b)
  else if cmd = 0x0703 then some (s.objQuery part b)
  else if cmd = 0x0801 then some (s.tblDefine part b)
  else if cmd = 0x0802 then some (s.tblFree part b)
  else if cmd = 0x0803 then some (s.tblQuery part b)
  else none

/-- A mailbox command run by the MC; in RECOVERY an FW_BLOCK of any other LEN is a bad value, and every other command has no code
(R468). -/
def State.mbxTake (s : State) (m : Nat) : State :=
  let box := Tab.get ({} : Mailbox) s.host.mbx m
  let hd := box.req.readN 0 16
  let cmd := leAt hd 0 2
  let len := leAt hd 4 4
  let tag := leAt hd 8 4
  let answer := fun (s : State) (st : Nat) (b : List Byte) => s.mbxRespond m cmd st tag b
  let b := box.req.readN 16 (min len 65520)
  if s.boot.state = 10 then
    if cmd = 0x0A01 then (let r := s.recoveryBlock b
                          answer r.1 r.2 [])
    else if cmd = 0x0A02 then (let r := { s with draws := s.draws + 1 }.recoveryBoot (Config.pufBuilt s.draws)
                               if r.2 = stOk then r.1 else answer r.1 r.2 [])
    else answer s stBadOpcode []
  else if 65520 < len then answer s stBadLength []
  else if 1 ≤ cmd ∧ cmd ≤ 5 then
    if len < 16 then answer s stBadLength []
    else
      let q := itemReq cmd b
      let r := s.serve (s.whoMbx m) q 65504 (.mbx m)
      if r.wait then r.st else answer r.st r.status (itemHeader q r ++ r.value)
  else if m < 4 then
    match s.unitCmd m cmd b with
    | some a => answer a.st a.status a.resp
    | none => answer s stBadOpcode []
  else answer s (if (s.unitCmd 0 cmd b).isSome then stDenied else stBadOpcode) []

/-! ### One at a time (R446, R456) -/

/-- A request taken by the MC. -/
def State.takeWork (s : State) (w : DapWork) : State :=
  match w with
  | .msg port tc frame => s.dapTake port tc frame
  | .mbx m => s.mbxTake m
  | .bank =>
    let b := s.bankCommit
    if b.2 = stOk then { b.1 with dap := { b.1.dap with busy := some ⟨none, []⟩ } } else b.1

/-- Whether a request is a DAP datagram. -/
def DapWork.isMsg : DapWork → Bool
  | .msg _ _ _ => true
  | _ => false

/-- A request arrives: at once, or behind the one that the MC executes; a datagram that finds 32 held is discarded. -/
def State.arrive (s : State) (w : DapWork) : State :=
  if !s.mcBusy then s.takeWork w
  else
    let held := (s.dap.queue.filter (·.isMsg)).length + b2n (s.dap.busy.any (fun c => c.work.any (·.isMsg))) +
      b2n (s.dap.sample.any (·.isMsg))
    if w.isMsg ∧ 32 ≤ held then s.count cDapQueueFull 0 1
    else { s with dap := { s.dap with queue := s.dap.queue ++ [w] } }

/-- The READ of a mailbox or of a message answered with what a tick edge gave (R459): a READ that is sampled changes neither
counters nor flow entries. -/
def State.readNow (s : State) (w : Who) (q : Req) (most : Nat) (x : Sample) : Reply :=
  match entryInfo q.key with
  | some e =>
    let r := { s with ctr := x.ctr, net := { s.net with flows := x.flows } }.answerRead w q e most
    { r with st := { r.st with ctr := s.ctr, net := s.net } }
  | none => q.bare s stNoSuchEntry

/-- A READ that waits for its sample, answered with it and its response kept, whatever has become of its port (R454). -/
def State.answerSample (s : State) (w : DapWork) (x : Sample) : State :=
  let s := { s with dap := { s.dap with sample := none } }
  match w with
  | .bank => s
  | .mbx m =>
    let b := (Tab.get ({} : Mailbox) s.host.mbx m).req.readN 0 32
    let q := itemReq 1 (b.drop 16)
    let r := s.readNow (s.whoMbx m) q 65504 x
    r.st.mbxRespond m 1 r.status (leAt b 8 4) (itemHeader q r ++ r.value)
  | .msg port tc frame =>
    match s.dapHeld frame with
    | none => s
    | some (p, m) =>
      match s.credSlot (beAt m 4 2) with
      | none => s
      | some n =>
        let r := s.readNow (s.whoDap port (beAt m 4 2)) (reqOf m) 1024 x
        r.st.sendAnswer n port tc frame p m (answerMsg (s.credKey n) m r)

/-- The oldest waiting request taken: a READ that is to be sampled has its sample already when a tick edge has found it waiting
(R459). -/
def State.takeOldest (s : State) (w : DapWork) (r : List DapWork) : State :=
  let t := { s with dap := { s.dap with queue := r, snaps := s.dap.snaps.tail } }.takeWork w
  match t.dap.sample, s.dap.snaps with
  | some v, x :: _ => t.answerSample v x
  | _, _ => t

/-- The waiting requests taken in order, until one waits for bank checks or for its sample. -/
def State.drainWork : Nat → State → State
  | 0, s => s
  | n + 1, s =>
    match s.mcBusy, s.dap.queue with
    | false, w :: r => State.drainWork n (s.takeOldest w r)
    | _, _ => s

/-- The answer of a commit whose bank checks have ended: its response is kept whatever has become of its port (R454). -/
def State.answerCommit (s : State) (c : CommitRun) (poison : Bool) : State :=
  match c.work with
  | none | some .bank =>
    let st := s.bankChecks (1 - s.bank.active) poison
    if st = stOk then s.bankSwitch else { s with bank := { s.bank with mode := 0 } }.bankReject st
  | some (.mbx m) =>
    let hd := (Tab.get ({} : Mailbox) s.host.mbx m).req.readN 0 65536
    let q := itemReq 4 (hd.drop 16)
    let r := s.commitBank (s.whoMbx m) c.items poison
    r.st.mbxRespond m 4 r.status (leAt hd 8 4) (itemHeader q r ++ r.value)
  | some (.msg port tc frame) =>
    match s.dapHeld frame with
    | none => (s.commitBank (s.whoDap port 0) c.items poison).st
    | some (p, m) =>
      match s.credSlot (beAt m 4 2) with
      | none => (s.commitBank (s.whoDap port (beAt m 4 2)) c.items poison).st
      | some n =>
        let key := s.credKey n
        let r := s.commitBank (s.whoDap port (beAt m 4 2)) c.items poison
        r.st.sendAnswer n port tc frame p m (answerMsg key m r)

/-- A tick edge samples for every request that waits (R459). -/
def State.snapQueue (s : State) : State :=
  let new := (s.dap.queue.drop s.dap.snaps.length).map (fun _ => (⟨s.ctr, s.net.flows⟩ : Sample))
  { s with dap := { s.dap with snaps := s.dap.snaps ++ new } }

/-- The READ that waits for its sample is answered at a tick edge (R459), and the MC goes on with the requests behind it. -/
def State.sampleEdge (s : State) : State :=
  let s := s.snapQueue
  match s.dap.sample with
  | none => s
  | some w =>
    let s := s.answerSample w ⟨s.ctr, s.net.flows⟩
    State.drainWork s.dap.queue.length s

/-! ### Rows -/

/-- Whether a datagram reaches the MC (R344, R452): on MG by itself, in-band as a request that a pipe handed over (log entry
172). -/
def State.dapArrived (s : State) (o : DapOp) : Bool := o.port == 192 || s.net.toMc.contains (o.port, o.tc.toNat, o.bytes)

/-- The in-band request is taken from the way to the MC. -/
def State.dapLeave (s : State) (o : DapOp) : State :=
  { s with net := { s.net with toMc := s.net.toMc.erase (o.port, o.tc.toNat, o.bytes) } }

/-- A datagram whose OP is `op` (7: none of those listed) arrives at the MC (R452, R456, R466). -/
def State.dapRow (s : State) (op : Nat) (o : DapOp) : State :=
  if !s.dapArrived o then s
  else
    match s.dapMessage o.port o.bytes with
    | none => s.dapLeave o
    | some (_, m) =>
      let is := beAt m 1 1
      if (if op = 7 then decide (is = 0) || decide (6 < is) else is == op) == false then s
      else
        let s := s.dapLeave o
        if !s.serving then s
        else if o.port ≠ 192 ∧ s.dnum 0xA00002 ≠ 1 then s.count cDapInbandOff 0 1
        else s.arrive (.msg o.port o.tc.toNat o.bytes)

/-- DAP_READ (R443, R453). -/
def dapRead (o : DapOp) (s : State) : State := s.dapRow 1 o
/-- DAP_WRITE (R443, R453). -/
def dapWrite (o : DapOp) (s : State) : State := s.dapRow 2 o
/-- DAP_STAGE (R444). -/
def dapStage (o : DapOp) (s : State) : State := s.dapRow 3 o
/-- DAP_COMMIT (R445). -/
def dapCommit (o : DapOp) (s : State) : State := s.dapRow 4 o
/-- DAP_ABORT (R447). -/
def dapAbort (o : DapOp) (s : State) : State := s.dapRow 5 o
/-- DAP_SUBSCRIBE (R455). -/
def dapSubscribe (o : DapOp) (s : State) : State := s.dapRow 6 o
/-- DAP_UNLISTED_OP (R458). -/
def dapUnlistedOp (o : DapOp) (s : State) : State := s.dapRow 7 o

/-- A write of 1 to MBX_DOORBELL.GO (R432). -/
def State.mbxGo (s : State) (m : Nat) : State :=
  let box := Tab.get ({} : Mailbox) s.host.mbx m
  if !s.mbxLive m then s
  else if box.busy then
    s.mbxOverrun m
  else (s.setMbx m { box with busy := true }).arrive (.mbx m)

/-- MBX_GO (R432). -/
def mbxGoCmd (o : MbxOp) (s : State) : State := s.mbxGo o.who.toNat

/-- BANK_COMMIT (R407): a commit of BANK_COMMIT alone. -/
def bankCommitCmd (s : State) : State :=
  if !s.serving || s.boot.state == 9 || !s.variant.shot then s else s.arrive .bank

/-- BANK_CHECKS_END (R407, R408): the errors corrected in the checks are counted at lane 0 (R410, log entry 175). -/
def bankChecksEnd (o : BankEndOp) (s : State) : State :=
  if s.bank.mode ≠ 1 then s
  else
    let c := s.dap.busy.getD ⟨none, []⟩
    let s := ({ s with dap := { s.dap with busy := none } }.count cTeStoreCe 0 o.ce).answerCommit c o.flag
    State.drainWork s.dap.queue.length s

/-- STAGE_IDLE_EXPIRE (R447). -/
def stageIdleExpire (o : KeyOp) (s : State) : State :=
  let k := o.keyId.toNat
  let r := Tab.get ({} : Requestee) s.dap.reqs k
  if r.items.isEmpty && r.block.isNone then s
  else
    let r' : Requestee := { r with items := [], block := none }
    { s with dap := { s.dap with reqs := Tab.put {} s.dap.reqs k r' } }.count cDapStageExpired 0 1

/-- SUBSCRIPTION_LAPSE (R455). -/
def subscriptionLapse (o : SubOp) (s : State) : State :=
  { s with dap := { s.dap with subs := s.dap.subs.eraseIdx o.place } }

/-- An event record (Table 16.7). -/
def eventRecord (e : Event) : List Byte :=
  leBytes 2 e.code ++ leBytes 1 e.part ++ leBytes 1 0 ++ leBytes 6 e.tick ++ leBytes 2 0 ++ leBytes 4 e.arg0 ++ leBytes 8 e.arg1

/-- A message of a subscription, numbered in SEQ; `b` is the subscription as it stands after it. -/
def State.subSend (s : State) (place : Nat) (b : Subscr) (op : Nat) (value : List Byte) : State :=
  match s.credSlot b.keyId with
  | none => s
  | some n =>
    let m := dapMsg (s.credKey n) op 5 11 b.keyId 0 b.seq 0 0 0 value.length value
    let c := s.mcCfg b.frame
    let s := { s with dap := { s.dap with subs := s.dap.subs.set place b } }
    s.mcSend b.port b.tc (s.answerFrame b.frame (parseGo c 96 {} .eth) m)

/-- EVENT_SEND (R455). -/
def eventSend (o : SubOp) (s : State) : State :=
  match s.dap.subs[o.place]? with
  | none => s
  | some b =>
    if b.waiting.isEmpty ∧ b.dropped = 0 then s
    else s.subSend o.place { b with seq := b.seq + 1, waiting := [], dropped := 0 } 0x10
      (leBytes 4 b.dropped ++ leBytes 2 b.waiting.length ++ leBytes 2 0 ++ b.waiting.flatMap eventRecord)

def execDapRead (o : DapOp) (s : State) : Out := .next (dapRead o s)
def execDapWrite (o : DapOp) (s : State) : Out := .next (dapWrite o s)
def execDapStage (o : DapOp) (s : State) : Out := .next (dapStage o s)
def execDapCommit (o : DapOp) (s : State) : Out := .next (dapCommit o s)
def execDapAbort (o : DapOp) (s : State) : Out := .next (dapAbort o s)
def execDapSubscribe (o : DapOp) (s : State) : Out := .next (dapSubscribe o s)
def execDapUnlistedOp (o : DapOp) (s : State) : Out := .next (dapUnlistedOp o s)
def execMbxGo (o : MbxOp) (s : State) : Out := .next (mbxGoCmd o s)
def execBankCommit (s : State) : Out := .next (bankCommitCmd s)
def execBankChecksEnd (o : BankEndOp) (s : State) : Out := .next (bankChecksEnd o s)
def execStageIdleExpire (o : KeyOp) (s : State) : Out := .next (stageIdleExpire o s)
def execSubscriptionLapse (o : SubOp) (s : State) : Out := .next (subscriptionLapse o s)
def execEventSend (o : SubOp) (s : State) : Out := .next (eventSend o s)

end Sys2Proof.Machine
end

