-- ==== Sys2Proof/Machine/Health.lean ====
section
/-! DEFINITION. Health and inputs (files 18 and 19): background scrubs, telemetry, monitors with throttling and trips, the
heartbeat of the tiles, REFCLK, and the conditioned inputs. -/

namespace Sys2Proof.Machine

/-! ### Background work (R494, R495) -/

/-- LOCAL_MEMORY_SCRUB (R495): corrected errors, and words that the next load or fetch finds poisoned. -/
def localMemoryScrub (o : LmScrubOp) (s : State) : State :=
  let k := o.core.toNat
  if !s.scrubbing || decide (128 * s.variant.tiles ≤ k) then s
  else
    let ws := (o.ue.map (fun w => k * 262144 + 8 * w.toNat)).filter (fun w => !s.mem.lmBad.contains w)
    ({ s with mem := { s.mem with lmBad := s.mem.lmBad ++ ws } }.count cScLmCe k o.ce).count cScLmUe k o.ue.length

/-- Every port whose occupancies have changed sends its PFC frame (R308). -/
def State.pfcAll (s : State) : State := (upTo 192).foldl (fun s p => s.pfcUpdate p (s.inst 0)) s

/-- A line of the packet buffer is bad: the frame that it holds is a bad received frame (R495, Table 11.2). One that waits to
be forwarded from the buffer is dropped, and egress queues that this empties have been empty since the end of the tick (log entry
170). -/
def State.frameBad (s : State) (id : Nat) : State :=
  let w := fun (x : RxWork) => if x.id == id then { x with bad := true } else x
  let rx := fun (f : RxFrame) => if f.id == id then { f with bad := true } else f
  let q := fun (x : EthQ) => { x with work := x.work.map w, held := x.held.filter (fun y => y.id != id) }
  let n := s.net
  let n : Net := { n with
    pipes := n.pipes.foldl (fun t e => Tab.put [] t e.1 (e.2.map rx)) n.pipes,
    egress := n.egress.foldl (fun t e => Tab.put [] t e.1 (e.2.filter (fun x => x.id != id || !x.fcs))) n.egress,
    queues := n.queues.foldl (fun t e => Tab.put none t e.1 (e.2.map q)) n.queues,
    reqs := n.reqs.map (fun r => { r with frame := rx r.frame }) }
  ((upTo 193).foldl (fun (t : State) p => t.idleFrom p (s.inst tickUnits) (!s.egressEmpty p)) { s with net := n }).pfcAll

/-- PACKET_BUFFER_SCRUB (R495). -/
def packetBufferScrub (o : PktScrubOp) (s : State) : State :=
  if !s.scrubbing then s
  else
    let s := s.count cNtSramCe 0 o.ce
    if !o.ue then s
    else
      let s := s.count cPbUe 0 1
      if o.frame = 0 then s else s.frameBad o.frame

/-- Models of a bank that use a word of the tree store are marked damaged (R410). -/
def State.damageUsers (s : State) (b w : Nat) : State :=
  (s.models b).foldl (fun s m =>
    if (s.modelRange b m.2).any (fun r => overlaps r.1 r.2 w 8) then s.damage b m.1 w (s.inst 0) else s) s

/-- TREE_STORE_SCRUB (R410, R495). -/
def treeStoreScrub (o : TreeScrubOp) (s : State) : State :=
  if !s.scrubbing || !s.variant.shot then s
  else
    let lane := o.lane.toNat
    let s := s.count cTeStoreCe lane o.ce
    match o.ue with
    | none => s
    | some a =>
      let w := 8 * (a.toNat / 8)
      ((s.treeUe lane w).damageUsers 0 w).damageUsers 1 w

/-- CREMA_CACHE_SCRUB (R207, R495): a bad line is invalid. -/
def cremaCacheScrub (o : CremaScrubOp) (s : State) : State :=
  if !s.scrubbing || !s.variant.shot then s
  else
    let s := s.count cNtSramCe 0 o.ce
    match o.ue with
    | none => s
    | some i =>
      if (Tab.get none s.emb.crema i).isNone then s
      else { s with emb := { s.emb with crema := Tab.put none s.emb.crema i none } }.count cCacheUeInvalidate 0 1

/-! ### Telemetry (R496, Table 18.4) -/

/-- The sum of a counter over its instances. -/
def State.sumCtr (s : State) (c n : Nat) : Nat := ((upTo n).map (fun i => s.counter c i)).foldl (· + ·) 0

/-- The running sums whose deltas a record reports: payload bytes on links, records, overloads, corrected and uncorrectable
errors, throttled ticks, dropped events, NCLK of comparisons in the tree lanes. -/
def State.telSums (s : State) : List Nat :=
  [s.sumCtr cFabTxBytes 48,
   s.sumCtr cShotRec 8,
   s.sumCtr cShotOverload1 8 + s.sumCtr cShotOverload2 8,
   s.counter cT0Ce 0 + s.counter cT1Ce 0 + s.counter cT2Ce 0 + s.sumCtr cScLmCe 256 + s.counter cNtSramCe 0 +
     s.sumCtr cTeStoreCe 8,
   s.counter cT0Ue 0 + s.counter cT1Ue 0 + s.counter cT2Ue 0 + s.sumCtr cScLmUe 256 + s.counter cPbUe 0 +
     s.sumCtr cTeStoreUe 8 + s.sumCtr cTeRangeUe 8 + s.counter cCacheUeInvalidate 0,
   s.sumCtr cThrottleTicks 2,
   s.counter cDapEventDrop 0,
   s.sumCtr cTeBusy 8]

/-- The delta of a sum; counters cleared in between count from zero. -/
def telDelta (before now : Nat) : Nat := if before ≤ now then now - before else now

/-- The monitor with the highest reading among some, the lowest number first. -/
def State.hottest (s : State) (ms : List Nat) : Nat × Int :=
  match ms with
  | [] => (0, 0)
  | m :: r => r.foldl (fun a x =>
      let v := Tab.get (0 : Int) s.health.reading x
      if a.2 < v then (x, v) else a) (m, Tab.get (0 : Int) s.health.reading m)

/-- Whether the variant has a monitor (R486). -/
def State.monOk (s : State) (m : Nat) : Bool :=
  decide (m < 195) && (s.variant.tiles == 2 ||
    !((decide (40 ≤ m) && decide (m ≤ 79)) || (decide (108 ≤ m) && decide (m ≤ 111)) || (decide (160 ≤ m) && decide (m ≤ 175))))

/-- A record of Table 18.4. -/
def State.telRecord (s : State) (o : TelemetryOp) : List Byte :=
  let d := fun (i : Nat) => telDelta (Tab.get 0 s.health.tel i) (s.telSums.getD i 0)
  let rd := fun (m : Nat) => leBytes 2 (wrap 16 (Tab.get (0 : Int) s.health.reading m))
  let hot := s.hottest ((upTo 104).filter s.monOk)
  let hbm := s.hottest (((upTo 112).filter (fun m => decide (104 ≤ m))).filter s.monOk)
  let level := ((upTo 195).map (fun m => Tab.get 0 s.health.level m)).foldl max 0
  leBytes 8 s.now ++ leBytes 4 s.stepId ++ leBytes 4 s.epoch ++ leBytes 1 s.boot.state ++
    (s.computed 0x60000C 0).getD [0#8] ++ leBytes 2 (s.aclk 0) ++ leBytes 2 (s.aclk 1) ++ leBytes 1 level ++ [0#8] ++
    leBytes 2 hot.1 ++ leBytes 2 (wrap 16 hot.2) ++ leBytes 2 (wrap 16 hbm.2) ++ rd 112 ++ rd 192 ++
    leBytes 2 o.meBusy.toNat ++ leBytes 2 (d 7 * 1000 / (8 * 1600 * 1024)) ++ leBytes 2 s.upLinks.length ++
    leBytes 2 ((upTo 192).filter s.portUp).length ++ List.replicate 6 0#8 ++ leBytes 8 o.t1.toNat ++ leBytes 8 o.t2.toNat ++
    leBytes 8 (d 0) ++ leBytes 8 (d 1) ++ leBytes 4 (d 2) ++ leBytes 4 (d 3) ++ leBytes 4 (d 4) ++ leBytes 4 (d 5) ++
    leBytes 4 (d 6) ++ List.replicate 28 0#8

/-- TELEMETRY_RECORD (R496): at every 1,024th tick the record is held, counted and sent to the subscriptions that ask for it,
from step 4 of startup on (R494). -/
def telemetryRecord (o : TelemetryOp) (s : State) : State :=
  if s.now % 1024 ≠ 0 ∨ s.boot.state < 4 ∨ 9 < s.boot.state then s
  else
    let v := s.telRecord o
    let sums := s.telSums
    let tel := (upTo sums.length).foldl (fun t i => Tab.put 0 t i (sums.getD i 0)) s.health.tel
    let s := ({ s with health := { s.health with tel := tel } }.dput 0x840001 v).count cTelRecords 0 1
    (upTo s.dap.subs.length).foldl (fun s i => match s.dap.subs[i]? with
      | some b => if b.telem then s.subSend i { b with seq := b.seq + 1 } 0x11 v else s
      | none => s) s

/-! ### Monitors (R486 to R489) -/

/-- The threshold kind of a monitor (Table 18.1); monitor 112 has kinds 4 and 5, and 193 and 194 have none. -/
def monKind (m : Nat) : Nat :=
  if m ≤ 103 then 1 else if m ≤ 111 then 2 else if m = 112 then 4 else if m ≤ 143 then 3 else if m ≤ 191 then 6
  else if m = 192 then 7 else 0

/-- Whether a monitor throttles a tile (Table 18.1). -/
def throttles (m ct : Nat) : Bool :=
  if m ≤ 79 then m / 40 == ct
  else if m ≤ 103 then true
  else if m ≤ 111 then (m - 104) / 4 == ct
  else if m ≤ 143 then true
  else if m ≤ 175 then (m - 144) / 16 == ct
  else decide (m ≤ 193)

/-- A threshold of a kind: WARN 0, THROTTLE 1, TRIP 2, HYST 3 (R488). -/
def State.thresh (s : State) (k i : Nat) : Int := sext 16 (leAt (s.dget (dkey 0x8010 k)) (2 * i) 2)

/-- Whether a reading is at a level of a kind, given the level before (R487): entered at the threshold, left when back past
it by HYST. -/
def State.atLevel (s : State) (k : Nat) (r : Int) (before l : Nat) : Bool :=
  let th := s.thresh k (l - 1)
  let v := if k = 3 then (if l = 2 then -r else (r.natAbs : Int)) else if k = 4 then -r else r
  let th := if k = 4 then -th else th
  !(k == 5 && l == 2) && (decide (th ≤ v) || (decide (l ≤ before) && decide (th - s.thresh k 3 < v)))

/-- The levels that a reading of a kind is at. -/
def State.levelsAt (s : State) (k : Nat) (r : Int) (before : Nat) : List Nat := [1, 2, 3].filter (s.atLevel k r before)

/-- The highest of some levels. -/
def topLevel (l : List Nat) : Nat := l.foldl max 0

/-- What a sample finds of a monitor: its reading, the levels it is at, and those of monitor 112 by kind. -/
def State.sense (s : State) (o : SampleOp) (m : Nat) : Option (Int × List Nat × List Nat × List Nat) :=
  if m = 193 then some (if s.inputOn 3 then (1, [2], [], []) else (0, [], [], []))
  else if m = 194 then some (if s.inputOn 4 then (1, [3], [], []) else (0, [], [], []))
  else
    match o.readings[m]? with
    | none => none
    | some r =>
      if m = 112 then
        let lo := s.levelsAt 4 r s.health.low112
        let hi := s.levelsAt 5 r s.health.high112
        some (r, lo ++ hi, lo, hi)
      else some (r, s.levelsAt (monKind m) r (Tab.get 0 s.health.level m), [], [])

/-- The event and the count of a monitor's entry to a level (R489). -/
def State.monEnter (s : State) (m : Nat) (r : Int) (l : Nat) : State :=
  let c := if l = 1 then cMonWarn else if l = 2 then cMonThrottle else cMonTrip
  (s.count c m 1).raiseDev (0x8000 + l) m (wrap 64 r)

/-- One monitor sampled. -/
def State.sampleMon (s : State) (o : SampleOp) (m : Nat) : State :=
  match s.sense o m with
  | none => s
  | some (r, at_, lo, hi) =>
    let old := Tab.get 0 s.health.level m
    let h := { s.health with reading := Tab.put (0 : Int) s.health.reading m r,
                             level := Tab.put 0 s.health.level m (topLevel at_) }
    let h := if m = 112 then { h with low112 := topLevel lo, high112 := topLevel hi } else h
    ([1, 2, 3].filter (fun l => decide (old < l) && at_.contains l)).foldl (fun s l => s.monEnter m r l) { s with health := h }

/-- Monitors powered in AUX (R508). -/
def auxMon (m : Nat) : Bool :=
  m == 112 || m == 192 || m == 194 || (decide (80 ≤ m) && decide (m ≤ 103)) || decide (m ≤ 7) ||
    (decide (40 ≤ m) && decide (m ≤ 47))

/-- One tile's clock at a sample edge (R490). -/
def State.throttleCt (s : State) (ct : Nat) : State :=
  let c := Tab.get ({} : CtClk) s.health.clk ct
  let hot := (upTo 195).any (fun m => throttles m ct && decide (2 ≤ Tab.get 0 s.health.level m))
  let max_ := s.dnum 0x800003
  let calm := if hot then 0 else min 128 (c.calm + 1)
  let c := { c with calm := calm }
  let c := if hot then
      (if 700 < c.mhz then
        { c with next := some (match c.next with
            | some (m, _) => (min m (c.mhz - 100), 1)
            | none => (c.mhz - 100, 1)) }
       else c)
    else if calm = 128 ∧ c.mhz < max_ ∧ c.next.isNone then { c with next := some (min max_ (c.mhz + 100), 2) } else c
  { s with health := { s.health with clk := Tab.put {} s.health.clk ct c } }

/-- Whether a monitor reads at or past its warn threshold; 194 has none, and its level says it (R486, R493). -/
def State.warm (s : State) (m : Nat) : Bool :=
  let r := Tab.get (0 : Int) s.health.reading m
  if m = 112 then s.atLevel 4 r 0 1 || s.atLevel 5 r 0 1
  else if monKind m = 0 then decide (1 ≤ Tab.get 0 s.health.level m)
  else s.atLevel (monKind m) r 0 1

/-- Samples in a row in which every monitor powered in AUX reads below warn (R493). -/
def State.coolDown (s : State) : State :=
  let warm := (upTo 195).any (fun m => auxMon m && s.monOk m && s.warm m)
  { s with health := { s.health with cool := if warm then 0 else min 128 (s.health.cool + 1) } }

/-- MONITOR_SAMPLE (R487 to R490, R492): at every 8th tick; a monitor's entry to trip decides the sample, in AUX too. -/
def monitorSample (o : SampleOp) (s : State) : State :=
  if s.now % 8 ≠ 0 ∨ s.power == .off then s
  else
    let ms := (upTo 195).filter (fun m => s.monOk m && (s.power == .on || auxMon m))
    let old := s.health.level
    let s := ms.foldl (fun s m => s.sampleMon o m) s
    match ms.find? (fun m => decide (Tab.get 0 old m < 3) && decide (Tab.get 0 s.health.level m = 3)) with
    | some m => { s with health := { s.health with cool := 0 } }.trip 13 m
    | none => if s.power == .on then (upTo s.variant.tiles).foldl State.throttleCt s else s.coolDown

/-- ACLK ran through the tick that ends (Table 5.9): a tick of `len` REFCLK of 6.4 ns holds MHz × len × 64 / 10,000 cycles. -/
def State.aclkRan (s : State) (ct : Nat) : State :=
  let c := Tab.get ({} : CtClk) s.health.clk ct
  let c := { c with cyc := c.cyc + c.mhz * s.clk.len * 64, into := 0 }
  { s with health := { s.health with clk := Tab.put {} s.health.clk ct c } }

/-- The change of ACLK due at a tick edge (R490): throttled ticks of the tick that ends, the step, a fall to an ACLK_MAX that is
lower, the end of throttling. -/
def State.aclkEdge (s : State) (ct : Nat) : State :=
  let c := Tab.get ({} : CtClk) s.health.clk ct
  let max_ := s.dnum 0x800003
  let mhz := min max_ (match c.next with | some (m, _) => m | none => c.mhz)
  let s := if c.mhz < max_ then s.count cThrottleTicks ct 1 else s
  let s := match c.next with
    | some (_, 1) => s.count cAclkStepDown ct 1
    | some (_, _) => if c.mhz < mhz then s.count cAclkStepUp ct 1 else s
    | none => s
  let down := c.slow || (match c.next with | some (_, 1) => true | _ => false)
  let c := { c with mhz := mhz, next := none, slow := down }
  let ends := c.slow && decide (max_ ≤ c.mhz)
  let s := { s with health := { s.health with clk := Tab.put {} s.health.clk ct { c with slow := c.slow && !ends } } }
  if ends then s.raiseDev 0x8004 ct max_ else s

/-! ### Failures (R499, R512) -/

/-- TILE_HEARTBEAT_MISS (R499): the module leaves the pod. -/
def tileHeartbeatMiss (o : HeartbeatOp) (s : State) : State :=
  let ct := o.tile.toNat
  if s.power != .on || decide (s.variant.tiles ≤ ct) || bit s.health.failed ct then s
  else
    let s := { s with health := { s.health with failed := s.health.failed + 2 ^ ct }, fab := { s.fab with leaving := true } }
    (s.count cTileFail 0 1).raiseDev 0x8005 ct o.last

/-- REFCLK_LOSS (R512): as on a trip, into AUX. In AUX the module is in FAULT already, and its reason stays (log entry 124). -/
def refclkLoss (s : State) : State :=
  if s.power == .off then s
  else
    let s := { s with health := { s.health with refRan := 0 } }.count cRefclkLoss 0 1
    if s.power == .on then s.trip 14 0 else s.raiseDev 0x2003 14 0

/-! ### Inputs (R513 to R518) -/

/-- Whether a conditioned input is listened to: TICK_IN in modes 1 and 3 (R513). -/
def State.inputLive (s : State) (n : Nat) : Bool := s.power != .off && (n != 0 || s.dnum 0x600001 % 2 == 1)

/-- An assertion of HOST_ATTN of a port (R518). -/
def State.hostAttn (s : State) (n : Nat) : State :=
  let s := s.count cHostAttn n 1
  let k := bits (s.dnum 0x850008) (16 * n + 8) (16 * n)
  let bound := fun (p : Nat) => decide (s.dnum (ptKey p 2) = 2 * n + 1) || decide (s.dnum (ptKey p 2) = 2 * n + 2)
  match (if k < 256 && s.coreOk k && s.running then s.coreOwner k else none) with
  | some p => if bound p then s.mbxPost k 5 p (n + 65536 * (s.counter cHostAttn n % 65536)) else s.count cHostAttnDrop n 1
  | none => s.count cHostAttnDrop n 1

/-- INPUT_LEVEL_ACCEPT (R515, R516, R518). -/
def inputLevelAccept (o : InputOp) (s : State) : State :=
  let n := o.input.val
  if !s.inputLive n then s
  else
    let s := s.count cInputGlitch n o.glitches
    let was := bit s.health.inputs n
    if was == o.active then s
    else if o.active then
      let s := { s with health := { s.health with inputs := s.health.inputs + 2 ^ n } }
      if n = 1 ∨ n = 2 then s.hostAttn (n - 1) else s
    else
      let m := if bit s.health.masked n then s.health.masked - 2 ^ n else s.health.masked
      { s with health := { s.health with inputs := s.health.inputs - 2 ^ n, masked := m } }

/-- INPUT_HOLDOFF_EXPIRE (R516). -/
def inputHoldoffExpire (o : InputNumOp) (s : State) : State :=
  let n := o.input.val
  if !s.inputLive n || !bit s.health.inputs n || bit s.health.masked n then s
  else
    let s := { s with health := { s.health with masked := s.health.masked + 2 ^ n } }
    (s.count cInputStuck n 1).raiseDev 0x8006 n s.now

def execLocalMemoryScrub (o : LmScrubOp) (s : State) : Out := .next (localMemoryScrub o s)
def execPacketBufferScrub (o : PktScrubOp) (s : State) : Out := .next (packetBufferScrub o s)
def execTreeStoreScrub (o : TreeScrubOp) (s : State) : Out := .next (treeStoreScrub o s)
def execCremaCacheScrub (o : CremaScrubOp) (s : State) : Out := .next (cremaCacheScrub o s)

/-- BRIDGE_CALIBRATION (R494): traffic of class 5 that no state shows. -/
def execBridgeCalibration (s : State) : Out := .next s

/-- TELEMETRY_COLLECTION (R494): traffic of class 5 that no state shows; what it collects comes with TELEMETRY_RECORD. -/
def execTelemetryCollection (s : State) : Out := .next s
def execTelemetryRecord (o : TelemetryOp) (s : State) : Out := .next (telemetryRecord o s)
def execMonitorSample (o : SampleOp) (s : State) : Out := .next (monitorSample o s)
def execTileHeartbeatMiss (o : HeartbeatOp) (s : State) : Out := .next (tileHeartbeatMiss o s)
def execRefclkLoss (s : State) : Out := .next (refclkLoss s)
def execInputLevelAccept (o : InputOp) (s : State) : Out := .next (inputLevelAccept o s)
def execInputHoldoffExpire (o : InputNumOp) (s : State) : Out := .next (inputHoldoffExpire o s)

end Sys2Proof.Machine
end

