-- ==== Sys2Proof/Machine/Regs.lean ====
section
/-! DEFINITION. Register writes and a host's register reads (R11, R13): the blocks of a tile, BAR0 and BAR2 of a
partition (Tables 15.5 and 15.6), and BAR2 of an endpoint whose mailbox alone is live (R451, R468, R470). -/

namespace Sys2Proof.Machine

/-- A 32-bit word written to BAR0 (Table 15.5). -/
def State.bar0Word (s : State) (p off v : Nat) : State :=
  let page := fun (s : State) (q r : Nat) =>
    if r = 0 then s.doorbellWrite p q else s.pageWrite p q r v
  if off < 0x10000 then page s (off / 16) (off % 16)
  else if off < 0x14000 then page s (4096 + (off - 0x10000) / 16) (off % 16)
  else if 0x30000 ≤ off ∧ off < 0x30800 ∧ off % 8 = 0 then s.scPostWrite p ((off - 0x30000) / 8) v
  else s

/-- A 32-bit word written to the mailbox registers (Table 15.9). -/
def State.mbxReg (s : State) (m off v : Nat) : State :=
  let box := Tab.get ({} : Mailbox) s.host.mbx m
  if off = 0 then (if bit v 0 then s.mbxGo m else s)
  else if off = 4 then s.setMbx m { box with done := box.done && !bit v 1, overrun := box.overrun && !bit v 2 }
  else if off = 8 then s.setMbx m { box with vector := bits v 10 0, irqEn := bit v 11 }
  else s

/-- A 32-bit word written to the partition registers of BAR2 (Table 15.6). -/
def State.bar2Word (s : State) (p off v : Nat) : State :=
  if 0x1000 ≤ off ∧ off < 0x2000 then s.mbxReg p (off - 0x1000) v
  else if 0x2000 ≤ off ∧ off < 0x2400 then s.hcqWrite p ((off - 0x2000) / 64) (off % 64) v
  else if 0x3000 ≤ off ∧ off < 0x3400 then
    (if off % 16 = 0 then s.watchCtrl p ((off - 0x3000) / 16) v
     else if off % 16 = 4 then s.watchValue p ((off - 0x3000) / 16) v else s)
  else if 0x10000 ≤ off ∧ off < 0x18000 then s.msixWrite p ((off - 0x10000) / 16) (off % 16) v
  else s

/-- A write of whole aligned 32-bit words, lowest first; any other width has no effect. -/
def wordsWrite (f : State → Nat → Nat → State) (s : State) (off size v : Nat) : State :=
  if off % 4 ≠ 0 ∨ size % 4 ≠ 0 then s
  else (upTo (size / 4)).foldl (fun s i => f s (off + 4 * i) (bits v (32 * i + 31) (32 * i))) s

/-- Bytes written to a mailbox's request buffer (R432). -/
def State.mbxBuffer (s : State) (m off size v : Nat) : State :=
  let box := Tab.get ({} : Mailbox) s.host.mbx m
  s.setMbx m { box with req := box.req.writeN off ((leBytes size v).take (65536 - off)) }

/-- A write to the NT DMA channels of BAR2 (R424, Table 6.3). -/
def State.ntWrite (s : State) (p : BitVec 2) (off size v : Nat) : State :=
  let ch := 128 + off / 0x100
  let a := s.admitChan (.host p) ch (off % 0x100)
  if a.2 && unitAccepts (.chan ch (off % 0x100)) size then a.1.unitWrite 2 (.chan ch (off % 0x100)) size v (.host p) else a.1

/-- A write to BAR2 of a partition. -/
def State.bar2Write (s : State) (p : BitVec 2) (off size v : Nat) : State :=
  if 0x20000 ≤ off ∧ off < 0x30000 then s.mbxBuffer p.toNat (off - 0x20000) size v
  else if 0x1000000 ≤ off ∧ off < 0x2070400 then s.regWrite (.host p) 0 off size v
  else if 0x3000000 ≤ off ∧ off < 0x4070400 then s.regWrite (.host p) 1 (off - 0x2000000) size v
  else if 0x5000000 ≤ off ∧ off < 0x5002000 then s.ntWrite p (off - 0x5000000) size v
  else wordsWrite (fun s o x => s.bar2Word p.toNat o x) s off size v

/-- A write to BAR2 of an endpoint under the hold of R451 or in FAULT: the mailbox alone. -/
def State.holdWrite (s : State) (e off size v : Nat) : State :=
  if !s.mbxLive (4 + e) then s
  else if 0x20000 ≤ off ∧ off < 0x30000 then s.mbxBuffer (4 + e) (off - 0x20000) size v
  else wordsWrite (fun s o x => if 0x1000 ≤ o ∧ o < 0x2000 then s.mbxReg (4 + e) (o - 0x1000) x else s) s off size v

/-- REGISTER_WRITE (R11, R13, R422, R423): `size` bytes of `value` at an address of a register space. -/
def registerWrite (o : RegWriteOp) (s : State) : State :=
  let a := o.addr.toNat
  let v := bits o.value.toNat (8 * o.size - 1) 0
  if o.size = 0 ∨ 64 < o.size then s
  else match o.space, o.req with
    | .unit t, r => s.regWrite r t.toNat a o.size v
    | .bar0, .host p => if s.ptEnabled p.toNat then wordsWrite (fun s off x => s.bar0Word p.toNat off x) s a o.size v else s
    | .bar2, .host p => if s.ptEnabled p.toNat then s.bar2Write p a o.size v else s
    | .hold e, .host _ => if 1 ≤ e.toNat ∧ e.toNat ≤ 4 then s.holdWrite e.toNat a o.size v else s
    | _, _ => s

/-! ### Reads by a host (R422 to R424, R432, R433). The table of commands has no row for one; log entry 184. -/

/-- A 32-bit word read from a queue's page (Table 15.5): zero with a violation outside the partition's range, zero where the
queue is not defined. -/
def State.pageRead (s : State) (p q r : Nat) : State × Nat :=
  if !s.queueIn p q then (s.pageViolate p q r, 0)
  else match s.ethQ q with
    | none => (s, 0)
    | some x =>
      let i := Tab.get ({} : QIrq) s.host.qirq q
      (s, if r = 4 then x.tail else if r = 8 then x.head else if r = 12 then i.vector + 2048 * b2n i.en + 65536 * i.holdoff else 0)

/-- A read of SC_POST_k (R429): the COUNT of the core's mailbox. -/
def State.scPostRead (s : State) (p k : Nat) : State × Nat :=
  if s.coreOk k && s.coreOwner k == some p then (s, (s.core k).mbx.length)
  else (s.violate p 1 (if !s.coreOk k then 2 else if (s.coreOwner k).isSome then 0 else 1) (0x30000 + 8 * k), 0)

/-- A 32-bit word read from BAR0 (Table 15.5). -/
def State.bar0Read (s : State) (p off : Nat) : State × Nat :=
  if off < 0x10000 then s.pageRead p (off / 16) (off % 16)
  else if off < 0x14000 then s.pageRead p (4096 + (off - 0x10000) / 16) (off % 16)
  else if 0x30000 ≤ off ∧ off < 0x30800 ∧ off % 8 = 0 then s.scPostRead p ((off - 0x30000) / 8)
  else (s, 0)

/-- A 32-bit word of the mailbox registers (Table 15.9). -/
def Mailbox.word (m : Mailbox) (off : Nat) : Nat :=
  if off = 4 then b2n m.busy + 2 * b2n m.done + 4 * b2n m.overrun else if off = 8 then m.vector + 2048 * b2n m.irqEn else 0

/-- Bytes of a mailbox's registers and buffers; the response buffer is zero beyond the last response (R432). -/
def Mailbox.bytes (m : Mailbox) (off : Nat) : List Byte :=
  if 0x1000 ≤ off ∧ off < 0x2000 then leBytes 4 (m.word (off - 0x1000))
  else if 0x20000 ≤ off ∧ off < 0x30000 then m.req.readN (off - 0x20000) 4
  else if 0x30000 ≤ off ∧ off < 0x40000 then padTo 4 ((m.resp.drop (off - 0x30000)).take 4)
  else leBytes 4 0

/-- A 32-bit word of the registers of a completion queue (Table 15.8). -/
def Hcq.word (q : Hcq) (off : Nat) : Nat :=
  if off = 0 then q.base.toNat % 2 ^ 32 else if off = 4 then q.base.toNat / 2 ^ 32 else if off = 8 then q.size
  else if off = 0xC then q.head
  else if off = 0x10 then q.vector + 2048 * b2n q.irqEn + 4096 * b2n q.en + 65536 * q.holdoff
  else if off = 0x14 then q.tail + 4096 * b2n q.ovf else 0

/-- A 32-bit word of a fence watch (R430). -/
def Watch.word (w : Watch) (off : Nat) : Nat :=
  if off = 0 then w.fence + 1024 * w.tile + 2048 * b2n w.en + 4096 * w.hcq else if off = 4 then w.value.toNat else 0

/-- A 32-bit word of an MSI-X table entry. -/
def MsixVec.word (v : MsixVec) (off : Nat) : Nat :=
  if off = 0 then v.addr.toNat % 2 ^ 32 else if off = 4 then v.addr.toNat / 2 ^ 32 else if off = 8 then v.data.toNat else b2n v.masked

/-- A 32-bit word read from the partition registers of BAR2 (Table 15.6). -/
def State.bar2Read (s : State) (p off : Nat) : Nat :=
  if off = 0 then p + 16 * s.dnum (ptKey p 2)
  else if off = 8 then s.now % 2 ^ 32
  else if off = 12 then s.now / 2 ^ 32
  else if 0x2000 ≤ off ∧ off < 0x2400 then (Tab.get ({} : Hcq) s.host.hcq (16 * p + (off - 0x2000) / 64)).word (off % 64)
  else if 0x3000 ≤ off ∧ off < 0x3400 then (Tab.get ({} : Watch) s.host.watch (64 * p + (off - 0x3000) / 16)).word (off % 16)
  else if 0x10000 ≤ off ∧ off < 0x18000 then
    (Tab.get ({} : MsixVec) s.host.msix (2048 * p + (off - 0x10000) / 16)).word (off % 16)
  else if 0x18000 ≤ off ∧ off < 0x18100 then
    ((upTo 32).map (fun i =>
      2 ^ i * b2n (Tab.get ({} : MsixVec) s.host.msix (2048 * p + 8 * (off - 0x18000) + i)).pending)).foldl (· + ·) 0
  else leNat ((Tab.get ({} : Mailbox) s.host.mbx p).bytes off)

/-- A read through a unit window (R423): the register's value, or zero with a violation; at a width that the block does not take,
zero. -/
def State.windowRead (s : State) (p : BitVec 2) (tile a size : Nat) : State × Nat :=
  match mmioUnit tile a with
  | none => (s, 0)
  | some u =>
    let adm := s.grantAccess (.host p) tile (s.unitOk tile u) (s.unitOwner u) a
    if adm.2 && a % size == 0 then (adm.1.unitSeen (.host p) u, (adm.1.unitRead tile u size).getD 0) else (adm.1, 0)

/-- A read of the NT DMA channels of BAR2 (R424, Table 6.3). -/
def State.ntRead (s : State) (p : BitVec 2) (off size : Nat) : State × Nat :=
  let ch := 128 + off / 0x100
  let u := MUnit.chan ch (off % 0x100)
  let adm := s.admitChan (.host p) ch (off % 0x100)
  if adm.2 && off % size == 0 then (adm.1.unitSeen (.host p) u, (adm.1.unitRead 2 u size).getD 0) else (adm.1, 0)

/-- A read of whole aligned 32-bit words, lowest first; any other width reads zero. -/
def wordsRead (f : State → Nat → State × Nat) (s : State) (off size : Nat) : State × List Byte :=
  if off % 4 ≠ 0 ∨ size % 4 ≠ 0 then (s, List.replicate size 0#8)
  else (upTo (size / 4)).foldl (fun r i =>
    let x := f r.1 (off + 4 * i)
    (x.1, r.2 ++ leBytes 4 x.2)) (s, [])

/-- What a host's read of `size` bytes at an address of BAR0 or BAR2 gives, with the state after it: of a partition that is not
ENABLED, zero without a violation (R422); in `.hold e` the mailbox alone is live (R451, R468, R470). -/
def State.registerRead (s : State) (space : RegSpace) (p : BitVec 2) (a size : Nat) : State × List Byte :=
  let zeros := List.replicate size 0#8
  let num := fun (r : State × Nat) => (r.1, leBytes size r.2)
  if size = 0 ∨ 64 < size then (s, zeros)
  else match space with
    | .hold e =>
      if 1 ≤ e.toNat ∧ e.toNat ≤ 4 ∧ s.mbxLive (4 + e.toNat) then
        wordsRead (fun s o => (s, leNat ((Tab.get ({} : Mailbox) s.host.mbx (4 + e.toNat)).bytes o))) s a size
      else (s, zeros)
    | .unit t => if s.ptEnabled p.toNat then num (s.windowRead p t.toNat a size) else (s, zeros)
    | .bar0 => if s.ptEnabled p.toNat then wordsRead (fun s o => s.bar0Read p.toNat o) s a size else (s, zeros)
    | .bar2 =>
      if !s.ptEnabled p.toNat then (s, zeros)
      else if 0x1000000 ≤ a ∧ a < 0x2070400 then num (s.windowRead p 0 a size)
      else if 0x3000000 ≤ a ∧ a < 0x4070400 then num (s.windowRead p 1 (a - 0x2000000) size)
      else if 0x5000000 ≤ a ∧ a < 0x5002000 then num (s.ntRead p (a - 0x5000000) size)
      else wordsRead (fun s o => (s, s.bar2Read p.toNat o)) s a size

def execRegisterWrite (o : RegWriteOp) (s : State) : Out := .next (registerWrite o s)

end Sys2Proof.Machine
end

