-- ==== Sys2Proof/Machine/Tick.lean ====
section
/-! DEFINITION. The tick generator and beacons (R72 to R79, R285): tick edges with what happens at each, TICK_IN, beacons in
both directions, and holdover. -/

namespace Sys2Proof.Machine

/-! ### Beacons (R81, R285) -/

/-- Whether TAMP_OK still holds in a vote window: this module ready, every link trained at t_s has delivered TAMP_OK, and
every beacon received carried it. -/
def Window.ok (w : Window) : Bool := w.ready && w.allOk && w.links.all (fun l => w.okLinks.contains l)

/-- SLIP, ABORT and TAMP_OK of the beacon of the present tick (Table 3.2). -/
def State.winFlags (s : State) : Nat :=
  match s.sched.window with
  | none => 0
  | some w =>
    b2n (w.slip || w.slipRx) + 2 * b2n (w.abort || w.abortRx) +
      4 * b2n (w.kind == .vote && (if s.now = w.ts then w.ready else w.ok))

/-- Whether this module is the tick master (R74). -/
def State.tickMaster (s : State) : Bool := s.dnum 0x600001 == 0 || s.dnum 0x600001 == 1

/-- Rank of the tick master: this module's own, or TICK_MASTER_COORD's (R76). -/
def State.masterRank (s : State) : Nat := if s.tickMaster then s.rank else s.rankOf (s.dnum 0x600002)

/-- LEAVING of the beacon of the present tick: this module's own, or forwarded within a window (R291). -/
def State.beaconLeave (s : State) : Bool := s.fab.leaving || (s.sched.window.isSome && s.fab.leaveRx)

/-- A BEACON frame (Table 10.5). -/
def State.beaconBytes (s : State) (phase : Nat) : List Byte :=
  let flags := s.winFlags + 8 * b2n s.tickMaster + 16 * b2n s.clk.holdover + 32 * b2n s.beaconLeave + 64 * b2n (s.sched.state == 13)
  let hops := if s.clk.holdover then 255 else s.hopDist (s.coordOf s.rank) (s.coordOf s.masterRank)
  let b := [3#8] ++ beBytes 6 s.now ++ beBytes 4 s.stepId ++ beBytes 1 s.sched.repeats ++ beBytes 1 flags ++
    beBytes 2 s.rank ++ beBytes 2 phase ++ beBytes 1 hops ++ List.replicate 10 0#8
  b ++ fcsOf b

/-- Every UP link sends the beacon of the present tick; LEAVING in one of a window's beacons is noted (R291). -/
def State.sendBeacons (s : State) (phases : List Nat) : State :=
  let s := { s with fab := { s.fab with leaveTx := s.fab.leaveTx || (s.sched.window.isSome && s.beaconLeave) } }
  s.upLinks.foldl (fun s l => s.emit (.beacon l (s.beaconBytes (phases.getD l 0)))) s

/-- The beacons of the tick leave once the schedule has nothing more to do at its edge. -/
def State.beaconsOut (s : State) : State :=
  match s.clk.due with
  | none => s
  | some ph => if s.edgeDue then s else { s with clk := { s.clk with due := none } }.sendBeacons ph

/-- The links toward the tick master in the order of R76: the directions that shorten the distance in X, then Y, then Z, + before
− where both ways do, and each one's links in number order. -/
def State.masterLinks (s : State) : List Nat :=
  let a := s.coordOf s.rank
  let b := s.coordOf s.masterRank
  (upTo 3).flatMap (fun d =>
    if coordAt a d = coordAt b d then []
    else
      let n := max 1 (s.dim d)
      let f := (coordAt b d + n - coordAt a d) % n
      (if f ≤ n - f then s.dirLinks (2 * d) else []) ++ (if n - f ≤ f then s.dirLinks (2 * d + 1) else []))

/-- The upstream link (R76): none on a master and where no such link is trained. -/
def State.upstream (s : State) : Option Nat :=
  if s.tickMaster then none else s.masterLinks.find? (fun l => (s.link l).mode == .up)

/-! ### The tick edge (R72) -/

/-- A link owes a beacon in every tick while it is UP, and again from when it leaves UP until it is DISABLED: its beacons
stop and each one is missing (R82, R281). `oldWidth` is not 0 once it has left UP. DEDUCED. -/
def Link.owesBeacon (k : Link) : Bool := k.mode == .up || (k.oldWidth != 0 && k.mode != .disabled)

/-- What the tick that ends leaves on a link: a beacon missing (R82, R281), and silence (R292). A link without power has neither
(R508). -/
def State.beaconEnd (s : State) (l : Nat) : State :=
  if s.power != .on then s
  else
  let k := s.link l
  let s := if k.owesBeacon && !k.beacon && !k.fresh then s.count cBeaconMissing 0 1 else s
  let n := if k.beacon || !s.fabricLink l then 0 else min 16 (Tab.get 0 s.fab.silent l + 1)
  let s := s.setLink l { k with beacon := false, fresh := false }
  { s with fab := { s.fab with silent := Tab.put 0 s.fab.silent l n } }

/-- What the tick that ends leaves on the links. -/
def State.beaconsEnd (s : State) : State := (upTo 48).foldl State.beaconEnd s

/-- The counts of the tick that ends: holdover, TICK_IN pulses missing, a read that waited for a repair in it (R75, R78, R206);
what waited for a repair that has ended without a copy goes on. -/
def State.tickEnd (s : State) : State :=
  let s := if s.clk.holdover then s.count cTickHoldover 0 1 else s
  let s := if s.dnum 0x600001 % 2 = 1 && !s.clk.pulse then s.count cTickInMissing 0 1 else s
  let s := if s.mem.stall.isEmpty then s else s.count cMemRepairStall 0 1
  let open_ := s.mem.stall.filter (fun g => s.mem.poison.any (fun p => p.repair && p.gran == g))
  { s with mem := { s.mem with stall := open_ } }.repairsEnd

/-- The next tick opens: its number, which the tiles see (R151), and its length with the correction due (R72, R76). -/
def State.tickOpen (s : State) : State :=
  let c := s.clk
  let s := if c.adjust = 0 then s else s.count cTickAdjust 0 1
  let t := edgeAfter c.tick 1
  { s with clk := { c with tick := t, seen := t, edges := c.edges + 1, len := (160 + c.adjust).toNat, adjust := 0,
                           pulse := false, got := false,
                           noBeacon := if s.tickMaster || c.got then 0 else c.noBeacon + 1 } }

/-- Cores that wait at a tick edge: every wait has met one more, WEDGE and a due WTICK end (R151, R154). -/
def State.coreEdge (s : State) : State :=
  s.cores.foldl (fun s e =>
    let c := s.core e.1
    match c.mode, c.wait with
    | .waiting, some .edge => s.setCore e.1 c.resume
    | .waiting, some (.tick t) =>
      if tickAhead t s.clk.seen then s.setCore e.1 { c with waited := c.waited + 1 } else s.setCore e.1 c.resume
    | .waiting, some _ => s.setCore e.1 { c with waited := c.waited + 1 }
    | _, _ => s) s

/-- The reads of the transmit queues' tail words (R314). -/
def State.tailPoll (s : State) : State :=
  (s.net.queues.map (·.1)).foldl (fun s q => if q < 4096 then s else s.tailRead q) s

/-- TICK_EDGE (R72): the tick ends with its counts, the next one opens, and what falls on every edge happens: held frames,
ACLK changes, waiting cores, request line 128, tail reads, the beacons, and a READ that waits for its sample (R459). -/
def tickEdge (o : TickOp) (s : State) : State :=
  if s.power == .off then s
  else
    let s := match s.clk.due with
      | some ph => { s with clk := { s.clk with due := none } }.sendBeacons ph
      | none => s
    let s := s.beaconsEnd.tickEnd
    let s := if s.power == .on then (upTo s.variant.tiles).foldl State.aclkRan s else s
    let s := s.tickOpen.holdTicks
    let s := { s with health := { s.health with refRan := min refReady (s.health.refRan + 1) } }
    let s := if s.power == .on then (upTo s.variant.tiles).foldl State.aclkEdge s else s
    let s := s.coreEdge
    let s := s.chansMoveOn
    let s := [0, 1, 2].foldl (fun s t => s.pulseLine t 128) s
    { s.tailPoll with clk := { s.clk with due := some o.phases } }.beaconsOut.sampleEdge

/-- TICK_IN_PULSE (R75): accepted within ±2 REFCLK cycles of the expected edge in modes 1 and 3, and the edge is its. A masked
input has no effect (R516). In holdover the edges come from REFCLK every 160 cycles (R78). -/
def tickInPulse (o : TickInOp) (s : State) : State :=
  if s.dnum 0x600001 % 2 = 0 || s.power == .off || bit s.health.masked 0 then s
  else if 2 < o.offset.natAbs then s.count cTickInOffPhase 0 1
  else if s.clk.pulse then s
  else { s with clk := { s.clk with pulse := true, len := if s.clk.holdover then s.clk.len else (160 + o.offset).toNat } }

/-! ### Receiving beacons (R76 to R79, R81, R285) -/

/-- A beacon's flags taken into the window to which its tick belongs (R80). -/
def State.windowTakes (s : State) (l flags tick : Nat) : State :=
  match s.sched.window with
  | none => s
  | some w =>
    let d := (tick + 2 ^ 48 - w.ts) % 2 ^ 48
    if s.sched.lag ≤ d then s
    else
      let ok := bit flags 2
      let w := { w with slipRx := w.slipRx || bit flags 0, abortRx := w.abortRx || bit flags 1, anyRx := true,
                        allOk := w.allOk && ok, okLinks := if d = 0 ∧ ok then w.okLinks ++ [l] else w.okLinks }
      { s with sched := { s.sched with window := some w }, fab := { s.fab with leaveRx := s.fab.leaveRx || bit flags 5 } }

/-- What an upstream beacon does to the tick generator: the correction of the next tick in mode 2, the tick number, the
end of holdover with HALTED where the number differs (R76, R78). A commit that has been decided ends as many ticks later as
before, in the new numbers (R97). `err` is the corrected phase error in NCLK. -/
def State.follow (s : State) (tick : Nat) (err : Int) : State :=
  let held := s.clk.holdover
  let differs := tick != s.now
  let adj : Int := if s.dnum 0x600001 = 2 ∧ 10 < err then 1 else if s.dnum 0x600001 = 2 ∧ err < -10 then -1 else 0
  let pub := s.sched.pub.map (fun p => (p + tick + 2 ^ 48 - s.now) % 2 ^ 48)
  let s := { s with clk := { s.clk with tick := tick, adjust := adj, noBeacon := 0, got := true, holdover := false },
                    sched := { s.sched with pub := pub } }
  if held && differs then s.enterHalted else s

/-- BEACON_RECEIVE (R285): a bad CRC discards the beacon, which is then missing, also on a link that is UP for the first time;
a wrong tick number discards one that is not upstream. -/
def beaconReceive (o : BeaconOp) (s : State) : State :=
  let l := o.link.val
  let k := s.link l
  let b := o.bytes
  if k.mode != .up then s
  else if b.length ≠ 32 || byteAt b 0 != 3#8 || fcsOf (b.take 28) != b.drop 28 then
    (s.setLink l { k with fresh := false }).count cBeaconCrcErr l 1
  else
    let tick := beAt b 1 6
    let flags := (byteAt b 12).toNat
    let up := s.upstream == some l
    let s := s.setLink l { k with beacon := true }
    let s := if s.tickMaster && tick != s.now then s.raiseLimited 0 0x6002 0xFF l tick else s
    if !up && tick != s.now then s.count cBeaconTickErr l 1
    else
      let s := if up then s.follow tick (o.at_ - beAt b 15 2 - k.delay) else s
      s.windowTakes l flags tick

/-- HOLDOVER_ENTRY (R78): a follower without an upstream beacon for 16 ticks. -/
def holdoverEntry (s : State) : State :=
  if s.tickMaster || s.clk.holdover || decide (s.clk.noBeacon < 16) then s
  else
    let l := match s.upstream with
      | some l => l
      | none => s.masterLinks.headD 0
    { s with clk := { s.clk with holdover := true, adjust := 0 } }.raiseDev 0x6001 l s.now

def execTickEdge (o : TickOp) (s : State) : Out := .next (tickEdge o s)
def execTickInPulse (o : TickInOp) (s : State) : Out := .next (tickInPulse o s)
def execBeaconReceive (o : BeaconOp) (s : State) : Out := .next (beaconReceive o s)
def execHoldoverEntry (s : State) : Out := .next (holdoverEntry s)

end Sys2Proof.Machine
end

