-- ==== Sys2Proof/Machine/Sched.lean ====
section
/-! DEFINITION. The step schedule (R80 to R98): its start, the phases, the windows and their decisions, slip, abort, repeat,
halt and re-map, and the commit of a step by TAMP. -/

namespace Sys2Proof.Machine

/-! ### Steps and attempts (R84, R86) -/

/-- Budgets and limits taken at the start of a step (R86). -/
def State.latch (s : State) : State :=
  { s with sched := { s.sched with budgets := (upTo 7).map (fun i => s.dnum (dkey 0x6100 (i + 1))), lag := s.dnum 0x600004,
                                   slipLimit := s.dnum 0x600006, repLimit := s.dnum 0x600005 } }

/-- Budget i of Table 3.7: 0 INGEST to 6 ALLGATHER. -/
def Sched.budget (c : Sched) (i : Nat) : Nat := c.budgets.getD i 0

/-- Ticks from an attempt's first edge to the planned edge of local phase p; to Gate 1 for p = 5. -/
def Sched.planned (c : Sched) (p : Nat) : Nat :=
  (if c.withIngest then c.budget 0 else 0) + (if 2 < p then c.budget 1 else 0) + (if 3 < p then c.budget 2 else 0) +
    (if 4 < p then c.budget 3 else 0)

/-- An attempt begins at the present edge: with INGEST, or with GATHER in a repeat or after a re-map (R92, R295). -/
def State.attempt (s : State) (ingest : Bool) : State :=
  let c : Sched := { s.sched with state := if ingest then 1 else 2, active := true, origin := s.now, withIngest := ingest,
                                  edge := s.now, overran := false, slipped := 0, cause := 0, window := none }
  { s with sched := { c with sample := edgeAfter s.now (c.planned 5) } }.collAttempt

/-- STEP_START (R87, R93): at STEP_START_TICK of an armed schedule. -/
def stepStart (s : State) : State :=
  if !s.running || !s.startDue then s
  else
    let s := { s with sched := { s.sched with armed := false, repeats := 0, lastCause := 0, named := [] } }
    (s.latch.attempt true).beaconsOut

/-- PHASE_START (R84): the next local phase, at its planned edge or at the first edge after the one before completes. -/
def phaseStart (s : State) : State :=
  let c := s.sched
  let p := c.state
  let ahead := (s.now + 2 ^ 48 - edgeAfter c.origin (c.planned (p + 1))) % 2 ^ 48
  if !c.active || decide (p < 1) || decide (3 < p) || decide (2 ^ 47 ≤ ahead) then s
  else { s with sched := { c with state := p + 1, edge := s.now, overran := false } }

/-- The phase_overrun counter of a STEP_STATE value, one of eight (R100). -/
def cOverrun (state : Nat) : Nat :=
  cPhaseOverrun + (if state ≤ 4 then state - 1 else if state = 6 then 4 else if state = 7 then 5 else if state = 9 then 6 else 7)

/-- The budget of a local phase (R84). -/
def Sched.localBudget (c : Sched) : Nat := if c.state = 7 then c.budget 5 else c.budget (c.state - 1)

/-- PHASE_OVERRUN (R85): the budget of the running local phase has ended, once. -/
def phaseOverrun (s : State) : State :=
  let c := s.sched
  let local_ := (decide (1 ≤ c.state) && decide (c.state ≤ 4)) || c.state == 7
  let ran := (s.now + 2 ^ 48 - c.edge) % 2 ^ 48
  if !c.active || !local_ || c.overran || decide (ran < c.localBudget) then s
  else { s with sched := { c with overran := true } }.count (cOverrun c.state) 0 1

/-! ### Windows (R80, R81, R89 to R91, R94) -/

/-- A window opens at the present edge. ABORT is raised for a cause, and by a module that leaves the pod (R291); SLIP beside it
where local work is unfinished (Table 3.2). -/
def State.openWindow (s : State) (kind : WinKind) (slip ready : Bool) (cause : Nat) : State :=
  let abort := cause != 0 || s.fab.leaving
  let w : Window := { kind := kind, ts := s.now, slip := slip, abort := abort, cause := cause, slipRx := false,
                      abortRx := false, ready := ready, allOk := true, anyRx := false, links := s.upLinks, okLinks := [] }
  { s with sched := { s.sched with window := some w }, fab := { s.fab with leaveTx := false, leaveRx := false } }

/-- What the module knows of its own unfinished work before Gate 1: a full send half (R225), a table without LAST (R227). -/
def State.exchUnfinished (s : State) : Bool :=
  s.emb.full || s.emb.tables.any (fun e => e.2.isSome && !(Tab.get ({} : TblStep) s.emb.steps e.1).last)

/-- Whether an EU has an APPLY running or queued. -/
def State.applyOpen (s : State) : Bool :=
  s.eus.any (fun e => (match e.2.run with | some r => (euCmd r.item.word).op == 4 | none => false) ||
    e.2.queue.any (fun q => (euCmd q.word).op == 4))

/-- A gate's sample (R89 to R91): the phase before it ends when its work is finished, else SLIP, or ABORT with cause 4 after
SLIP_LIMIT slipped windows. -/
def State.gate (s : State) (kind : WinKind) (done : Bool) (to_ cause : Nat) : State :=
  let s := if done then { s with sched := { s.sched with state := to_ } } else s
  let late := !done && decide (s.sched.slipLimit ≤ s.sched.slipped)
  s.openWindow kind (!done && !late) true (if cause ≠ 0 then cause else if late then 4 else 0)

/-- Whether a frame carries a STATE packet (Table 9.3), on whatever channel a dateline has put it. -/
def stateFrame (f : Frame) : Bool := match f.pay with
  | .coll b => byteAt b 0 == 5#8
  | _ => false

/-- The vote's sample (R94, R268): a slot that closes at this edge is closed first; whether the module is ready; STATE packets
still to be sent count an overrun (R100). -/
def State.vote (s : State) : State :=
  let s := collSlotClose s
  let c := s.sched.cause
  let v := s.collVote
  let mine := fun (f : Frame) => f.src == s.rank && stateFrame f
  let unsent := s.coll.unsent || s.fab.links.any (fun e => e.2.queue.any (fun q => q.2.any mine)) ||
    s.fab.waiting.any (fun w => mine w.2.2)
  let ready := !v.2 && !s.emb.stageFull && !s.applyOpen && c == 0
  let s := if unsent then v.1.count (cOverrun 9) 0 1 else v.1
  { s with sched := { s.sched with state := 10, edge := s.now } }.openWindow .vote false ready 0

/-- GATE_SAMPLE (R80): Gate 1, Gate 2 or the vote, by where the step stands. -/
def gateSample (o : GateOp) (s : State) : State :=
  if !s.running || !s.sampleDue then s
  else
    let c := s.sched
    (if c.state = 9 then s.vote
     else if c.state = 7 ∨ c.state = 8 then
       s.gate .gate2 (c.state == 8 || (o.done && !s.applyOpen)) 8 c.cause
     else s.gate .gate1 (c.state == 5 || (c.state == 4 && o.done && !s.exchUnfinished)) 5 0).beaconsOut

/-! ### The reduce deadline (R91, R263, R264) -/

/-- DECODE_TICK (R263): in the last tick before the deadline edge. -/
def decodeTick (o : CollSlotOp) (s : State) : State :=
  if s.sched.state ≠ 6 ∨ edgeAfter s.now 1 ≠ edgeAfter s.sched.edge (s.sched.budget 4) then s
  else (s.collEcc o.t0 o.t1).collDecode

/-- Whether exchange entries or END records of this module are still unsent (R100). -/
def State.exchUnsent (s : State) : Bool :=
  let mine := fun (f : Frame) => f.src == s.rank && (match f.pay with
    | .exch _ _ _ _ _ _ => true
    | .exchEnd .. => true
    | _ => false)
  s.fab.links.any (fun e => e.2.queue.any (fun q => q.2.any mine)) || s.fab.waiting.any (fun w => mine w.2.2)

/-- REDUCE_DEADLINE (R91, R229, R264): results, ABORT with cause 1 for missing contributions, and APPLY. -/
def reduceDeadline (s : State) : State :=
  if !s.running || !s.deadlineDue then s
  else
    let late := s.coll.unsent || s.exchUnsent
    let r := s.collDeadline
    let miss := r.1.exchMissing
    let s := if late then r.1.count (cOverrun 6) 0 1 else r.1
    let c := s.sched
    let sample := edgeAfter s.now (max (c.budget 5) c.lag)
    let s := { s with sched := { c with state := 7, edge := s.now, overran := false, slipped := 0, sample := sample,
                                        named := (c.named ++ miss).eraseDups } }
    (s.openWindow .deadline false true (if r.2 || !miss.isEmpty then 1 else 0)).beaconsOut

/-! ### Decisions (R81 to R83, R92 to R95) -/

/-- A schedule entry for every core with SCHED_NOTIFY (R150): 1 PROCEED, 2 SLIP, 3 ABORT, 4 COMMIT. -/
def State.notifyCores (s : State) (decision : Nat) : State :=
  let w := decision + 16 * s.sched.state + 4096 * (s.now % 2 ^ 20)
  s.cores.foldl (fun s e => if (s.core e.1).notify then s.mbxPost e.1 7 0 w else s) s

/-- Directions in which every link has carried no beacon for 16 ticks: the partners lost (R292). -/
def State.lostPartners (s : State) : List Nat :=
  ((upTo 6).filter (fun d => decide (1 < s.dim (d / 2)) && !(s.dirLinks d).isEmpty &&
    (s.dirLinks d).all (fun l => decide (16 ≤ Tab.get 0 s.fab.silent l)))).map (fun d => s.neighbour s.rank d)

/-- The ranks that the module's REPORT names (R292): the lowest 2,064. -/
def State.namedRanks (s : State) : List Nat :=
  let log := s.dget 0x620003
  let l := if log.all (· == 0#8) then s.sched.named else leAt log 8 2 :: s.sched.named
  (l.eraseDups.mergeSort (fun a b => decide (a ≤ b))).take 2064

/-- Entry to REMAP (R93, R292): the step ends, and the REPORT is flooded. -/
def State.enterRemap (s : State) : State :=
  let lost := s.lostPartners.eraseDups
  let named := s.namedRanks
  let gen := (s.remapGen + 1) % 2 ^ 32
  let r : Remap := { tr := s.now, reports := [(s.rank, s.fab.leaving, named, lost)], active := true }
  let s := { s with sched := { s.sched with state := 13, active := false, window := none },
                    fab := { s.fab with remap := r } }
  ((s.count cStepRemap 0 1).raiseDev 0x6011 s.stepId s.remapGen).flood none (.report gen s.rank s.fab.leaving named lost)

/-- The discards of an ABORT (R92, R233, R269). -/
def State.discardStep (s : State) : State := s.euAbort.collAbort

/-- An ABORT at its decision edge (R92, R93, R291): a repeat, a re-map when LEAVING was sent or received in the window, or
past REPEAT_LIMIT a re-map or HALTED. The absent set is not empty where this module itself names a rank or has lost a partner,
or where others do. -/
def State.decideAbort (s : State) (w : Window) (others : Bool) : State :=
  let absent := others || !s.namedRanks.isEmpty || !s.lostPartners.isEmpty
  let unready := w.kind == .vote && !w.ready
  let known := if w.cause ≠ 0 then w.cause else if unready then 2 else 5
  let s := s.discardStep
  let open_ := w.abort && w.cause == 0 && !unready
  let cause := if open_ then (Config.leaveCause s.draws).toNat else known
  let s := if open_ then { s with draws := s.draws + 1 } else s
  let n := s.sched.repeats + 1
  let s := ({ s with sched := { s.sched with repeats := n, lastCause := cause } }.count cStepAbort 0 1).raiseDev 0x6010 cause
    (s.stepId + 2 ^ 32 * (n % 256))
  let leave := s.fab.leaveTx || s.fab.leaveRx
  if leave then s.enterRemap
  else if n ≤ s.sched.repLimit then (s.count cStepRepeat 0 1).attempt false
  else if absent && !s.alone then s.enterRemap
  else { s with sched := { s.sched with window := none } }.enterHalted

/-- A COMMIT at its decision edge t_d (R95): PUBLISH. -/
def State.decideCommit (s : State) (stage : List (Nat × Option (List Byte))) : State :=
  let s := { s with sched := { s.sched with state := 11, edge := s.now, pub := some (edgeAfter s.now 6) } }
  (s.publish stage).shotAtTd

/-- A gate decided PROCEED: EXCHANGE and REDUCE begin, or ALLGATHER. -/
def State.proceed (s : State) (kind : WinKind) : State :=
  match kind with
  | .gate1 =>
    ({ s with sched := { s.sched with state := 6, edge := s.now, slipped := 0 } }.collStartReduce).exchangeAll
  | .gate2 =>
    let c := s.sched
    let sample := edgeAfter s.now (c.budget 6)
    ({ s with sched := { c with state := 9, edge := s.now, slipped := 0, sample := sample } }.collStartGather).replicaSend
  | _ => s

/-- Whether a module is isolated at the end of a window (R83). -/
def State.isolated (s : State) (w : Window) : Bool := !s.alone && !w.anyRx

/-- DECISION_EDGE (R81 to R83). -/
def decisionEdge (o : DecisionOp) (s : State) : State :=
  match s.sched.window with
  | none => s
  | some w =>
    if !s.running || !s.decisionDue then s
    else
      let s := { s with sched := { s.sched with window := none } }
      (if s.isolated w then (s.raiseDev 0x6003 0 w.ts).enterHalted
       else if w.abort || w.abortRx || (w.kind == .vote && !w.ok) then (s.decideAbort w o.absent).notifyCores 3
       else match w.kind with
         | .vote => (s.decideCommit o.stage).notifyCores 4
         | .deadline => s.notifyCores 1
         | k =>
           if w.slip || w.slipRx then
             ({ s with sched := { s.sched with slipped := s.sched.slipped + 1, sample := s.now } }.count cGateSlip 0
               1).notifyCores 2
           else (s.proceed k).notifyCores 1).beaconsOut

/-! ### The commit, the stop, and the end of a re-map (R88, R95, R295) -/

/-- TAMP_COMMITTED (R95, R97): EPOCH and STEP_ID advance; the next step begins unless the schedule stops. A module that has been
halted or held since t_d commits, and stays halted or held. -/
def tampCommitted (s : State) : State :=
  if !(s.running || s.held) || !s.committedDue then s
  else
    let s := if s.emb.late.isEmpty then s else s.count (cOverrun 11) 0 1
    let s := (s.dputNum 0x60000A 4 ((s.epoch + 1) % 2 ^ 32)).dputNum 0x600009 4 ((s.stepId + 1) % 2 ^ 32)
    let s := { s with sched := { s.sched with repeats := 0, lastCause := 0, named := [], pub := none } }.count cStepCommit 0 1
    let s := if s.sched.state ≠ 11 then s
      else if s.sched.stopping then { s with sched := { s.sched with state := 0, active := false } }
      else s.latch.attempt true
    s.collCommitted.euCommitted.shotAtCommitted.beaconsOut

/-- SCHED_STOP (R88): once the step has ended, STEP_STATE reads IDLE. -/
def schedStop (s : State) : State :=
  if !s.sched.stopping || s.sched.active then s
  else { s with sched := { s.sched with state := 0, stopping := false, window := none },
                fab := { s.fab with remap := { s.fab.remap with active := false, resume := none } } }.beaconsOut

/-- REMAP_RESUME (R295): GATHER of the same step, with REPEAT_COUNT 0. -/
def remapResume (s : State) : State :=
  if !s.running || !s.resumeDue || s.fab.remap.active then s
  else
    let s := { s with sched := { s.sched with repeats := 0, named := [] },
                      fab := { s.fab with remap := { s.fab.remap with resume := none } } }
    (s.latch.attempt false).beaconsOut

def execGateSample (o : GateOp) (s : State) : Out := .next (gateSample o s)
def execDecisionEdge (o : DecisionOp) (s : State) : Out := .next (decisionEdge o s)
def execStepStart (s : State) : Out := .next (stepStart s)
def execPhaseStart (s : State) : Out := .next (phaseStart s)
def execPhaseOverrun (s : State) : Out := .next (phaseOverrun s)
def execReduceDeadline (s : State) : Out := .next (reduceDeadline s)
def execDecodeTick (o : CollSlotOp) (s : State) : Out := .next (decodeTick o s)
def execTampCommitted (s : State) : Out := .next (tampCommitted s)
def execSchedStop (s : State) : Out := .next (schedStop s)
def execRemapResume (s : State) : Out := .next (remapResume s)

end Sys2Proof.Machine
end

