-- ==== Sys2Proof/Machine/Dispatch.lean ====
section
/-! DEFINITION. The dispatch: one arm per command, each a direct call of the command's meaning. -/

namespace Sys2Proof.Machine

/-- A command's effect on everything but the queue. -/
def exec (i : Instr) (s : State) : Host.Outcome State Fault Refusal :=
  match i with
  | .tickEdge o => Sys2Proof.Machine.execTickEdge o s
  | .tickInPulse o => Sys2Proof.Machine.execTickInPulse o s
  | .beaconReceive o => Sys2Proof.Machine.execBeaconReceive o s
  | .holdoverEntry => Sys2Proof.Machine.execHoldoverEntry s
  | .gateSample o => Sys2Proof.Machine.execGateSample o s
  | .decisionEdge o => Sys2Proof.Machine.execDecisionEdge o s
  | .stepStart => Sys2Proof.Machine.execStepStart s
  | .phaseStart => Sys2Proof.Machine.execPhaseStart s
  | .phaseOverrun => Sys2Proof.Machine.execPhaseOverrun s
  | .reduceDeadline => Sys2Proof.Machine.execReduceDeadline s
  | .decodeTick o => Sys2Proof.Machine.execDecodeTick o s
  | .tampCommitted => Sys2Proof.Machine.execTampCommitted s
  | .schedStop => Sys2Proof.Machine.execSchedStop s
  | .remapResume => Sys2Proof.Machine.execRemapResume s
  | .meQPush o => Sys2Proof.Machine.execMeQPush o s
  | .meFlush o => Sys2Proof.Machine.execMeFlush o s
  | .meFenceAdd o => Sys2Proof.Machine.execMeFenceAdd o s
  | .meFenceVal o => Sys2Proof.Machine.execMeFenceVal o s
  | .meGemm o => Sys2Proof.Machine.execMeGemm o s
  | .meReducePartials o => Sys2Proof.Machine.execMeReducePartials o s
  | .meSync o => Sys2Proof.Machine.execMeSync o s
  | .meDescComplete o => Sys2Proof.Machine.execMeDescComplete o s
  | .add o => Sys2Proof.Machine.execAdd o s
  | .sub o => Sys2Proof.Machine.execSub o s
  | .and o => Sys2Proof.Machine.execAnd o s
  | .or o => Sys2Proof.Machine.execOr o s
  | .xor o => Sys2Proof.Machine.execXor o s
  | .sll o => Sys2Proof.Machine.execSll o s
  | .srl o => Sys2Proof.Machine.execSrl o s
  | .sra o => Sys2Proof.Machine.execSra o s
  | .slt o => Sys2Proof.Machine.execSlt o s
  | .sltu o => Sys2Proof.Machine.execSltu o s
  | .mul o => Sys2Proof.Machine.execMul o s
  | .mulh o => Sys2Proof.Machine.execMulh o s
  | .mulhu o => Sys2Proof.Machine.execMulhu o s
  | .div o => Sys2Proof.Machine.execDiv o s
  | .divu o => Sys2Proof.Machine.execDivu o s
  | .rem o => Sys2Proof.Machine.execRem o s
  | .remu o => Sys2Proof.Machine.execRemu o s
  | .min o => Sys2Proof.Machine.execMin o s
  | .max o => Sys2Proof.Machine.execMax o s
  | .clz o => Sys2Proof.Machine.execClz o s
  | .popc o => Sys2Proof.Machine.execPopc o s
  | .addi o => Sys2Proof.Machine.execAddi o s
  | .andi o => Sys2Proof.Machine.execAndi o s
  | .ori o => Sys2Proof.Machine.execOri o s
  | .xori o => Sys2Proof.Machine.execXori o s
  | .slli o => Sys2Proof.Machine.execSlli o s
  | .srli o => Sys2Proof.Machine.execSrli o s
  | .srai o => Sys2Proof.Machine.execSrai o s
  | .lui o => Sys2Proof.Machine.execLui o s
  | .slti o => Sys2Proof.Machine.execSlti o s
  | .faddD o => Sys2Proof.Machine.execFaddD o s
  | .fsubD o => Sys2Proof.Machine.execFsubD o s
  | .fmulD o => Sys2Proof.Machine.execFmulD o s
  | .fdivD o => Sys2Proof.Machine.execFdivD o s
  | .fsqrtD o => Sys2Proof.Machine.execFsqrtD o s
  | .fmaD o => Sys2Proof.Machine.execFmaD o s
  | .fminD o => Sys2Proof.Machine.execFminD o s
  | .fmaxD o => Sys2Proof.Machine.execFmaxD o s
  | .feqD o => Sys2Proof.Machine.execFeqD o s
  | .fltD o => Sys2Proof.Machine.execFltD o s
  | .fleD o => Sys2Proof.Machine.execFleD o s
  | .fcvtLD o => Sys2Proof.Machine.execFcvtLD o s
  | .fcvtDL o => Sys2Proof.Machine.execFcvtDL o s
  | .fcvtSD o => Sys2Proof.Machine.execFcvtSD o s
  | .fcvtDS o => Sys2Proof.Machine.execFcvtDS o s
  | .lb o => Sys2Proof.Machine.execLb o s
  | .lbu o => Sys2Proof.Machine.execLbu o s
  | .lh o => Sys2Proof.Machine.execLh o s
  | .lhu o => Sys2Proof.Machine.execLhu o s
  | .lw o => Sys2Proof.Machine.execLw o s
  | .lwu o => Sys2Proof.Machine.execLwu o s
  | .ld o => Sys2Proof.Machine.execLd o s
  | .sb o => Sys2Proof.Machine.execSb o s
  | .sh o => Sys2Proof.Machine.execSh o s
  | .sw o => Sys2Proof.Machine.execSw o s
  | .sd o => Sys2Proof.Machine.execSd o s
  | .amoadd o => Sys2Proof.Machine.execAmoadd o s
  | .amoswap o => Sys2Proof.Machine.execAmoswap o s
  | .amocas o => Sys2Proof.Machine.execAmocas o s
  | .amoand o => Sys2Proof.Machine.execAmoand o s
  | .amoor o => Sys2Proof.Machine.execAmoor o s
  | .amomin o => Sys2Proof.Machine.execAmomin o s
  | .amomax o => Sys2Proof.Machine.execAmomax o s
  | .beq o => Sys2Proof.Machine.execBeq o s
  | .bne o => Sys2Proof.Machine.execBne o s
  | .blt o => Sys2Proof.Machine.execBlt o s
  | .bge o => Sys2Proof.Machine.execBge o s
  | .bltu o => Sys2Proof.Machine.execBltu o s
  | .bgeu o => Sys2Proof.Machine.execBgeu o s
  | .jal o => Sys2Proof.Machine.execJal o s
  | .jalr o => Sys2Proof.Machine.execJalr o s
  | .vld o => Sys2Proof.Machine.execVld o s
  | .vst o => Sys2Proof.Machine.execVst o s
  | .vlds o => Sys2Proof.Machine.execVlds o s
  | .vsts o => Sys2Proof.Machine.execVsts o s
  | .vgath o => Sys2Proof.Machine.execVgath o s
  | .vscat o => Sys2Proof.Machine.execVscat o s
  | .vadd o => Sys2Proof.Machine.execVadd o s
  | .vsub o => Sys2Proof.Machine.execVsub o s
  | .vmul o => Sys2Proof.Machine.execVmul o s
  | .vmin o => Sys2Proof.Machine.execVmin o s
  | .vmax o => Sys2Proof.Machine.execVmax o s
  | .vminu o => Sys2Proof.Machine.execVminu o s
  | .vmaxu o => Sys2Proof.Machine.execVmaxu o s
  | .vand o => Sys2Proof.Machine.execVand o s
  | .vor o => Sys2Proof.Machine.execVor o s
  | .vxor o => Sys2Proof.Machine.execVxor o s
  | .vsll o => Sys2Proof.Machine.execVsll o s
  | .vsrl o => Sys2Proof.Machine.execVsrl o s
  | .vsra o => Sys2Proof.Machine.execVsra o s
  | .vabs o => Sys2Proof.Machine.execVabs o s
  | .vadds o => Sys2Proof.Machine.execVadds o s
  | .vdot4 o => Sys2Proof.Machine.execVdot4 o s
  | .vfadd o => Sys2Proof.Machine.execVfadd o s
  | .vfsub o => Sys2Proof.Machine.execVfsub o s
  | .vfmul o => Sys2Proof.Machine.execVfmul o s
  | .vfdiv o => Sys2Proof.Machine.execVfdiv o s
  | .vfsqrt o => Sys2Proof.Machine.execVfsqrt o s
  | .vfmin o => Sys2Proof.Machine.execVfmin o s
  | .vfmax o => Sys2Proof.Machine.execVfmax o s
  | .vfabs o => Sys2Proof.Machine.execVfabs o s
  | .vfneg o => Sys2Proof.Machine.execVfneg o s
  | .vfma o => Sys2Proof.Machine.execVfma o s
  | .vfms o => Sys2Proof.Machine.execVfms o s
  | .vfnma o => Sys2Proof.Machine.execVfnma o s
  | .vcvt o => Sys2Proof.Machine.execVcvt o s
  | .vcvtb o => Sys2Proof.Machine.execVcvtb o s
  | .vsum o => Sys2Proof.Machine.execVsum o s
  | .vrmin o => Sys2Proof.Machine.execVrmin o s
  | .vrmax o => Sys2Proof.Machine.execVrmax o s
  | .vrand o => Sys2Proof.Machine.execVrand o s
  | .vror o => Sys2Proof.Machine.execVror o s
  | .vrminu o => Sys2Proof.Machine.execVrminu o s
  | .vrmaxu o => Sys2Proof.Machine.execVrmaxu o s
  | .vceq o => Sys2Proof.Machine.execVceq o s
  | .vcne o => Sys2Proof.Machine.execVcne o s
  | .vclt o => Sys2Proof.Machine.execVclt o s
  | .vcle o => Sys2Proof.Machine.execVcle o s
  | .vcltu o => Sys2Proof.Machine.execVcltu o s
  | .vcleu o => Sys2Proof.Machine.execVcleu o s
  | .vbcast o => Sys2Proof.Machine.execVbcast o s
  | .vshuf o => Sys2Proof.Machine.execVshuf o s
  | .vslup o => Sys2Proof.Machine.execVslup o s
  | .vsldn o => Sys2Proof.Machine.execVsldn o s
  | .vins o => Sys2Proof.Machine.execVins o s
  | .vext o => Sys2Proof.Machine.execVext o s
  | .pand o => Sys2Proof.Machine.execPand o s
  | .por o => Sys2Proof.Machine.execPor o s
  | .pxor o => Sys2Proof.Machine.execPxor o s
  | .pandn o => Sys2Proof.Machine.execPandn o s
  | .pfirst o => Sys2Proof.Machine.execPfirst o s
  | .pcnt o => Sys2Proof.Machine.execPcnt o s
  | .pmovx o => Sys2Proof.Machine.execPmovx o s
  | .pmovp o => Sys2Proof.Machine.execPmovp o s
  | .fenceLocal o => Sys2Proof.Machine.execFenceLocal o s
  | .fenceTile o => Sys2Proof.Machine.execFenceTile o s
  | .fenceAll o => Sys2Proof.Machine.execFenceAll o s
  | .wedge o => Sys2Proof.Machine.execWedge o s
  | .wtick o => Sys2Proof.Machine.execWtick o s
  | .wfence o => Sys2Proof.Machine.execWfence o s
  | .bar o => Sys2Proof.Machine.execBar o s
  | .recv o => Sys2Proof.Machine.execRecv o s
  | .tryrecv o => Sys2Proof.Machine.execTryrecv o s
  | .send o => Sys2Proof.Machine.execSend o s
  | .csrr o => Sys2Proof.Machine.execCsrr o s
  | .csrw o => Sys2Proof.Machine.execCsrw o s
  | .csrs o => Sys2Proof.Machine.execCsrs o s
  | .csrc o => Sys2Proof.Machine.execCsrc o s
  | .ecall o => Sys2Proof.Machine.execEcall o s
  | .brk o => Sys2Proof.Machine.execBreak o s
  | .eret o => Sys2Proof.Machine.execEret o s
  | .halt o => Sys2Proof.Machine.execHalt o s
  | .waitTimeout o => Sys2Proof.Machine.execWaitTimeout o s
  | .scCtrlRun o => Sys2Proof.Machine.execScCtrlRun o s
  | .scCtrlHalt o => Sys2Proof.Machine.execScCtrlHalt o s
  | .barCntWrite o => Sys2Proof.Machine.execBarCntWrite o s
  | .registerWrite o => Sys2Proof.Machine.execRegisterWrite o s
  | .dmaActiveWrite o => Sys2Proof.Machine.execDmaActiveWrite o s
  | .dmaShadowWrite o => Sys2Proof.Machine.execDmaShadowWrite o s
  | .dmaStart o => Sys2Proof.Machine.execDmaStart o s
  | .dmaArm o => Sys2Proof.Machine.execDmaArm o s
  | .dmaAbort o => Sys2Proof.Machine.execDmaAbort o s
  | .dmaReq o => Sys2Proof.Machine.execDmaReq o s
  | .dmaBurstIssue o => Sys2Proof.Machine.execDmaBurstIssue o s
  | .dmaBurstComplete o => Sys2Proof.Machine.execDmaBurstComplete o s
  | .dmaSetComplete o => Sys2Proof.Machine.execDmaSetComplete o s
  | .objAlloc o => Sys2Proof.Machine.execObjAlloc o s
  | .objFree o => Sys2Proof.Machine.execObjFree o s
  | .objQuery o => Sys2Proof.Machine.execObjQuery o s
  | .repairRequestServe o => Sys2Proof.Machine.execRepairRequestServe o s
  | .memRepairComplete o => Sys2Proof.Machine.execMemRepairComplete o s
  | .memRepairLate o => Sys2Proof.Machine.execMemRepairLate o s
  | .scratchScrub o => Sys2Proof.Machine.execScratchScrub o s
  | .hbmPatrol o => Sys2Proof.Machine.execHbmPatrol o s
  | .localMemoryScrub o => Sys2Proof.Machine.execLocalMemoryScrub o s
  | .packetBufferScrub o => Sys2Proof.Machine.execPacketBufferScrub o s
  | .treeStoreScrub o => Sys2Proof.Machine.execTreeStoreScrub o s
  | .cremaCacheScrub o => Sys2Proof.Machine.execCremaCacheScrub o s
  | .bridgeCalibration => Sys2Proof.Machine.execBridgeCalibration s
  | .telemetryCollection => Sys2Proof.Machine.execTelemetryCollection s
  | .cxlLinkDegraded o => Sys2Proof.Machine.execCxlLinkDegraded o s
  | .cxlLinkDown o => Sys2Proof.Machine.execCxlLinkDown o s
  | .hbmStackFail o => Sys2Proof.Machine.execHbmStackFail o s
  | .tblDefine o => Sys2Proof.Machine.execTblDefine o s
  | .tblFree o => Sys2Proof.Machine.execTblFree o s
  | .tblQuery o => Sys2Proof.Machine.execTblQuery o s
  | .euQPush o => Sys2Proof.Machine.execEuQPush o s
  | .euFlush o => Sys2Proof.Machine.execEuFlush o s
  | .euGather o => Sys2Proof.Machine.execEuGather o s
  | .euScatterAdd o => Sys2Proof.Machine.execEuScatterAdd o s
  | .euPrefetch o => Sys2Proof.Machine.execEuPrefetch o s
  | .euApply o => Sys2Proof.Machine.execEuApply o s
  | .euSync o => Sys2Proof.Machine.execEuSync o s
  | .euCmdComplete o => Sys2Proof.Machine.execEuCmdComplete o s
  | .remoteRowRequest o => Sys2Proof.Machine.execRemoteRowRequest o s
  | .remoteRowReply o => Sys2Proof.Machine.execRemoteRowReply o s
  | .remoteRequestTimeout o => Sys2Proof.Machine.execRemoteRequestTimeout o s
  | .cacheHint o => Sys2Proof.Machine.execCacheHint o s
  | .exchEntryReceive o => Sys2Proof.Machine.execExchEntryReceive o s
  | .exchEndReceive o => Sys2Proof.Machine.execExchEndReceive o s
  | .mirrorRecordReceive o => Sys2Proof.Machine.execMirrorRecordReceive o s
  | .mirrorAckReceive o => Sys2Proof.Machine.execMirrorAckReceive o s
  | .mirrorDiscardReceive o => Sys2Proof.Machine.execMirrorDiscardReceive o s
  | .discardAckReceive o => Sys2Proof.Machine.execDiscardAckReceive o s
  | .replicaRecordReceive o => Sys2Proof.Machine.execReplicaRecordReceive o s
  | .collDefine o => Sys2Proof.Machine.execCollDefine o s
  | .collFree o => Sys2Proof.Machine.execCollFree o s
  | .collQuery o => Sys2Proof.Machine.execCollQuery o s
  | .collSlotOpen o => Sys2Proof.Machine.execCollSlotOpen o s
  | .collPacketReceive o => Sys2Proof.Machine.execCollPacketReceive o s
  | .collSlotClose => Sys2Proof.Machine.execCollSlotClose s
  | .statePacketReceive o => Sys2Proof.Machine.execStatePacketReceive o s
  | .stateAckReceive o => Sys2Proof.Machine.execStateAckReceive o s
  | .linkTrain o => Sys2Proof.Machine.execLinkTrain o s
  | .linkTrainRetry o => Sys2Proof.Machine.execLinkTrainRetry o s
  | .laneLockLoss o => Sys2Proof.Machine.execLaneLockLoss o s
  | .fabRetrain o => Sys2Proof.Machine.execFabRetrain o s
  | .fecUncorrCodeword o => Sys2Proof.Machine.execFecUncorrCodeword o s
  | .fabDataReceive o => Sys2Proof.Machine.execFabDataReceive o s
  | .fabAckReceive o => Sys2Proof.Machine.execFabAckReceive o s
  | .fabNakReceive o => Sys2Proof.Machine.execFabNakReceive o s
  | .fabCreditReceive o => Sys2Proof.Machine.execFabCreditReceive o s
  | .fabIdleReceive o => Sys2Proof.Machine.execFabIdleReceive o s
  | .fabFrameTransmit o => Sys2Proof.Machine.execFabFrameTransmit o s
  | .fabAckTimer o => Sys2Proof.Machine.execFabAckTimer o s
  | .fabNakRepeat o => Sys2Proof.Machine.execFabNakRepeat o s
  | .fabRetryTimeout o => Sys2Proof.Machine.execFabRetryTimeout o s
  | .fabStallDrop o => Sys2Proof.Machine.execFabStallDrop o s
  | .remapReportReceive o => Sys2Proof.Machine.execRemapReportReceive o s
  | .remapCollectEnd => Sys2Proof.Machine.execRemapCollectEnd s
  | .remapConfirmReceive o => Sys2Proof.Machine.execRemapConfirmReceive o s
  | .remapApply => Sys2Proof.Machine.execRemapApply s
  | .ethLinkUp o => Sys2Proof.Machine.execEthLinkUp o s
  | .ethLinkDown o => Sys2Proof.Machine.execEthLinkDown o s
  | .ethFrameReceive o => Sys2Proof.Machine.execEthFrameReceive o s
  | .pfcFrameReceive o => Sys2Proof.Machine.execPfcFrameReceive o s
  | .pauseFrameReceive o => Sys2Proof.Machine.execPauseFrameReceive o s
  | .lldpReceive o => Sys2Proof.Machine.execLldpReceive o s
  | .pfcPauseExpire o => Sys2Proof.Machine.execPfcPauseExpire o s
  | .pfcXoffRepeat o => Sys2Proof.Machine.execPfcXoffRepeat o s
  | .losslessFrameWrite o => Sys2Proof.Machine.execLosslessFrameWrite o s
  | .losslessHoldTimeout o => Sys2Proof.Machine.execLosslessHoldTimeout o s
  | .ethFrameTransmit o => Sys2Proof.Machine.execEthFrameTransmit o s
  | .tailReadComplete o => Sys2Proof.Machine.execTailReadComplete o s
  | .ethqDefine o => Sys2Proof.Machine.execEthqDefine o s
  | .ethqFree o => Sys2Proof.Machine.execEthqFree o s
  | .ethqQuery o => Sys2Proof.Machine.execEthqQuery o s
  | .lpiTxEntry o => Sys2Proof.Machine.execLpiTxEntry o s
  | .lpiRxEntry o => Sys2Proof.Machine.execLpiRxEntry o s
  | .pipeParse o => Sys2Proof.Machine.execPipeParse o s
  | .fragAgeExpire o => Sys2Proof.Machine.execFragAgeExpire o s
  | .flowAgeExpire o => Sys2Proof.Machine.execFlowAgeExpire o s
  | .balanceIntervalEnd => Sys2Proof.Machine.execBalanceIntervalEnd s
  | .ruleSwitch => Sys2Proof.Machine.execRuleSwitch s
  | .shotLaneAdmit o => Sys2Proof.Machine.execShotLaneAdmit o s
  | .grindRecord o => Sys2Proof.Machine.execGrindRecord o s
  | .lookupResponse o => Sys2Proof.Machine.execLookupResponse o s
  | .lookupDeadline o => Sys2Proof.Machine.execLookupDeadline o s
  | .treeGroupStart o => Sys2Proof.Machine.execTreeGroupStart o s
  | .treeGroupComplete o => Sys2Proof.Machine.execTreeGroupComplete o s
  | .replyStart o => Sys2Proof.Machine.execReplyStart o s
  | .replyEntryDue o => Sys2Proof.Machine.execReplyEntryDue o s
  | .replyFcsDue o => Sys2Proof.Machine.execReplyFcsDue o s
  | .recordOverload o => Sys2Proof.Machine.execRecordOverload o s
  | .bankCommit => Sys2Proof.Machine.execBankCommit s
  | .bankChecksEnd o => Sys2Proof.Machine.execBankChecksEnd o s
  | .qRxDoorbell o => Sys2Proof.Machine.execQRxDoorbell o s
  | .qTxDoorbell o => Sys2Proof.Machine.execQTxDoorbell o s
  | .scPost o => Sys2Proof.Machine.execScPost o s
  | .fenceWatchArm o => Sys2Proof.Machine.execFenceWatchArm o s
  | .hcqEnable o => Sys2Proof.Machine.execHcqEnable o s
  | .msixHoldoffExpire o => Sys2Proof.Machine.execMsixHoldoffExpire o s
  | .msixUnmask o => Sys2Proof.Machine.execMsixUnmask o s
  | .mbxGo o => Sys2Proof.Machine.execMbxGo o s
  | .bar4Read o => Sys2Proof.Machine.execBar4Read o s
  | .bar4Write o => Sys2Proof.Machine.execBar4Write o s
  | .hostReset o => Sys2Proof.Machine.execHostReset o s
  | .hostLinkUp o => Sys2Proof.Machine.execHostLinkUp o s
  | .hostCplTimeout o => Sys2Proof.Machine.execHostCplTimeout o s
  | .ptClearComplete o => Sys2Proof.Machine.execPtClearComplete o s
  | .dapRead o => Sys2Proof.Machine.execDapRead o s
  | .dapWrite o => Sys2Proof.Machine.execDapWrite o s
  | .dapStage o => Sys2Proof.Machine.execDapStage o s
  | .dapCommit o => Sys2Proof.Machine.execDapCommit o s
  | .dapAbort o => Sys2Proof.Machine.execDapAbort o s
  | .dapSubscribe o => Sys2Proof.Machine.execDapSubscribe o s
  | .stageIdleExpire o => Sys2Proof.Machine.execStageIdleExpire o s
  | .subscriptionLapse o => Sys2Proof.Machine.execSubscriptionLapse o s
  | .eventSend o => Sys2Proof.Machine.execEventSend o s
  | .telemetryRecord o => Sys2Proof.Machine.execTelemetryRecord o s
  | .statsClear o => Sys2Proof.Machine.execStatsClear o s
  | .arpRequest o => Sys2Proof.Machine.execArpRequest o s
  | .neighborSolicitation o => Sys2Proof.Machine.execNeighborSolicitation o s
  | .powerGood o => Sys2Proof.Machine.execPowerGood o s
  | .bringupComplete o => Sys2Proof.Machine.execBringupComplete o s
  | .railTimeout o => Sys2Proof.Machine.execRailTimeout o s
  | .inputDisconnect => Sys2Proof.Machine.execInputDisconnect s
  | .recoveryFwBlock o => Sys2Proof.Machine.execRecoveryFwBlock o s
  | .recoveryFwBoot o => Sys2Proof.Machine.execRecoveryFwBoot o s
  | .outputHold o => Sys2Proof.Machine.execOutputHold o s
  | .configSave => Sys2Proof.Machine.execConfigSave s
  | .configSaveComplete o => Sys2Proof.Machine.execConfigSaveComplete o s
  | .configLoadSlot o => Sys2Proof.Machine.execConfigLoadSlot o s
  | .deviceReset o => Sys2Proof.Machine.execDeviceReset o s
  | .deviceResetStart o => Sys2Proof.Machine.execDeviceResetStart o s
  | .fwBlock o => Sys2Proof.Machine.execFwBlock o s
  | .fwVerify => Sys2Proof.Machine.execFwVerify s
  | .monitorSample o => Sys2Proof.Machine.execMonitorSample o s
  | .tileHeartbeatMiss o => Sys2Proof.Machine.execTileHeartbeatMiss o s
  | .refclkLoss => Sys2Proof.Machine.execRefclkLoss s
  | .inputLevelAccept o => Sys2Proof.Machine.execInputLevelAccept o s
  | .inputHoldoffExpire o => Sys2Proof.Machine.execInputHoldoffExpire o s
  | .illegalInstruction o => Sys2Proof.Machine.execIllegalInstruction o s
  | .dapUnlistedOp o => Sys2Proof.Machine.execDapUnlistedOp o s
  | .lldpTtlExpire o => Sys2Proof.Machine.execLldpTtlExpire o s
  | .lldpduSend o => Sys2Proof.Machine.execLldpduSend o s
  | .lpiRxExit o => Sys2Proof.Machine.execLpiRxExit o s
  | .cxlEventRecord o => Sys2Proof.Machine.execCxlEventRecord o s

end Sys2Proof.Machine
end

