-- ==== Sys2Proof/Safety.lean ====
section
/-! DEFINITION. What a safe run is: no step ends in a fault or a refusal, and every memory keeps its canonical form. Then
the words the statements use: when a core runs, what an instruction that completes or traps leaves, the local memory of a
core, and the lanes of a vector. -/

namespace Sys2Proof.Machine

/-- Every byte memory is in canonical form: T0, T1, T2, local memory, the packet buffer, the tree store and the firmware
slots. -/
def State.memOk (s : State) : Bool :=
  Memory.wf s.t0 && Memory.wf s.t1 && Memory.wf s.t2 && Memory.wf s.lmem && Memory.wf s.pkt && Memory.wf s.tree &&
    Memory.wf s.boot.fw0.bytes && Memory.wf s.boot.fw1.bytes

/-- A state whose run of `n` steps is safe: it ends in a next state, with every memory in canonical form. -/
def State.safeFor (s : State) (n : Nat) : Prop :=
  ∃ t : State, Host.Core.run Sys2Proof.core n s = .next t ∧ t.memOk = true

/-! ### Steward cores -/

/-- Core k runs instructions: it is present, not mapped out, and RUNNING (R4, R131). -/
def State.runs (s : State) (k : Nat) : Prop := s.coreOk k = true ∧ (s.core k).mode = .running

/-- The state once core k has issued an instruction: sc_busy counts it (R157). -/
def State.issued (s : State) (k : Nat) : State := s.count cScBusy k 1

/-- The state with core k holding the registers `c`, past its instruction: PC + 4 and one more in SC_INSTRET. -/
def State.retire (s : State) (k : Nat) (c : Core) : State :=
  s.setCore k { c with pc := c.pc + 4#18, instret := c.instret + 1#64 }

/-- Core k has completed an instruction that leaves it the registers `c` and changes nothing else. -/
def State.done (s : State) (k : Nat) (c : Core) : Host.Outcome State Fault Refusal := .next ((s.issued k).retire k c)

/-- Core k has taken an exception of a cause (Table 5.7) instead. -/
def State.trap (s : State) (k cause : Nat) : Host.Outcome State Fault Refusal :=
  .next ((s.issued k).takeExc k ⟨cause, 0, 0⟩)

/-- A requester that may write a register block of a tile whose unit is its partition's: the MC while the tiles have power, a
core of the tile, or the partition's host (R136, R423, R508). -/
def State.reachesUnit (s : State) (r : Requester) (tile : Nat) (owner : Option Nat) : Prop :=
  match r with
  | .mc => s.power = .on
  | .core j => j.toNat / 128 = tile ∧ s.coreOwner j.toNat = owner
  | .host p => s.ptEnabled p.toNat = true ∧ owner = some p.toNat

/-- A requester that may reach steward DMA channel ch (64 × tile + c, tile 2 NT): the MC the NT channels while they have
power, a core the channels of its tile and partition, a host those of its partition (R159, R163, R423). -/
def State.reachesChan (s : State) (r : Requester) (ch : Nat) : Prop :=
  s.chanOk ch = true ∧ (match r with
    | .mc => ch / 64 = 2 ∧ s.power = .on
    | .core j => ch / 64 < 2 ∧ j.toNat / 128 = ch / 64 ∧ s.coreOwner j.toNat = s.chanOwner ch
    | .host p => s.ptEnabled p.toNat = true ∧ s.chanOwner ch = some p.toNat)

/-- The mailbox of an enabled partition takes a command at once: it is not busy, and the MC executes no request (R422, R432). -/
abbrev State.mbxFree (s : State) (p : Nat) : Prop :=
  s.ptEnabled p = true ∧ (Tab.get ({} : Mailbox) s.host.mbx p).busy = false ∧ s.mcBusy = false

/-- Byte a of core k's local memory (R135). -/
def State.lmByte (s : State) (k a : Nat) : Byte := s.lmem.read (k * 2 ^ 18 + a)

/-- The bytes [a, a + n) of core k's local memory hold no uncorrectable word. -/
def State.lmClean (s : State) (k a n : Nat) : Prop := s.lmPoisoned (k * 2 ^ 18 + a) n = false

/-- The little-endian number of n bytes of core k's local memory (R9). -/
def State.lmNat (s : State) (k a : Nat) : Nat → Nat
  | 0 => 0
  | n + 1 => (s.lmByte k a).toNat + 256 * s.lmNat k (a + 1) n

/-- BASE + size × IMM modulo 2^64 (R141). -/
def Core.mAddr (c : Core) (base : BitVec 5) (imm : Half) (n : Nat) : Nat :=
  (c.getX base + BitVec.ofNat 64 n * imm.signExtend 64).toNat

/-- What a read of local memory that meets no uncorrectable word leaves: sc_lm_ce has counted what was corrected. -/
def State.lmCounted (s : State) (k lce : Nat) : State := (s.count cScLmCe k lce).count cScLmUe k 0

/-- The T0 address of a core address in scratch: that of the core's tile from 0x1_0000_0000 on, and that of the other tile, where
there is one, from 0x2_0000_0000 on (Table 5.3). -/
def State.scratchT0 (s : State) (k a : Nat) : Option Nat :=
  if 0x100000000 ≤ a ∧ a < 0x100000000 + scratchSize then some (k / 128 * scratchSize + (a - 0x100000000))
  else if 0x200000000 ≤ a ∧ a < 0x200000000 + scratchSize ∧ s.variant.tiles = 2 then
    some ((1 - k / 128) * scratchSize + (a - 0x200000000))
  else none

/-- The little-endian number of n bytes of T0 (R9). -/
def State.t0Nat (s : State) (x : Nat) : Nat → Nat
  | 0 => 0
  | n + 1 => (s.t0.read x).toNat + 256 * s.t0Nat (x + 1) n

/-- Every memory, and every register, queue and counter but core k's registers and what is said of local memory, is as
in s. -/
def State.sameButCore (t s : State) : Prop :=
  t.t0 = s.t0 ∧ t.t1 = s.t1 ∧ t.t2 = s.t2 ∧ t.pkt = s.pkt ∧ t.tree = s.tree ∧ t.dict = s.dict ∧ t.events = s.events ∧
    t.out = s.out ∧ t.clk = s.clk ∧ t.sched = s.sched ∧ t.fences = s.fences ∧ t.bars = s.bars ∧ t.engines = s.engines ∧
    t.chans = s.chans ∧ t.eus = s.eus ∧ t.emb = s.emb ∧ t.fab = s.fab ∧ t.host = s.host ∧ t.dap = s.dap ∧
    t.boot = s.boot ∧ t.bank = s.bank ∧ t.coll = s.coll ∧ t.net = s.net ∧ t.health = s.health ∧ t.pending = s.pending ∧
    t.variant = s.variant ∧ t.modrec = s.modrec ∧ t.ident = s.ident ∧ t.power = s.power ∧ t.evLast = s.evLast ∧ t.draws = s.draws

/-- T0 after a store of bytes, and everything but the cores and the counters: those bytes at x, every other byte, and every other
part of the state, as before. -/
def State.t0Stored (t s : State) (x : Nat) (b : List Byte) : Prop :=
  (∀ i, i < b.length → t.t0.read (x + i) = b.getD i 0#8) ∧
    (∀ y, (y < x ∨ x + b.length ≤ y) → t.t0.read y = s.t0.read y) ∧ t.lmem = s.lmem ∧ t.mem = s.mem ∧
    State.sameButCore { t with t0 := s.t0 } s

/-- Local memory after a store of bytes: those bytes at a, every other byte of every core as before. -/
def State.lmStored (t s : State) (k a : Nat) (b : List Byte) : Prop :=
  (∀ i, i < b.length → t.lmem.read (k * 2 ^ 18 + a + i) = b.getD i 0#8) ∧
    ∀ x, (x < k * 2 ^ 18 + a ∨ k * 2 ^ 18 + a + b.length ≤ x) → t.lmem.read x = s.lmem.read x

end Sys2Proof.Machine
end

