-- ==== Sys2Proof/Certificates/Slice0/Obligations.lean ====
section
/-! DEFINITION. The statements, by the families of the command table: what each command of the block does, completes with
and leaves alone, and what holds in every state. -/

open Sys2Proof Sys2Proof.Machine

/-! ### The block -/

/-- The command at the front of the queue is executed on the state with the queue's rest. -/
def Obligations.StepRunsFront : Prop :=
  ∀ (c : Instr) (rest : List Instr) (s : State), s.pending = c :: rest → step s = exec c { s with pending := rest }

/-- No command faults or is refused: every step of every state answers a next state.

That is the model's choice: a command that is not due, is ill-formed or names an absent unit has no effect (log entry 4),
and on an empty queue the block idles (log entry 1). -/
def Obligations.NoStepStops : Prop :=
  (∀ (c : Instr) (s : State), ∃ t : State, exec c s = .next t) ∧
  (∀ s : State, s.pending = [] → step s = .next s)

/-- At reset every memory has its canonical form. -/
def Obligations.MemoryCanonicalAtReset : Prop := State.reset.memOk = true

/-- Every step keeps the canonical form of every memory: T0, T1, T2, local memory, the packet buffer, the tree store and
the firmware slots. -/
def Obligations.MemoryStaysCanonical : Prop :=
  ∀ s t : State, s.memOk = true → step s = .next t → t.memOk = true

/-- A canonical memory after a write of one byte reads that byte there and every other byte as before, and is
canonical. -/
def Obligations.MemoryReadAfterWrite : Prop :=
  ∀ (m : Memory) (a : Nat) (b : Byte), m.wf = true →
    (m.write a b).wf = true ∧ ∀ x : Nat, (m.write a b).read x = if x = a then b else m.read x

/-! ### Steward cores -/

/-- Scalar register x0 reads zero, and writes to it are discarded; predicate p0 reads all ones, and writes to it are
discarded; any other register reads what was written, and a write changes no other register (R131).

Device reset leaves every register of every core zero, and p0 reading all ones (R131), from FAULT too, once a tripped module
has cooled down and its PWR_FAULT_N is no longer masked (R482, R493, R516). -/
def Obligations.HardwiredRegisters : Prop :=
  (∀ (c : Core) (r q : BitVec 5) (p g : BitVec 3) (w : Word64) (v : Vec),
    c.getX 0#5 = 0#64 ∧ c.setX 0#5 w = c ∧ c.getP 0#3 = BitVec.allOnes 64 ∧ c.setP 0#3 w = c ∧
      (c.setX r w).getX q = (if q = r ∧ r ≠ 0#5 then w else c.getX q) ∧
      (c.setV r v).getV q = (if q = r then v else c.getV q) ∧
      (c.setP p w).getP g = (if g = p ∧ p ≠ 0#3 then w else c.getP g)) ∧
  (∀ (s : State) (k : Nat), let c := s.core k
    (s = State.reset ∨ ∃ (u : State) (o : StartOp), u.boot.reset = true ∧ u.boot.saving = none ∧ refReady ≤ u.health.refRan ∧
      ¬(u.boot.state = 9 ∧ u.boot.fault = 13 ∧ (u.health.cool < 128 ∨ u.boot.monitor = 194 ∧ u.health.masked / 16 % 2 = 1)) ∧
      exec (.deviceResetStart o) u = .next s) →
    (∀ r : BitVec 5, c.getX r = 0#64 ∧ c.getV r = 0#512) ∧
    (∀ r : BitVec 3, c.getP r = if r = 0#3 then BitVec.allOnes 64 else 0#64) ∧ c.pc = 0#18 ∧ c.epc = 0#18 ∧
    c.cause = 0#10 ∧ c.eaddr = 0#64 ∧ c.tvec = 0#18 ∧ c.frm = 0#3 ∧ c.fflags = 0#5 ∧ c.waitLimit = 0#64 ∧
    c.instret = 0#64)

/-- The 21 functions of OP 0x01 (Table 5.5): DST = SRC1 op SRC2 on 64 bits, shifts by SRC2[5:0], the corners of division
as the table gives them; the core goes on at PC + 4 and nothing else changes.

The immediate forms: ADDI, SLTI and LUI take a sign-extended immediate, ANDI, ORI and XORI a zero-extended one
(R140), the shifts IMM[5:0]; LUI shifts its 21 bits left by 16.

MIN and MAX compare as signed numbers (the model's reading, log entry 98). -/
def Obligations.ScalarInstructions : Prop :=
  (∀ (s : State) (o : OpA), s.runs o.core.toNat →
    let k := o.core.toNat
    let c := s.core k
    let a := c.getX o.src1
    let b := c.getX o.src2
    let n := b.toNat % 64
    let put := fun w : Word64 => s.done k (c.setX o.dst w)
    let bool := fun p : Bool => if p then 1#64 else 0#64
    exec (.add o) s = put (a + b) ∧ exec (.sub o) s = put (a - b) ∧ exec (.and o) s = put (a &&& b) ∧
      exec (.or o) s = put (a ||| b) ∧ exec (.xor o) s = put (a ^^^ b) ∧ exec (.sll o) s = put (a <<< n) ∧
      exec (.srl o) s = put (a >>> n) ∧ exec (.sra o) s = put (a.sshiftRight n) ∧
      exec (.slt o) s = put (bool (decide (a.toInt < b.toInt))) ∧
      exec (.sltu o) s = put (bool (decide (a.toNat < b.toNat))) ∧ exec (.mul o) s = put (a * b) ∧
      exec (.mulh o) s = put ((a.signExtend 128 * b.signExtend 128).extractLsb' 64 64) ∧
      exec (.mulhu o) s = put ((a.zeroExtend 128 * b.zeroExtend 128).extractLsb' 64 64) ∧
      exec (.div o) s = put (if b = 0#64 then BitVec.allOnes 64 else a.sdiv b) ∧
      exec (.divu o) s = put (if b = 0#64 then BitVec.allOnes 64 else a / b) ∧
      exec (.rem o) s = put (if b = 0#64 then a else a.srem b) ∧
      exec (.remu o) s = put (if b = 0#64 then a else a % b) ∧
      exec (.min o) s = put (if a.toInt ≤ b.toInt then a else b) ∧
      exec (.max o) s = put (if a.toInt ≤ b.toInt then b else a) ∧
      (∃ z : Nat, exec (.clz o) s = put (BitVec.ofNat 64 z) ∧ z ≤ 64 ∧ a.toNat < 2 ^ (64 - z) ∧
        (z < 64 → 2 ^ (63 - z) ≤ a.toNat)) ∧
      exec (.popc o) s = put (BitVec.ofNat 64 ((List.range 64).countP (fun i => a.getLsbD i)))) ∧
  (∀ (s : State) (o : OpI) (j : OpJ), (s.runs o.core.toNat →
    let k := o.core.toNat
    let c := s.core k
    let a := c.getX o.src1
    let put := fun w : Word64 => s.done k (c.setX o.dst w)
    exec (.addi o) s = put (a + o.imm.signExtend 64) ∧ exec (.andi o) s = put (a &&& o.imm.zeroExtend 64) ∧
      exec (.ori o) s = put (a ||| o.imm.zeroExtend 64) ∧ exec (.xori o) s = put (a ^^^ o.imm.zeroExtend 64) ∧
      exec (.slli o) s = put (a <<< (o.imm.extractLsb' 0 6)) ∧ exec (.srli o) s = put (a >>> (o.imm.extractLsb' 0 6)) ∧
      exec (.srai o) s = put (a.sshiftRight' (o.imm.extractLsb' 0 6)) ∧
      exec (.slti o) s = put (if a.toInt < o.imm.toInt then 1#64 else 0#64)) ∧
    (s.runs j.core.toNat → exec (.lui j) s =
      s.done j.core.toNat ((s.core j.core.toNat).setX j.dst (j.imm.signExtend 64 * 65536#64))))

/-- Branches go to PC + 4 × IMM when SRC1 compares true with SRC2 and to PC + 4 when not; JAL and JALR write PC + 4 to
DST and go to PC + 4 × IMM, or to SRC1 + IMM with bits [1:0] cleared. PC holds 18 bits with bits [1:0] zero (Table 5.1).

That a target at or above 256 KiB is cut to those bits and raises no ACCESS is the model's reading (log entry 157). -/
def Obligations.BranchesAndJumps : Prop :=
  ∀ (s : State) (b : OpB) (j : OpJ) (i : OpI),
    let went := fun (k : Nat) (c : Core) (pc : BitVec 18) => (Host.Outcome.next ((s.issued k).setCore k
      { c with pc := pc, instret := c.instret + 1#64 }) : Host.Outcome State Fault Refusal)
    let even := fun pc : BitVec 18 => pc &&& 0x3FFFC#18
    (s.runs b.core.toNat →
      let k := b.core.toNat
      let c := s.core k
      let x := c.getX b.src1
      let y := c.getX b.src2
      let go := fun t : Bool => went k c (if t then even (c.pc + 4#18 * b.imm.signExtend 18) else c.pc + 4#18)
      exec (.beq b) s = go (decide (x = y)) ∧ exec (.bne b) s = go (decide (x ≠ y)) ∧
        exec (.blt b) s = go (decide (x.toInt < y.toInt)) ∧ exec (.bge b) s = go (decide (y.toInt ≤ x.toInt)) ∧
        exec (.bltu b) s = go (decide (x.toNat < y.toNat)) ∧ exec (.bgeu b) s = go (decide (y.toNat ≤ x.toNat))) ∧
    (s.runs j.core.toNat →
      let c := s.core j.core.toNat
      exec (.jal j) s = went j.core.toNat (c.setX j.dst (BitVec.ofNat 64 (c.pc.toNat + 4)))
        (even (c.pc + 4#18 * BitVec.ofInt 18 j.imm.toInt))) ∧
    (s.runs i.core.toNat →
      let c := s.core i.core.toNat
      exec (.jalr i) s = went i.core.toNat (c.setX i.dst (BitVec.ofNat 64 (c.pc.toNat + 4)))
        (even ((c.getX i.src1 + i.imm.signExtend 64).truncate 18)))

/-- The FP64 instructions write the result in the format FP64 under the rounding code of SC_FRM and add its IEEE flags to
SC_FFLAGS; those that round raise BAD_ROUNDING while SC_FRM is above 3 (R134, R141).

FEQ.D, FLT.D and FLE.D write false when either operand is NaN, and FMIN.D and FMAX.D return the operand that is no NaN when
only one is (Table 5.5).

Comparisons signal on a signalling NaN only, and the tininess, the zero that FMIN.D and FMAX.D return and the sign of a made
NaN are the model's or open (log entries 25, 10 to 13); so are the payload bits that a NaN keeps in a conversion (log entry
152) and the invalid flag of a fused multiply-add of zero and infinity with a quiet NaN (log entry 150). -/
def Obligations.ScalarFloat : Prop :=
  (∀ (s : State) (o : OpA), s.runs o.core.toNat →
    let k := o.core.toNat
    let c := s.core k
    let a := (c.getX o.src1).toNat
    let b := (c.getX o.src2).toNat
    let d := (c.getX o.dst).toNat
    let fp := fun (x : FRes) =>
      { c.setX o.dst (BitVec.ofNat 64 x.bits) with fflags := c.fflags ||| BitVec.ofNat 5 x.flags }
    let put := fun x : FRes => s.done k (fp x)
    let rounded := fun (i : Instr) (f : Rnd → FRes) => (∀ r : Rnd, c.rnd = some r → exec i s = put (f r)) ∧
      (3 < c.frm.toNat → exec i s = s.trap k 3)
    rounded (.faddD o) (fun r => fAdd .payload .fp64 r a b) ∧ rounded (.fsubD o) (fun r => fSub .payload .fp64 r a b) ∧
      rounded (.fmulD o) (fun r => fMul .payload .fp64 r a b) ∧ rounded (.fdivD o) (fun r => fDiv .payload .fp64 r a b) ∧
      rounded (.fsqrtD o) (fun r => fSqrt .payload .fp64 r a) ∧
      rounded (.fmaD o) (fun r => fFma .payload .fp64 r a b d) ∧ rounded (.fcvtLD o) (fun r => cvtToL r a) ∧
      rounded (.fcvtDL o) (fun r => cvtFromL r a) ∧ exec (.fcvtDS o) s = put (cvtStoD a) ∧
      exec (.fminD o) s = put (fMinMax .fp64 false a b) ∧ exec (.fmaxD o) s = put (fMinMax .fp64 true a b) ∧
      exec (.feqD o) s = put ⟨if fEq .fp64 a b then 1 else 0, snanFlag .fp64 [a, b]⟩ ∧
      exec (.fltD o) s = put ⟨if fLt .fp64 a b then 1 else 0, snanFlag .fp64 [a, b]⟩ ∧
      exec (.fleD o) s = put ⟨if fLe .fp64 a b then 1 else 0, snanFlag .fp64 [a, b]⟩ ∧
      (∀ r : Rnd, c.rnd = some r → exec (.fcvtSD o) s = .next
        (((s.issued k).retire k (fp (cvtDtoS r a))).countArith (s.byPart k) { cvtSat := if satDtoS r a then 1 else 0 })) ∧
      (3 < c.frm.toNat → exec (.fcvtSD o) s = s.trap k 3)) ∧
  (∀ (a b : Nat) (m : Bool),
    let nan := fun x : Nat => x / 2 ^ 52 % 2048 = 2047 ∧ x % 2 ^ 52 ≠ 0
    ((nan a ∨ nan b) → fEq .fp64 a b = false ∧ fLt .fp64 a b = false ∧ fLe .fp64 a b = false) ∧
    (nan a → ¬ nan b → (fMinMax .fp64 m a b).bits = b) ∧ (¬ nan a → nan b → (fMinMax .fp64 m a b).bits = a))

/-- A load of 1, 2, 4 or 8 bytes, or of 64 by VLD, from the core's own local memory writes DST with the bytes there,
little-endian, sign- or zero-extended, and changes nothing but that register, PC, SC_INSTRET and the counters of the
error correction (Table 5.5, R139).

A load or store whose address is no multiple of its size raises MISALIGNED with that address in SC_EADDR, and an atomic
at an address between local memory and CORE_CTL_BASE, which no row of Table 5.3 covers, raises ACCESS (R135, R145).

A load from the scratch of either tile, in the range of the core's partition, writes DST likewise and counts what error
correction reports; of a poisoned line it raises POISON, and outside the range it raises ACCESS and is a violation of source 5
(R136, R139, R433). The scratch of a tile that is absent reads zero (R4). -/
def Obligations.CoreLoads : Prop :=
  (∀ (s : State) (o : OpL), s.runs o.core.toNat → o.ecc = {} →
    let k := o.core.toNat
    let c := s.core k
    let ok := fun n : Nat => c.mAddr o.src1 o.imm n % n = 0 ∧ c.mAddr o.src1 o.imm n + n ≤ 2 ^ 18 ∧
      s.lmClean k (c.mAddr o.src1 o.imm n) n
    let got := fun n : Nat => s.lmNat k (c.mAddr o.src1 o.imm n) n
    let put := fun w : Word64 =>
      (Host.Outcome.next (((s.issued k).lmCounted k o.lce).retire k (c.setX o.dst w)) : Host.Outcome State Fault Refusal)
    (ok 1 → exec (.lb o) s = put ((BitVec.ofNat 8 (got 1)).signExtend 64) ∧ exec (.lbu o) s = put (BitVec.ofNat 64 (got 1))) ∧
      (ok 2 → exec (.lh o) s = put ((BitVec.ofNat 16 (got 2)).signExtend 64) ∧
        exec (.lhu o) s = put (BitVec.ofNat 64 (got 2))) ∧
      (ok 4 → exec (.lw o) s = put ((BitVec.ofNat 32 (got 4)).signExtend 64) ∧
        exec (.lwu o) s = put (BitVec.ofNat 64 (got 4))) ∧
      (ok 8 → exec (.ld o) s = put (BitVec.ofNat 64 (got 8))) ∧
      (ok 64 → exec (.vld o) s = .next (((s.issued k).lmCounted k o.lce).retire k
        (c.setV o.dst (BitVec.ofNat 512 (got 64)))))) ∧
  (∀ (s : State) (l : OpL) (i : OpI) (m : OpAmo),
    let bad := fun (k a : Nat) => (Host.Outcome.next ((s.issued k).takeExc k ⟨4, 0, a⟩) : Host.Outcome State Fault Refusal)
    (s.runs l.core.toNat →
      let a := (s.core l.core.toNat).mAddr l.src1 l.imm
      (a 2 % 2 ≠ 0 → exec (.lh l) s = bad l.core.toNat (a 2) ∧ exec (.lhu l) s = bad l.core.toNat (a 2)) ∧
      (a 4 % 4 ≠ 0 → exec (.lw l) s = bad l.core.toNat (a 4) ∧ exec (.lwu l) s = bad l.core.toNat (a 4)) ∧
      (a 8 % 8 ≠ 0 → exec (.ld l) s = bad l.core.toNat (a 8)) ∧
      (a 64 % 64 ≠ 0 → exec (.vld l) s = bad l.core.toNat (a 64))) ∧
    (s.runs i.core.toNat →
      let a := (s.core i.core.toNat).mAddr i.src1 i.imm
      (a 2 % 2 ≠ 0 → exec (.sh i) s = bad i.core.toNat (a 2)) ∧ (a 4 % 4 ≠ 0 → exec (.sw i) s = bad i.core.toNat (a 4)) ∧
      (a 8 % 8 ≠ 0 → exec (.sd i) s = bad i.core.toNat (a 8)) ∧
      (a 64 % 64 ≠ 0 → exec (.vst i) s = bad i.core.toNat (a 64))) ∧
    (s.runs m.core.toNat →
      let a := ((s.core m.core.toNat).getX m.src1).toNat
      a % 8 = 0 → 2 ^ 18 ≤ a → a < 0x01000000 →
        ∀ i ∈ [Instr.amoadd m, .amoswap m, .amocas m, .amoand m, .amoor m, .amomin m, .amomax m],
          exec i s = .next ((s.issued m.core.toNat).takeExc m.core.toNat ⟨5, 0, a⟩))) ∧
  (∀ (s : State) (o : OpL) (x p : Nat), s.runs o.core.toNat → o.ecc.ue = [] → s.coreOwner o.core.toNat = some p →
    let k := o.core.toNat
    let c := s.core k
    let at_ := fun n : Nat => c.mAddr o.src1 o.imm n % n = 0 ∧ s.scratchT0 k (c.mAddr o.src1 o.imm n) = some x
    let ok := fun n : Nat => at_ n ∧ s.inPart p 0 x n = true ∧ s.poisoned 0 x n = false
    let seen := (s.issued k).noteEcc 0 o.ecc false
    let put := fun w : Word64 => (Host.Outcome.next (seen.retire k (c.setX o.dst w)) : Host.Outcome State Fault Refusal)
    let ext := fun n : Nat => put ((BitVec.ofNat 64 (s.t0Nat x n)))
    (ok 1 → exec (.lb o) s = put ((BitVec.ofNat 8 (s.t0Nat x 1)).signExtend 64) ∧ exec (.lbu o) s = ext 1) ∧
    (ok 2 → exec (.lh o) s = put ((BitVec.ofNat 16 (s.t0Nat x 2)).signExtend 64) ∧ exec (.lhu o) s = ext 2) ∧
    (ok 4 → exec (.lw o) s = put ((BitVec.ofNat 32 (s.t0Nat x 4)).signExtend 64) ∧ exec (.lwu o) s = ext 4) ∧
    (ok 8 → exec (.ld o) s = ext 8) ∧
    (ok 64 → exec (.vld o) s = .next (seen.retire k (c.setV o.dst (BitVec.ofNat 512 (s.t0Nat x 64))))) ∧
    (∀ e ∈ [(Instr.lb o, 1), (.lbu o, 1), (.lh o, 2), (.lhu o, 2), (.lw o, 4), (.lwu o, 4), (.ld o, 8), (.vld o, 64)],
      let a := c.mAddr o.src1 o.imm e.2
      at_ e.2 →
      (s.inPart p 0 x e.2 = true → s.poisoned 0 x e.2 = true → exec e.1 s = .next (seen.takeExc k ⟨6, 0, a⟩)) ∧
      (s.inPart p 0 x e.2 = false → exec e.1 s =
        .next (((s.issued k).violate p 5 (s.rangeReason p 0 x e.2) a).takeExc k ⟨5, 0, a⟩)))) ∧
  (∀ (s : State) (o : OpL), s.runs o.core.toNat → s.variant.tiles ≠ 2 →
    let k := o.core.toNat
    let c := s.core k
    ∀ e ∈ [(Instr.lb o, 1), (.lbu o, 1), (.lh o, 2), (.lhu o, 2), (.lw o, 4), (.lwu o, 4), (.ld o, 8), (.vld o, 64)],
      let a := c.mAddr o.src1 o.imm e.2
      a % e.2 = 0 → 0x200000000 ≤ a → a < 0x200000000 + scratchSize →
        exec e.1 s = s.done k (if e.2 = 64 then c.setV o.dst 0#512 else c.setX o.dst 0#64))

/-- A store of the low 1, 2, 4 or 8 bytes of DATA, or of a vector by VST, to the core's own local memory writes those
bytes little-endian at BASE + size × IMM and no other byte of any memory; only PC and SC_INSTRET change among the
registers (Table 5.5).

A store to the scratch of either tile, in the range of the core's partition, does the same in T0; outside the range it raises
ACCESS and is a violation of source 5, and within a poisoned line it has no effect and counts in mem_poison_write_drop (R136,
R205, R433).

A store to a register of a unit's block that the core's partition owns, at a width that the register takes, is a write of that
register; at another width it raises ACCESS, and so does a store to a block of another partition, which is a violation; one to
a block of a unit that is absent or mapped out has no effect (R4, R136). A push register takes 64 bytes, by VST, or by VSTS or
VSCAT whose lanes, all active, are the 64 bytes of it in order: the descriptor joins the queue of the engine or EU; any other
scalar store raises ACCESS and pushes nothing (R137). -/
def Obligations.StoreLocal : Prop :=
  (∀ (s : State) (o : OpI), s.runs o.core.toNat → s.memOk = true →
    let k := o.core.toNat
    let c := s.core k
    let ok := fun n : Nat => c.mAddr o.src1 o.imm n % n = 0 ∧ c.mAddr o.src1 o.imm n + n ≤ 2 ^ 18
    let stored := fun (i : Instr) (n v : Nat) => ∃ t : State, exec i s = .next t ∧
      t.cores = ((s.issued k).retire k c).cores ∧ t.ctr = (s.issued k).ctr ∧
      t.lmStored s k (c.mAddr o.src1 o.imm n) ((List.range n).map (fun j => BitVec.ofNat 8 (v / 256 ^ j))) ∧
      t.sameButCore s
    (ok 1 → stored (.sb o) 1 (c.getX o.dst).toNat) ∧ (ok 2 → stored (.sh o) 2 (c.getX o.dst).toNat) ∧
      (ok 4 → stored (.sw o) 4 (c.getX o.dst).toNat) ∧ (ok 8 → stored (.sd o) 8 (c.getX o.dst).toNat) ∧
      (ok 64 → stored (.vst o) 64 (c.getV o.dst).toNat)) ∧
  (∀ (s : State) (o : OpI) (x p : Nat), s.runs o.core.toNat → s.memOk = true → s.coreOwner o.core.toNat = some p →
    let k := o.core.toNat
    let c := s.core k
    let at_ := fun n : Nat => c.mAddr o.src1 o.imm n % n = 0 ∧ s.scratchT0 k (c.mAddr o.src1 o.imm n) = some x
    let held := s.poisonAt 0 (granBase 0 x)
    ∀ e ∈ [(Instr.sb o, 1, (c.getX o.dst).toNat), (.sh o, 2, (c.getX o.dst).toNat), (.sw o, 4, (c.getX o.dst).toNat),
        (.sd o, 8, (c.getX o.dst).toNat), (.vst o, 64, (c.getV o.dst).toNat)],
      let i := e.1
      let n := e.2.1
      let a := c.mAddr o.src1 o.imm n
      at_ n →
      (s.inPart p 0 x n = true → held = none → ∃ t : State, exec i s = .next t ∧
        t.cores = ((s.issued k).retire k c).cores ∧ t.ctr = (s.issued k).ctr ∧
        t.t0Stored s x ((List.range n).map (fun j => BitVec.ofNat 8 (e.2.2 / 256 ^ j)))) ∧
      (s.inPart p 0 x n = true → held ≠ none →
        exec i s = .next (((s.issued k).count cMemPoisonWriteDrop 0 1).retire k c)) ∧
      (s.inPart p 0 x n = false → exec i s =
        .next (((s.issued k).violate p 5 (s.rangeReason p 0 x n) a).takeExc k ⟨5, 0, a⟩))) ∧
  (∀ (s : State) (o : OpI) (u : MUnit), s.runs o.core.toNat →
    let k := o.core.toNat
    let c := s.core k
    let y := s.issued k
    let put := fun x : State => (.next (x.retire k (x.core k)) : Host.Outcome State Fault Refusal)
    let ok := s.unitOk (k / 128) u = true ∧ s.coreForeign k u = false
    ∀ e ∈ [(Instr.sb o, 1, (c.getX o.dst).toNat), (.sh o, 2, (c.getX o.dst).toNat), (.sw o, 4, (c.getX o.dst).toNat),
        (.sd o, 8, (c.getX o.dst).toNat), (.vst o, 64, (c.getV o.dst).toNat)],
      let i := e.1
      let n := e.2.1
      let a := c.mAddr o.src1 o.imm n
      a % n = 0 → s.place k a = .unit u →
      (s.unitOk (k / 128) u = false → exec i s = put y) ∧
      (∀ p, s.unitOk (k / 128) u = true → s.coreForeign k u = true → s.coreOwner k = some p → exec i s =
        .next ((y.violate p 5 (if (s.unitOwner u).isSome = true then 0 else 1) a).takeExc k ⟨5, 0, a⟩)) ∧
      (ok → u.isPush = true → n ≠ 64 → exec i s = .next (y.takeExc k ⟨5, 0, a⟩)) ∧
      (∀ m, ok → u = .me m 0 → n = 64 → exec i s = put (y.mePush m k (c.getV o.dst))) ∧
      (∀ m, ok → u = .eu m 0 → n = 64 → exec i s = put (y.euPush m k (c.getV o.dst))) ∧
      (ok → u.isPush = false → unitAccepts u n = true →
        exec i s = put (y.unitWrite (k / 128) u n (e.2.2 % 256 ^ n) (.core o.core))) ∧
      (ok → u.isPush = false → unitAccepts u n = false → exec i s = .next (y.takeExc k ⟨5, 0, a⟩))) ∧
  (∀ (s : State) (o : OpV) (u : MUnit) (a m : Nat), s.runs o.core.toNat →
    let k := o.core.toNat
    let c := s.core k
    let y := s.issued k
    let put := fun x : State => (.next (x.retire k (x.core k)) : Host.Outcome State Fault Refusal)
    let et := o.et.toNat
    ∀ e ∈ [(Instr.vsts o, strideAt c o.src1 o.src2, decide (et ≠ 7)),
        (.vscat o, gatherAt c o.src1 o.src2, decide (et = 0 ∨ et = 3 ∨ et = 6))],
      e.2.2 = true → a % 64 = 0 → s.place k a = .unit u → s.unitOk (k / 128) u = true → s.coreForeign k u = false →
      (∀ l, l < etLanes o.et → laneOn (c.getP o.pred) l = true ∧ e.2.1 l % 2 ^ 64 = a + l * (etWidth o.et / 8)) →
      (u = .me m 0 → exec e.1 s = put (y.mePush m k (c.getV o.dst))) ∧
      (u = .eu m 0 → exec e.1 s = put (y.euPush m k (c.getV o.dst))))

/-- A 64-bit atomic on local memory stores its result at address SRC1 and gives DST the old value; AMOCAS stores SRC2 only
when the old value equals DST's value before the instruction (Table 5.5). On the scratch of the core's own tile, in the range of
its partition and without poison, it does the same in T0; the other tile's scratch takes no atomic, and one there raises ACCESS
(R135).

AMOMIN and AMOMAX compare as signed numbers (the model's reading, log entry 98). -/
def Obligations.AtomicLocal : Prop :=
  (∀ (s : State) (o : OpAmo), s.runs o.core.toNat → s.memOk = true → o.ecc = {} →
    let k := o.core.toNat
    let c := s.core k
    let a := (c.getX o.src1).toNat
    let old := BitVec.ofNat 64 (s.lmNat k a 8)
    let b := c.getX o.src2
    let d := c.getX o.dst
    a % 8 = 0 → a + 8 ≤ 2 ^ 18 → s.lmClean k a 8 →
    let did := fun (i : Instr) (w : Word64) => ∃ t : State, exec i s = .next t ∧
      t.cores = (((s.issued k).lmCounted k o.lce).retire k (c.setX o.dst old)).cores ∧
      t.lmStored s k a ((List.range 8).map (fun j => BitVec.ofNat 8 (w.toNat / 256 ^ j))) ∧ t.sameButCore s
    did (.amoadd o) (old + b) ∧ did (.amoswap o) b ∧ did (.amocas o) (if old = d then b else old) ∧
      did (.amoand o) (old &&& b) ∧ did (.amoor o) (old ||| b) ∧
      did (.amomin o) (if old.toInt ≤ b.toInt then old else b) ∧ did (.amomax o) (if old.toInt ≤ b.toInt then b else old)) ∧
  (∀ (s : State) (o : OpAmo) (x p : Nat), s.runs o.core.toNat → s.memOk = true → o.ecc.ue = [] →
    s.coreOwner o.core.toNat = some p →
    let k := o.core.toNat
    let c := s.core k
    let a := (c.getX o.src1).toNat
    let old := BitVec.ofNat 64 (s.t0Nat x 8)
    let b := c.getX o.src2
    let d := c.getX o.dst
    let seen := (s.issued k).noteEcc 0 o.ecc false
    a % 8 = 0 → s.scratchT0 k a = some x →
    let did := fun (i : Instr) (w : Word64) => ∃ t : State, exec i s = .next t ∧
      t.cores = (seen.retire k (c.setX o.dst old)).cores ∧ t.ctr = seen.ctr ∧
      t.t0Stored s x ((List.range 8).map (fun j => BitVec.ofNat 8 (w.toNat / 256 ^ j)))
    (a < 0x200000000 → s.inPart p 0 x 8 = true → s.poisoned 0 x 8 = false →
      did (.amoadd o) (old + b) ∧ did (.amoswap o) b ∧ did (.amocas o) (if old = d then b else old) ∧
      did (.amoand o) (old &&& b) ∧ did (.amoor o) (old ||| b) ∧
      did (.amomin o) (if old.toInt ≤ b.toInt then old else b) ∧ did (.amomax o) (if old.toInt ≤ b.toInt then b else old)) ∧
    (0x200000000 ≤ a → ∀ i ∈ [Instr.amoadd o, .amoswap o, .amocas o, .amoand o, .amoor o, .amomin o, .amomax o],
      exec i s = .next ((s.issued k).takeExc k ⟨5, 0, a⟩)))

/-! ### Steward cores: vectors -/

/-- What a vector instruction writes: lane i is the computed value where bit i of the predicate is 1, and elsewhere zero
under ZM = 1 and the old lane under ZM = 0 (R132). -/
def Obligations.LanesUnderPredicate : Prop :=
  ∀ (et : BitVec 3) (zm : Bool) (p : Word64) (old : Vec) (f : Nat → Nat) (i : Nat), et ≠ 7#3 → i < etLanes et →
    laneOf (mapLanes et zm p old f) (etWidth et) i =
      (if p.getLsbD i then f i % 2 ^ etWidth et else if zm then 0 else laneOf old (etWidth et) i)

/-- VLDS and VGATH load each active lane from SRC1 + i × x[SRC2], or from SRC1 + lane i of SRC2 as an INT32 byte offset;
VLDS takes any element type, VGATH ET 0, 3 or 6 and raises BAD_FORMAT else (Table 5.5). Here the active lanes lie in the
core's own local memory.

VSTS and VSCAT of one active lane store that lane's bytes at its address and nothing else (R132, Table 5.5): an
inactive lane writes no byte. Here the lane lies in the core's own local memory.

The INT32 offset of a wider lane is the model's reading (log entry 32). -/
def Obligations.VectorMemory : Prop :=
  (∀ (s : State) (o : OpVL), s.runs o.core.toNat → o.ecc = {} →
    let k := o.core.toNat
    let c := s.core k
    let w := etWidth o.et
    let p := c.getP o.pred
    let stride := fun i : Nat => ((c.getX o.src1).toNat + i * (c.getX o.src2).toNat) % 2 ^ 64
    let gather := fun i : Nat =>
      (c.getX o.src1 + ((c.getV o.src2).extractLsb' (32 * i) 32).signExtend 64).toNat
    let ok := fun at_ : Nat → Nat => ∀ i, i < etLanes o.et → p.getLsbD i = true →
      at_ i % (w / 8) = 0 ∧ at_ i + w / 8 ≤ 2 ^ 18 ∧ s.lmClean k (at_ i) (w / 8)
    let loaded := fun (i : Instr) (at_ : Nat → Nat) => ∃ t : State, exec i s = .next t ∧
      t.cores = ((s.issued k).retire k (c.setV o.dst (mapLanes o.et o.zm p (c.getV o.dst)
        (fun i => s.lmNat k (at_ i) (w / 8))))).cores ∧ t.lmem = s.lmem ∧ t.sameButCore s
    (o.et ≠ 7#3 → ok stride → loaded (.vlds o) stride) ∧ (o.et = 7#3 → exec (.vlds o) s = s.trap k 1) ∧
      ((o.et = 0#3 ∨ o.et = 3#3 ∨ o.et = 6#3) → ok gather → loaded (.vgath o) gather) ∧
      (¬(o.et = 0#3 ∨ o.et = 3#3 ∨ o.et = 6#3) → exec (.vgath o) s = s.trap k 2)) ∧
  (∀ (s : State) (o : OpV) (j : Nat), s.runs o.core.toNat → s.memOk = true → j < etLanes o.et →
    let k := o.core.toNat
    let c := s.core k
    let w := etWidth o.et
    let p := c.getP o.pred
    let stride := ((c.getX o.src1).toNat + j * (c.getX o.src2).toNat) % 2 ^ 64
    let gather := (c.getX o.src1 + ((c.getV o.src2).extractLsb' (32 * j) 32).signExtend 64).toNat
    (∀ i, i < etLanes o.et → (p.getLsbD i = true ↔ i = j)) →
    let ok := fun a : Nat => a % (w / 8) = 0 ∧ a + w / 8 ≤ 2 ^ 18
    let stored := fun (i : Instr) (a : Nat) => ∃ t : State, exec i s = .next t ∧
      t.cores = ((s.issued k).retire k c).cores ∧ t.ctr = (s.issued k).ctr ∧
      t.lmStored s k a ((List.range (w / 8)).map (fun b => BitVec.ofNat 8 (laneOf (c.getV o.dst) w j / 256 ^ b))) ∧
      t.sameButCore s
    (o.et ≠ 7#3 → ok stride → stored (.vsts o) stride) ∧ (o.et = 7#3 → exec (.vsts o) s = s.trap k 1) ∧
      ((o.et = 0#3 ∨ o.et = 3#3 ∨ o.et = 6#3) → ok gather → stored (.vscat o) gather) ∧
      (¬(o.et = 0#3 ∨ o.et = 3#3 ∨ o.et = 6#3) → exec (.vscat o) s = s.trap k 2))

/-- The integer lane functions of OP 0x30 (Table 5.5), on lanes as two's complement or unsigned numbers; an element type
that is no integer type raises ILLEGAL. VDOT4 needs ET 3. The absolute value of the most negative lane, and a lane shift
by the lane width or more, are open values (log entries 26 and 27). -/
def Obligations.VectorInteger : Prop :=
  ∀ (s : State) (o : OpV), s.runs o.core.toNat →
    let k := o.core.toNat
    let c := s.core k
    let w := etWidth o.et
    let u := fun (r : BitVec 5) (i : Nat) => laneOf (c.getV r) w i
    let x := fun (r : BitVec 5) (i : Nat) => sext w (u r i)
    let put := fun f : Nat → Nat =>
      s.done k (c.setV o.dst (mapLanes o.et o.zm (c.getP o.pred) (c.getV o.dst) f))
    let int := fun f : Nat → Int => put (fun i => wrap w (f i))
    let shift := fun (op : Nat) (f : Nat → Nat) => put (fun i =>
      if w ≤ u o.src2 i then Config.vshiftOver op w (u o.src1 i) (u o.src2 i) else f i)
    let h : Int := 2 ^ (w - 1)
    ((o.et = 3#3 ∨ o.et = 4#3 ∨ o.et = 5#3 ∨ o.et = 6#3) →
      exec (.vadd o) s = put (fun i => u o.src1 i + u o.src2 i) ∧
      exec (.vsub o) s = int (fun i => x o.src1 i - x o.src2 i) ∧
      exec (.vmul o) s = put (fun i => u o.src1 i * u o.src2 i) ∧
      exec (.vmin o) s = int (fun i => min (x o.src1 i) (x o.src2 i)) ∧
      exec (.vmax o) s = int (fun i => max (x o.src1 i) (x o.src2 i)) ∧
      exec (.vminu o) s = put (fun i => min (u o.src1 i) (u o.src2 i)) ∧
      exec (.vmaxu o) s = put (fun i => max (u o.src1 i) (u o.src2 i)) ∧
      exec (.vand o) s = put (fun i => u o.src1 i &&& u o.src2 i) ∧
      exec (.vor o) s = put (fun i => u o.src1 i ||| u o.src2 i) ∧
      exec (.vxor o) s = put (fun i => u o.src1 i ^^^ u o.src2 i) ∧
      exec (.vsll o) s = shift 9 (fun i => u o.src1 i * 2 ^ u o.src2 i) ∧
      exec (.vsrl o) s = shift 10 (fun i => u o.src1 i / 2 ^ u o.src2 i) ∧
      exec (.vsra o) s = shift 11 (fun i => wrap w (x o.src1 i / 2 ^ u o.src2 i)) ∧
      exec (.vabs o) s = put (fun i => if x o.src1 i = -h then Config.vabsMin w else (x o.src1 i).natAbs) ∧
      exec (.vadds o) s = int (fun i => max (-h) (min (h - 1) (x o.src1 i + x o.src2 i)))) ∧
    (¬(o.et = 3#3 ∨ o.et = 4#3 ∨ o.et = 5#3 ∨ o.et = 6#3) →
      ∀ i ∈ [Instr.vadd o, .vsub o, .vmul o, .vmin o, .vmax o, .vminu o, .vmaxu o, .vand o, .vor o, .vxor o, .vsll o,
        .vsrl o, .vsra o, .vabs o, .vadds o, .vdot4 o], exec i s = s.trap k 1) ∧
    (o.et = 3#3 →
      let m := fun (i j : Nat) =>
        sext 8 (laneOf (c.getV o.src1) 8 (4 * i + j)) * sext 8 (laneOf (c.getV o.src2) 8 (4 * i + j))
      exec (.vdot4 o) s = int (fun i => sext 32 (u o.dst i) + m i 0 + m i 1 + m i 2 + m i 3)) ∧
    (o.et ≠ 3#3 → exec (.vdot4 o) s = s.trap k 1)

/-- The FP lane functions of OP 0x31 and OP 0x32: each active lane gets the exact result rounded once to the element type
under SC_FRM (R134), the flags of the active lanes join SC_FFLAGS, an ET that is no FP type raises ILLEGAL, and SC_FRM
above 3 raises BAD_ROUNDING in those that round. VFMA, VFMS and VFNMA add to or subtract from the product (Table 5.5). -/
def Obligations.VectorFloat : Prop :=
  ∀ (s : State) (o : OpV), s.runs o.core.toNat →
    let k := o.core.toNat
    let c := s.core k
    let w := etWidth o.et
    let fm := etFmt o.et
    let p := c.getP o.pred
    let a := fun i : Nat => laneOf (c.getV o.src1) w i
    let b := fun i : Nat => laneOf (c.getV o.src2) w i
    let d := fun i : Nat => laneOf (c.getV o.dst) w i
    let put := fun f : Nat → FRes =>
      s.done k { c.setV o.dst (mapLanes o.et o.zm p (c.getV o.dst) (fun i => (f i).bits)) with
        fflags := c.fflags ||| BitVec.ofNat 5 (laneFlags o.et p (fun i => (f i).flags)) }
    let rounded := fun (i : Instr) (f : Rnd → Nat → FRes) => (∀ r : Rnd, c.rnd = some r → exec i s = put (f r)) ∧
      (3 < c.frm.toNat → exec i s = s.trap k 3)
    (o.et.toNat ≤ 2 →
      rounded (.vfadd o) (fun r i => fAdd .payload fm r (a i) (b i)) ∧
      rounded (.vfsub o) (fun r i => fSub .payload fm r (a i) (b i)) ∧
      rounded (.vfmul o) (fun r i => fMul .payload fm r (a i) (b i)) ∧
      rounded (.vfdiv o) (fun r i => fDiv .payload fm r (a i) (b i)) ∧
      rounded (.vfsqrt o) (fun r i => fSqrt .payload fm r (a i)) ∧
      exec (.vfmin o) s = put (fun i => fMinMax fm false (a i) (b i)) ∧
      exec (.vfmax o) s = put (fun i => fMinMax fm true (a i) (b i)) ∧
      exec (.vfabs o) s = put (fun i => ⟨fAbs fm (a i), 0⟩) ∧ exec (.vfneg o) s = put (fun i => ⟨fNeg fm (a i), 0⟩) ∧
      rounded (.vfma o) (fun r i => fFmaS false false fm r (a i) (b i) (d i)) ∧
      rounded (.vfms o) (fun r i => fFmaS false true fm r (a i) (b i) (d i)) ∧
      rounded (.vfnma o) (fun r i => fFmaS true false fm r (a i) (b i) (d i))) ∧
    (2 < o.et.toNat → ∀ i ∈ [Instr.vfadd o, .vfsub o, .vfmul o, .vfdiv o, .vfsqrt o, .vfmin o, .vfmax o, .vfabs o,
      .vfneg o, .vfma o, .vfms o, .vfnma o], exec i s = s.trap k 1)

/-- VCVT (R142): each lane of the source chunk converts under the rounding code RND, code 4 with the random value of R62; a
wider result fills DST from chunk PART of SRC1, a narrower one fills chunk PART of DST and leaves its other lanes. VCVTB
(R143): BS16, RQ8 and MX decode into FP32 lanes, and encode from them. The IEEE flags of the lanes join SC_FFLAGS (R134), what
was saturated counts for the core's partition (R71), and nothing else changes. A code, PART, register or rounding that the
form does not admit raises its exception. Where BS16 leaves int16, or RQ8 has a bad scale, the lane is open (log entry 28).

Which exception a reserved field and a format that the form does not take raise, what keys a lane's random value, the flags of
VCVTB, the payload bits that a NaN keeps in a conversion and the codes of an encoded MX block with a NaN are the model's
readings (log entries 30, 16, 154, 152, 151). -/
def Obligations.Conversions : Prop :=
  ∀ (s : State) (o : OpC) (obj : Half) (elem : Nat), s.runs o.core.toNat →
    let k := o.core.toNat
    let c := s.core k
    let fr := o.from_.toNat
    let g := o.to_.toNat
    let part := o.part.toNat
    let aux := (c.getX o.from_).toNat
    let vcvt := Instr.vcvt ⟨o, obj, elem⟩
    let src := fun (w i : Nat) => laneOf (c.getV o.src1) w i
    let pair := fun i : Nat => laneOf (c.getV (if i < 16 then o.src1 else o.src1 + 1#5)) 32 (i % 16)
    let all := fun (n : Nat) (f : Nat → Nat) => ((List.range n).map f).foldl (· ||| ·) 0
    let wrote := fun (i : Instr) (c' : Core) (fl : Nat) (cnt : ArithCnt) => exec i s = .next
      (((s.issued k).retire k { c' with fflags := c.fflags ||| BitVec.ofNat 5 fl }).countArith (s.byPart k) cnt)
    let both := fun f : Nat → Nat => (c.setV o.dst (ofLanes 32 ((List.range 16).map f))).setV (o.dst + 1#5)
      (ofLanes 32 ((List.range 16).map (fun i => f (16 + i))))
    let check := vcvtbCheck g part (o.rnd.getLsbD 0) (o.src1.getLsbD 0) (o.dst.getLsbD 0)
    (∀ e, vcvtCheck fr g o.rnd.toNat part = some e → exec vcvt s = .next ((s.issued k).takeExc k e)) ∧
    (vcvtCheck fr g o.rnd.toNat part = none →
      let w := codeWidth fr
      let v := codeWidth g
      let n := 512 / max w v
      let first := if w < v then part * n else 0
      let lo := if v < w then part * n else 0
      let srOn := s.dnum 0x201003 == 1
      let rnd := fun i : Nat => if o.rnd.toNat = 4 then (if srOn then Rnd.sr (srRandom s.stepId
        (s.byPart k * 65536 + obj.toNat) (s.dnum 0x201002) (elem + i)) else .rne) else Rnd.ofCode o.rnd.toNat
      let one := fun i : Nat => cvtCore (s.dnum 0x201001 == 1) (rnd i) fr g (src w (first + i))
      let sr := if o.rnd.toNat = 4 ∧ srOn = false then 1 else 0
      ∃ d : Vec, wrote vcvt (c.setV o.dst d) (all n (fun i => cvtFlags (rnd i) fr g (src w (first + i))))
        ((Counted.mapL one (List.range n)).cnt.add { srDemoted := sr }) ∧
        ∀ j, j < 512 / v → laneOf d v j =
          (if lo ≤ j ∧ j < lo + n then (one (j - lo)).val % 2 ^ v else laneOf (c.getV o.dst) v j)) ∧
    (∀ e, check = some e → exec (.vcvtb o) s = .next ((s.issued k).takeExc k e)) ∧
    (check = none → o.rnd.getLsbD 0 = true →
      (g = 16 → wrote (.vcvtb o) (both (fun i => bsDecode (aux % 256) (sext 16 (src 16 i))))
        (all 32 (fun i => bsDecFlags (aux % 256) (sext 16 (src 16 i)))) {}) ∧
      (g = 17 → wrote (.vcvtb o) (c.setV o.dst (ofLanes 32 ((List.range 16).map (fun i =>
        rq8Dec (aux % 65536) (sext 8 (aux / 65536)) (src 8 (16 * part + i))))))
        (all 16 (fun i => rq8DecFlags (aux % 65536) (sext 8 (aux / 65536)) (src 8 (16 * part + i)))) {}) ∧
      (5 ≤ g → g ≤ 10 → wrote (.vcvtb o) (both (fun i => (mxCoreElem g (aux % 256) (src (codeWidth g) i)).bits))
        (all 32 (fun i => (mxCoreElem g (aux % 256) (src (codeWidth g) i)).flags)) {})) ∧
    (check = none → o.rnd.getLsbD 0 = false →
      (g = 16 → let q := Counted.mapL (fun i => bs16Code (aux % 256) (pair i)) (List.range 32)
        wrote (.vcvtb o) (c.setV o.dst (ofLanes 16 q.val)) (all 32 (fun i => bs16Flags (aux % 256) (pair i))) q.cnt) ∧
      (g = 17 →
        let ok := rq8ScaleOk (aux % 65536)
        let one := fun i : Nat => if ok then rq8Elem (aux % 65536) (sext 8 (aux / 65536)) (src 32 i)
          else ⟨Config.rq8BadScale (aux % 65536) (aux / 65536 % 256) (src 32 i), {}⟩
        ∃ d : Vec, wrote (.vcvtb o) (c.setV o.dst d) (all 16 (fun i =>
          if ok then rq8EncFlags (aux % 65536) (sext 8 (aux / 65536)) (src 32 i)
          else Config.rq8BadFlags (aux % 65536) (aux / 65536 % 256) (src 32 i))) (Counted.mapL one (List.range 16)).cnt ∧
          ∀ j, j < 64 → laneOf d 8 j = (if 16 * part ≤ j ∧ j < 16 * part + 16 then (one (j - 16 * part)).val % 256
            else laneOf (c.getV o.dst) 8 j)) ∧
      (5 ≤ g → g ≤ 10 → let q := mxEncode g ((List.range 32).map pair)
        wrote (.vcvtb o) ((c.setV o.dst (BitVec.ofNat 512 (packElems (codeWidth g) q.val.2))).setX o.from_
          (BitVec.ofNat 64 q.val.1)) (mxBlockFlags g q.val.1 ((List.range 32).map pair)) q.cnt))

/-- The reductions over the active lanes (Table 5.5, R144): on integers VSUM adds modulo the lane, VRMIN and VRMAX take the
least and greatest as signed numbers, VRMINU and VRMAXU as unsigned ones, VRAND and VROR combine their bits, and the scalar is
sign-extended; on FP lanes VSUM rounds each sum of the pairwise tree, VRMIN and VRMAX combine as the scalar instructions, and
the scalar holds the element's bits; ET 7 raises ILLEGAL.

That a NaN lane gives way in VRMIN and VRMAX, and that VRMINU and VRMAXU take FP lanes as unsigned bit patterns, are the
model's readings (log entries 185, 155). -/
def Obligations.Reductions : Prop :=
  ∀ (s : State) (o : OpV), s.runs o.core.toNat →
    let k := o.core.toNat
    let c := s.core k
    let w := etWidth o.et
    let fm := etFmt o.et
    let p := c.getP o.pred
    let u := fun i : Nat => laneOf (c.getV o.src1) w i
    let act := (List.range (etLanes o.et)).filter (fun i => p.getLsbD i)
    let put := fun n : Nat => s.done k (c.setX o.dst (BitVec.ofInt 64 (sext w (n % 2 ^ w))))
    let fp := fun (ident : Nat) (f : Nat → Nat → FRes) =>
      let x := reduceLanes o.et p (c.getV o.src1) ⟨ident, 0⟩ (joinF f)
      s.done k { c.setX o.dst (BitVec.ofNat 64 x.bits) with fflags := c.fflags ||| BitVec.ofNat 5 x.flags }
    ((o.et = 3#3 ∨ o.et = 4#3 ∨ o.et = 5#3 ∨ o.et = 6#3) →
      exec (.vsum o) s = put ((act.map u).foldl (· + ·) 0) ∧
      exec (.vrmin o) s = put (wrap w ((act.map (fun i => sext w (u i))).foldl min (2 ^ (w - 1) - 1))) ∧
      exec (.vrmax o) s = put (wrap w ((act.map (fun i => sext w (u i))).foldl max (-(2 ^ (w - 1))))) ∧
      exec (.vrand o) s = put ((act.map u).foldl (· &&& ·) (2 ^ w - 1)) ∧
      exec (.vror o) s = put ((act.map u).foldl (· ||| ·) 0) ∧
      exec (.vrminu o) s = put ((act.map u).foldl min (2 ^ w - 1)) ∧
      exec (.vrmaxu o) s = put ((act.map u).foldl max 0)) ∧
    (o.et.toNat ≤ 2 →
      (∀ r : Rnd, c.rnd = some r → exec (.vsum o) s = fp 0 (fun a b => fAdd .payload fm r a b)) ∧
      (3 < c.frm.toNat → exec (.vsum o) s = s.trap k 3) ∧
      exec (.vrmin o) s = fp fm.infBits (fun a b => fMinMax fm false a b) ∧
      exec (.vrmax o) s = fp (withSign fm true fm.infBits) (fun a b => fMinMax fm true a b) ∧
      exec (.vrand o) s = s.done k (c.setX o.dst (BitVec.ofNat 64 ((act.map u).foldl (· &&& ·) (2 ^ w - 1)))) ∧
      exec (.vror o) s = s.done k (c.setX o.dst (BitVec.ofNat 64 ((act.map u).foldl (· ||| ·) 0))) ∧
      exec (.vrminu o) s = s.done k (c.setX o.dst (BitVec.ofNat 64 ((act.map u).foldl min (2 ^ w - 1)))) ∧
      exec (.vrmaxu o) s = s.done k (c.setX o.dst (BitVec.ofNat 64 ((act.map u).foldl max 0)))) ∧
    (o.et = 7#3 → ∀ i ∈ [Instr.vsum o, .vrmin o, .vrmax o, .vrand o, .vror o, .vrminu o, .vrmaxu o],
      exec i s = s.trap k 1)

/-- Compares set bit i of predicate DST to the compare of lane i, 0 for an inactive lane and above the lane count; a
destination that names no predicate, or ET 7, raises ILLEGAL; FP compares are false on NaN, except VCNE (Table 5.5). The flags of
the active FP lanes join SC_FFLAGS (R134), and nothing else changes.

That a compare signals on a signalling NaN only, and that an unsigned compare of FP lanes takes their bits as unsigned
numbers, are the model's readings (log entries 25, 155). -/
def Obligations.VectorCompares : Prop :=
  ∀ (s : State) (o : OpV), s.runs o.core.toNat →
    let k := o.core.toNat
    let c := s.core k
    let w := etWidth o.et
    let fm := etFmt o.et
    let fp := decide (o.et.toNat ≤ 2)
    let a := fun i : Nat => laneOf (c.getV o.src1) w i
    let b := fun i : Nat => laneOf (c.getV o.src2) w i
    let nan := fun i : Nat => (unpack fm (a i)).isNan || (unpack fm (b i)).isNan
    let all := [Instr.vceq o, .vcne o, .vclt o, .vcle o, .vcltu o, .vcleu o]
    let fl := if fp then laneFlags o.et (c.getP o.pred) (fun i => snanFlag fm [a i, b i]) else 0
    let gives := fun (i : Instr) (f : Nat → Bool) => ∃ m : Word64,
      exec i s = s.done k { c.setP (o.dst.truncate 3) m with fflags := c.fflags ||| BitVec.ofNat 5 fl } ∧
      ∀ j : Nat, m.getLsbD j = (decide (j < etLanes o.et) && (c.getP o.pred).getLsbD j && f j)
    (o.dst.toNat < 8 → o.et ≠ 7#3 →
      gives (.vceq o) (fun i => if fp then fEq fm (a i) (b i) else decide (a i = b i)) ∧
      gives (.vcne o) (fun i => if fp then !fEq fm (a i) (b i) else decide (a i ≠ b i)) ∧
      gives (.vclt o) (fun i => if fp then fLt fm (a i) (b i) else decide (sext w (a i) < sext w (b i))) ∧
      gives (.vcle o) (fun i => if fp then fLe fm (a i) (b i) else decide (sext w (a i) ≤ sext w (b i))) ∧
      gives (.vcltu o) (fun i => !(fp && nan i) && decide (a i < b i)) ∧
      gives (.vcleu o) (fun i => !(fp && nan i) && decide (a i ≤ b i)) ∧
      (fp = true → ∀ i, nan i = true → fEq fm (a i) (b i) = false ∧ fLt fm (a i) (b i) = false ∧
        fLe fm (a i) (b i) = false)) ∧
    (8 ≤ o.dst.toNat → ∀ i ∈ all, exec i s = s.trap k 1) ∧ (o.et = 7#3 → ∀ i ∈ all, exec i s = s.trap k 1)

/-- The permutations of OP 0x37 (Table 5.5): VBCAST copies x[SRC1] to the active lanes, VSHUF picks lanes, VSLUP and VSLDN
slide with zeros in the vacated lanes, VINS and VEXT reach one lane; ET 7 raises ILLEGAL.

Predicate logic of OP 0x39 (Table 5.5): a field that names a predicate with its upper bits not zero raises ILLEGAL
(R140).

That PANDN complements SRC2 is the model's reading (log entry 29). VINS and VEXT of a lane number at or above
the lane count are open and not stated (log entry 31). -/
def Obligations.PermutationsAndPredicates : Prop :=
  (∀ (s : State) (o : OpV), s.runs o.core.toNat →
    let k := o.core.toNat
    let c := s.core k
    let w := etWidth o.et
    let n := (c.getX o.src2).toNat
    let lanes := etLanes o.et
    let a := fun i : Nat => laneOf (c.getV o.src1) w i
    let put := fun f : Nat → Nat =>
      s.done k (c.setV o.dst (mapLanes o.et o.zm (c.getP o.pred) (c.getV o.dst) f))
    (o.et ≠ 7#3 →
      exec (.vbcast o) s = put (fun _ => (c.getX o.src1).toNat) ∧
      exec (.vshuf o) s = put (fun i => a (laneOf (c.getV o.src2) w i % lanes)) ∧
      exec (.vslup o) s = put (fun i => if n ≤ i then a (i - n) else 0) ∧
      exec (.vsldn o) s = put (fun i => if i + n < lanes then a (i + n) else 0) ∧
      (n < lanes →
        exec (.vins o) s = put (fun i => if i = n then (c.getX o.src1).toNat else laneOf (c.getV o.dst) w i) ∧
        exec (.vext o) s = s.done k (c.setX o.dst (if o.et.toNat ≤ 2 then BitVec.ofNat 64 (a n)
          else BitVec.ofInt 64 (sext w (a n)))))) ∧
    (o.et = 7#3 → ∀ i ∈ [Instr.vbcast o, .vshuf o, .vslup o, .vsldn o, .vins o, .vext o], exec i s = s.trap k 1)) ∧
  (∀ (s : State) (o : OpA), s.runs o.core.toNat →
    let k := o.core.toNat
    let c := s.core k
    let d := o.dst.truncate 3
    let a := c.getP (o.src1.truncate 3)
    let b := c.getP (o.src2.truncate 3)
    let x := c.getX o.src1
    let putP := fun w : Word64 => s.done k (c.setP d w)
    let putX := fun w : Word64 => s.done k (c.setX o.dst w)
    (o.dst.toNat < 8 → o.src1.toNat < 8 → o.src2.toNat < 8 → exec (.pand o) s = putP (a &&& b) ∧
      exec (.por o) s = putP (a ||| b) ∧ exec (.pxor o) s = putP (a ^^^ b) ∧ exec (.pandn o) s = putP (a &&& ~~~b)) ∧
    ((8 ≤ o.dst.toNat ∨ 8 ≤ o.src1.toNat ∨ 8 ≤ o.src2.toNat) →
      ∀ i ∈ [Instr.pand o, .por o, .pxor o, .pandn o], exec i s = s.trap k 1) ∧
    (o.dst.toNat < 8 → exec (.pmovp o) s = putP x ∧
      ∃ m : Word64, exec (.pfirst o) s = putP m ∧ ∀ i : Nat, i < 64 → m.getLsbD i = decide (i < x.toNat)) ∧
    (8 ≤ o.dst.toNat → exec (.pmovp o) s = s.trap k 1 ∧ exec (.pfirst o) s = s.trap k 1) ∧
    (o.src1.toNat < 8 → exec (.pmovx o) s = putX a ∧
      exec (.pcnt o) s = putX (BitVec.ofNat 64 ((List.range 64).countP (fun i => a.getLsbD i)))) ∧
    (8 ≤ o.src1.toNat → exec (.pmovx o) s = s.trap k 1 ∧ exec (.pcnt o) s = s.trap k 1))

/-! ### Steward cores: waits, mailboxes, control, exceptions -/

/-- FENCE.LOCAL, FENCE.TILE and FENCE.ALL complete (every earlier access has taken effect); WEDGE waits for the next tick
edge; WTICK waits while (x[SRC1] − SC_TICK) modulo 2^48 lies in 1 to 2^47 − 1 and otherwise completes at once (R138,
R151).

WFENCE completes when (value − awaited) modulo 2^32 is below 2^31 (R116) and waits else; a fence number above 1,023
and a fence of another
partition's range raise ACCESS (R152).

BAR at a barrier of the core's partition (R153): with count 0 it completes at once; an arrival below the count waits;
the last arrival completes, the arrival count returns to 0 and every core waiting there is released.

A write to BAR_CNT of the requester's partition sets the count while no core has arrived, and is ignored and counted in
sc_bar_busy_write during a round (R153); the tile must be present.

That an ignored write by a host or the MC counts at core 128 × t, and that a WFENCE on another partition's fence counts no
violation, are the model's readings (log entries 100, 186). -/
def Obligations.WaitsAndBarriers : Prop :=
  (∀ (s : State) (o : OpA), s.runs o.core.toNat →
    let k := o.core.toNat
    let c := s.core k
    let d := (BitVec.ofNat 48 (c.getX o.src1).toNat - BitVec.ofNat 48 s.clk.seen).toNat
    let waits := fun w : Wait => (Host.Outcome.next ((s.issued k).setCore k
      { c with mode := .waiting, wait := some w, waited := 0 }) : Host.Outcome State Fault Refusal)
    exec (.fenceLocal o) s = s.done k c ∧ exec (.fenceTile o) s = s.done k c ∧ exec (.fenceAll o) s = s.done k c ∧
      exec (.wedge o) s = waits .edge ∧
      exec (.wtick o) s = if 1 ≤ d ∧ d < 2 ^ 47 then waits (.tick ((c.getX o.src1).toNat % 2 ^ 48)) else s.done k c) ∧
  (∀ (s : State) (o : OpA), s.runs o.core.toNat →
    let k := o.core.toNat
    let c := s.core k
    let f := (c.getX o.src1).toNat
    let v := (c.getX o.src2).truncate 32
    let ahead := (BitVec.ofNat 32 (s.fenceVal (k / 128) f) - v).toNat
    (∀ p, s.fenceOwner f = some p → s.coreOwner k ≠ some p → exec (.wfence o) s = s.trap k 5) ∧
    (1023 < f → exec (.wfence o) s = s.trap k 5) ∧
    (f ≤ 1023 → (s.fenceOwner f = none ∨ s.fenceOwner f = s.coreOwner k) → ahead < 2 ^ 31 → exec (.wfence o) s = s.done k c) ∧
    (f ≤ 1023 → (s.fenceOwner f = none ∨ s.fenceOwner f = s.coreOwner k) → 2 ^ 31 ≤ ahead →
      exec (.wfence o) s = .next ((s.issued k).setCore k { c with mode := .waiting, wait := some (.fence f v.toNat), waited := 0 }))) ∧
  (∀ (s : State) (o : OpA), s.runs o.core.toNat →
    let k := o.core.toNat
    let c := s.core k
    let b := (c.getX o.src1).toNat
    let x := s.bar (k / 128) b
    b ≤ 63 → s.coreOwner k = some (b / 16) →
    (x.count = 0 → exec (.bar o) s = s.done k c) ∧
    (x.arrived + 1 < x.count → exec (.bar o) s = .next (((s.issued k).setBar (k / 128) b
      { x with arrived := x.arrived + 1 }).setCore k { c with mode := .waiting, wait := some (.bar b), waited := 0 })) ∧
    (x.count ≠ 0 → x.count ≤ x.arrived + 1 → exec (.bar o) s = .next
      ((((s.issued k).setBar (k / 128) b { x with arrived := 0 }).retire k c).resumeCores
        (fun j d => decide (j / 128 = k / 128) && decide (d.wait = some (.bar b)))))) ∧
  (∀ (s : State) (o : BarOp), s.reachesUnit o.req o.tile.toNat (some (o.b.toNat / 16)) → o.tile.toNat < s.variant.tiles →
    let t := o.tile.toNat
    let b := o.b.toNat
    let n := o.value.toNat % 256
    ((s.bar t b).arrived = 0 → n ≤ 128 →
      exec (.barCntWrite o) s = .next (s.setBar t b { s.bar t b with count := n })) ∧
    ((s.bar t b).arrived ≠ 0 → exec (.barCntWrite o) s = .next (s.count cScBarBusyWrite
      (match o.req with | .core j => j.toNat | _ => 128 * t) 1)))

/-- RECV takes the oldest mailbox entry into DST, or waits while the mailbox is empty; TRYRECV writes 0 then (R147). SEND
delivers the low 32 bits of SRC2 with source kind 4 and the sender's number, and writes 0; 1 when the target is full; 2
when it is absent, mapped out, above 255 or in another partition, and then nothing is delivered (R149).

A mailbox entry holds the payload in [31:0], the source kind in [34:32] and the source unit in [42:35], and joins a
mailbox of fewer than 64 entries last; a full mailbox drops it, sets OVF and counts sc_mbx_overflow (R147, R148). A core that
waits in RECV takes it into DST at once, past that instruction; the mailbox of any other core takes it, running, halted, faulted
or waiting for something else (R147). -/
def Obligations.Mailboxes : Prop :=
  (∀ (s : State) (o : OpA), s.runs o.core.toNat →
    let k := o.core.toNat
    let c := s.core k
    let n := (c.getX o.src1).toNat
    let sent := fun r : Word64 => (s.issued k).retire k (c.setX o.dst r)
    (∀ w q, c.mbx = w :: q → exec (.recv o) s = s.done k ({ c with mbx := q }.setX o.dst w) ∧
      exec (.tryrecv o) s = s.done k ({ c with mbx := q }.setX o.dst w)) ∧
    (c.mbx = [] → exec (.recv o) s = .next ((s.issued k).setCore k
        { c with mode := .waiting, wait := some (.recv o.dst), waited := 0 }) ∧
      exec (.tryrecv o) s = s.done k (c.setX o.dst 0#64)) ∧
    (n ≤ 255 → s.coreOk n = true → s.coreOwner n = s.coreOwner k → (s.core n).mbx.length < 64 →
      exec (.send o) s = .next ((sent 0#64).mbxPost n 4 k ((c.getX o.src2).toNat % 2 ^ 32))) ∧
    (n ≤ 255 → s.coreOk n = true → s.coreOwner n = s.coreOwner k → 64 ≤ (s.core n).mbx.length →
      exec (.send o) s = .next (sent 1#64)) ∧
    ((255 < n ∨ s.coreOk n = false ∨ s.coreOwner n ≠ s.coreOwner k) → exec (.send o) s = .next (sent 2#64))) ∧
  (∀ (s : State) (k kind unit payload : Nat), ((s.core k).mode = .waiting → ∀ d, (s.core k).wait ≠ some (.recv d)) →
    kind < 8 → unit < 256 → payload < 2 ^ 32 →
    let c := s.core k
    (c.mbx.length < 64 → s.mbxPost k kind unit payload = s.setCore k { c with mbx := c.mbx ++
      [BitVec.ofNat 64 payload ||| (BitVec.ofNat 64 kind <<< 32) ||| (BitVec.ofNat 64 unit <<< 35)] }) ∧
    (64 ≤ c.mbx.length → s.mbxPost k kind unit payload =
      (let t := (s.setCore k { c with ovf := true }).count cScMbxOverflow k 1
       if c.ovf = true then t else t.raise 0x2102 0xFF k 0))) ∧
  (∀ (s : State) (k kind unit payload : Nat) (d : BitVec 5), (s.core k).mode = .waiting → (s.core k).wait = some (.recv d) →
    kind < 8 → unit < 256 → payload < 2 ^ 32 →
    let c := s.core k
    s.mbxPost k kind unit payload = s.setCore k { c.setX d (BitVec.ofNat 64 payload |||
        (BitVec.ofNat 64 kind <<< 32) ||| (BitVec.ofNat 64 unit <<< 35)) with
      mode := .running, wait := none, waited := 0, pc := c.pc + 4#18, instret := c.instret + 1#64 })

/-- CSRR, CSRW, CSRS and CSRC on the registers that a program writes (Table 5.9): the old value is read to DST, and SRC1 is
written, set or cleared within the register's width; a number that is not listed raises ILLEGAL (R155).

SC_STATUS, SC_TICK, SC_CYCLE, SC_INSTRET, SC_STEP and SC_EPOCH are read only. SC_STATUS holds the core's number, tile,
partition and INH (Table 5.10), SC_STEP the step (Table 3.7), and SC_CYCLE the ACLK cycles of the ticks that ended and those
of the present one. OVF of SC_MBX_STATUS is cleared by writing 1 to it.

How many cycles of the tick have passed at a read of SC_CYCLE, between none beyond the last read and all of them, is open, and
what CSRS and CSRC write to that bit is the model's reading (log entries 15, 35). -/
def Obligations.ControlRegisters : Prop :=
  ∀ (s : State) (o : OpCsr), s.runs o.core.toNat →
    let k := o.core.toNat
    let c := s.core k
    let n := o.num.toNat
    let x := c.getX o.src1
    let reads := fun w : Word64 => exec (.csrr o) s = s.done k (c.setX o.dst w)
    let puts := fun (old : Word64) (f : Word64 → Core) => exec (.csrw o) s = s.done k (f x) ∧
      exec (.csrs o) s = s.done k (f (old ||| x)) ∧ exec (.csrc o) s = s.done k (f (old &&& ~~~x))
    let pcOf := fun w : Word64 => w.truncate 18 &&& 0x3FFFC#18
    (n = 0x000 → reads (BitVec.ofNat 64 (k + 256 * (k / 128) + 512 * (s.coreOwner k).getD 0 +
      2048 * (if (s.coreOwner k).isSome then 1 else 0) + 4096 * (if c.inh then 1 else 0))) ∧ puts 0#64 (fun _ => c)) ∧
    (n = 0x011 → puts 0#64 (fun _ => c) ∧ (Tab.wf {} s.health.clk = true →
      let ck := Tab.get ({} : CtClk) s.health.clk (k / 128)
      ∃ m : Nat, ck.into ≤ m ∧ m ≤ max ck.into (ck.mhz * s.clk.len * 64 / 10000) ∧
        exec (.csrr o) s = .next (State.retire { s.issued k with
          draws := s.draws + 1, health := { s.health with clk := Tab.put {} s.health.clk (k / 128) { ck with into := m } } }
          k (c.setX o.dst (BitVec.ofNat 64 (ck.cyc / 10000 + m)))))) ∧
    (n = 0x013 → reads (BitVec.ofNat 64 (s.dnum 0x600009 % 2 ^ 32 + 2 ^ 32 * (s.sched.state % 256) +
      2 ^ 40 * (s.sched.repeats % 256) + 2 ^ 48 * (s.sched.lastCause % 256))) ∧ puts 0#64 (fun _ => c)) ∧
    (n = 0x014 → reads (BitVec.ofNat 64 (s.dnum 0x60000A % 2 ^ 32)) ∧ puts 0#64 (fun _ => c)) ∧
    (n = 0x021 → reads (BitVec.ofNat 64 (c.mbx.length + 128 * (if c.ovf then 1 else 0))) ∧
      (∀ i ∈ [Instr.csrw o, .csrs o], exec i s = s.done k { c with ovf := c.ovf && !x.getLsbD 7 }) ∧
      exec (.csrc o) s = s.done k c) ∧
    (n = 0x001 → reads (c.epc.zeroExtend 64) ∧ puts (c.epc.zeroExtend 64) (fun w => { c with epc := pcOf w })) ∧
    (n = 0x002 → reads (c.cause.zeroExtend 64) ∧ puts (c.cause.zeroExtend 64) (fun w => { c with cause := w.truncate 10 })) ∧
    (n = 0x003 → reads c.eaddr ∧ puts c.eaddr (fun w => { c with eaddr := w })) ∧
    (n = 0x004 → reads (c.tvec.zeroExtend 64) ∧ puts (c.tvec.zeroExtend 64) (fun w => { c with tvec := pcOf w })) ∧
    (n = 0x005 → reads (c.frm.zeroExtend 64) ∧ puts (c.frm.zeroExtend 64) (fun w => { c with frm := w.truncate 3 })) ∧
    (n = 0x006 → reads (c.fflags.zeroExtend 64) ∧
      puts (c.fflags.zeroExtend 64) (fun w => { c with fflags := w.truncate 5 })) ∧
    (n = 0x010 → reads (BitVec.ofNat 64 (s.clk.seen % 2 ^ 48)) ∧ puts 0#64 (fun _ => c)) ∧
    (n = 0x012 → reads c.instret ∧ puts 0#64 (fun _ => c)) ∧
    (n = 0x020 → reads c.waitLimit ∧ puts c.waitLimit (fun w => { c with waitLimit := w })) ∧
    ((6 < n ∧ n < 0x010 ∨ 0x014 < n ∧ n < 0x020 ∨ 0x021 < n) →
      ∀ i ∈ [Instr.csrr o, .csrw o, .csrs o, .csrc o], exec i s = s.trap k 1)

/-- ECALL and BREAK raise causes 7 and 8: the exception writes the instruction's address to SC_EPC, the cause to SC_CAUSE
and 0 to SC_EADDR; with SC_TVEC not zero and INH 0 it sets INH and goes on at SC_TVEC, else the core is FAULTED, sc_fault
counts and EV_SC_FAULT is raised with the core's number, the cause and the address (R145).

ERET in a handler clears INH and goes on at SC_EPC; outside one it raises ILLEGAL (R145). HALT leaves the core HALTED
past the instruction (R155).

A word that spells no listed instruction raises ILLEGAL; the all-zero word is one, and so is a word of an OP without a
row (R141); the words of two listed instructions spell them (Tables 5.4 and 5.5).

A wait of SC_WAIT_LIMIT tick edges in RECV, WTICK, WFENCE or BAR ends with WAIT_TIMEOUT, cause 9, with the wait's address in
SC_EPC (R154); WEDGE, and a wait that is shorter or has no limit, is not timed out. That a barrier's arrival is withdrawn
then is the model's reading (log entry 37). -/
def Obligations.Exceptions : Prop :=
  (∀ (s : State) (o : OpK), s.runs o.core.toNat →
    let k := o.core.toNat
    let c := s.core k
    let saved := fun code : Nat => { c with
      epc := c.pc, cause := BitVec.ofNat 10 code, eaddr := 0#64, lastCause := BitVec.ofNat 4 code,
      wait := none, waited := 0 }
    let enters := fun (i : Instr) (code : Nat) =>
      (c.tvec ≠ 0#18 → c.inh = false → exec i s = .next ((s.issued k).setCore k
        { saved code with inh := true, pc := c.tvec, mode := .running })) ∧
      ((c.tvec = 0#18 ∨ c.inh = true) → exec i s = .next ((((s.issued k).setCore k
        { saved code with mode := .faulted }).count cScFault k 1).raise 0x2101 0xFF (k + 256 * code) c.pc.toNat))
    enters (.ecall o) 7 ∧ enters (.brk o) 8) ∧
  (∀ (s : State) (o : OpK), s.runs o.core.toNat →
    let k := o.core.toNat
    let c := s.core k
    (c.inh = true → exec (.eret o) s = .next ((s.issued k).setCore k
      { c with inh := false, pc := c.epc, instret := c.instret + 1#64 })) ∧
    (c.inh = false → exec (.eret o) s = s.trap k 1) ∧
    exec (.halt o) s = s.done k { c with mode := .halted, wait := none, waited := 0 }) ∧
  (∀ (s : State) (o : OpIllegal), s.runs o.core.toNat →
    (decodeWord ⟨o.core, 0, {}, 0#16, 0⟩ o.word = none → exec (.illegalInstruction o) s = s.trap o.core.toNat 1) ∧
    ((o.word = 0#32 ∨ o.word &&& 0x3F#32 ∈ [0x0A#32, 0x17#32, 0x1D#32, 0x2E#32, 0x38#32, 0x3A#32, 0x3B#32] ∨
      (o.word &&& 0x3F#32 = 0x06#32 ∧ o.word &&& 0x00C00000#32 = 0x00C00000#32)) →
      decodeWord ⟨o.core, 0, {}, 0#16, 0⟩ o.word = none)) ∧
  (∀ e : CoreEnv, decodeWord e 0x00231132#32 = some (.vfma ⟨e.core, 4#5, 2#5, 3#5, 0#3, false, 1#3⟩) ∧
    decodeWord e 0x00031041#32 = some (.add ⟨e.core, 1#5, 2#5, 3#5⟩)) ∧
  (∀ (s : State) (o : OpK), s.coreOk o.core.toNat = true →
    let k := o.core.toNat
    let c := s.core k
    let due := c.mode = .waiting ∧ c.waitLimit ≠ 0#64 ∧ c.waitLimit.toNat ≤ c.waited
    let timed := fun x : State =>
      if c.tvec ≠ 0#18 ∧ c.inh = false then x.setCore k { c with
        epc := c.pc, cause := 9#10, eaddr := 0#64, lastCause := 9#4, wait := none, waited := 0, inh := true,
        pc := c.tvec, mode := .running }
      else ((x.setCore k { c with
        epc := c.pc, cause := 9#10, eaddr := 0#64, lastCause := 9#4, wait := none, waited := 0,
        mode := .faulted }).count cScFault k 1).raise 0x2101 0xFF (k + 256 * 9) c.pc.toNat
    (due → ((∃ f v, c.wait = some (.fence f v)) ∨ (∃ d, c.wait = some (.recv d)) ∨ (∃ t, c.wait = some (.tick t))) →
      exec (.waitTimeout o) s = .next (timed s)) ∧
    (due → ∀ b, c.wait = some (.bar b) →
      let x := s.bar (k / 128) b
      exec (.waitTimeout o) s = .next (timed (s.setBar (k / 128) b { x with arrived := x.arrived - 1 }))) ∧
    (¬due ∨ c.wait = some .edge → exec (.waitTimeout o) s = .next s))

/-- SC_CTRL by a core of the same partition, its host or the MC (R156): RUN starts a HALTED or FAULTED core of a partition at
SC_PC_INIT with its other state kept; HALT stops it and abandons its wait, and wins where one write sets both. Both write
SCHED_NOTIFY.

A write to the registers of a present tile's unit, of a width that its block accepts, by a requester of the unit's partition,
is done as the unit's block says (R136, R137, R423); the words of BAR0 and BAR2 of an enabled partition's host are written
lowest first, the request buffer of its mailbox byte by byte, and BAR2 reaches the blocks of both tiles and the NT channels
(R422, R424, R432). Of the blocks (Tables 4.8, 5.8 and 5.12): FENCE_VAL sets the fence, FENCE_ADD adds modulo 2^32, SC_PC_INIT
takes bits [17:2], BAR_CNT the count of a barrier without a round, and OVERFLOW of an engine and of an EU is cleared by
writing 1 to it (Tables 4.6 and 8.4).

Of BAR2 of an endpoint that is up while the device holds or has failed, the mailbox alone is written (R451, R468, R470).

A read by a host of a unit's register gives its value, of another partition's or of nobody's zero with a violation of source
2, and of a partition that is not ENABLED zero (R422, R423, R433).

That BAR0 and BAR2 take 32-bit words, lowest first, is the model's reading (log entry 57), and no row of the table commands
such a read (log entry 184). -/
def Obligations.RegisterWrites : Prop :=
  (∀ (s : State) (o : CoreCtlOp), s.reachesUnit o.req (o.core.toNat / 128) (s.coreOwner o.core.toNat) →
    s.coreOk o.core.toNat = true →
    let k := o.core.toNat
    let c := { s.core k with notify := o.value.getLsbD 4 }
    let starts := (s.coreOwner k).isSome = true ∧ (c.mode = .halted ∨ c.mode = .faulted)
    let halts := fun i : Instr => exec i s = .next (s.setCore k { c with mode := .halted, wait := none, waited := 0 })
    (o.value.getLsbD 1 = false →
      (starts → exec (.scCtrlRun o) s = .next (s.setCore k
        { c with pc := BitVec.ofNat 18 (4 * c.pcInit.toNat), mode := .running, wait := none })) ∧
      (¬starts → exec (.scCtrlRun o) s = .next (s.setCore k c))) ∧
    (o.value.getLsbD 1 = true → halts (.scCtrlRun o)) ∧ halts (.scCtrlHalt o)) ∧
  (∀ (s : State) (o : RegWriteOp) (t : BitVec 1) (u : MUnit), o.space = .unit t → 1 ≤ o.size → o.size ≤ 64 →
    mmioUnit t.toNat o.addr.toNat = some u → s.unitOk t.toNat u = true → unitAccepts u o.size = true →
    o.addr.toNat % o.size = 0 → s.reachesUnit o.req t.toNat (s.unitOwner u) →
    let v := o.value.toNat % 2 ^ (8 * o.size)
    exec (.registerWrite o) s = .next (s.unitWrite t.toNat u o.size v o.req) ∧
    (∀ f, u = .fence f 0 → exec (.registerWrite o) s = .next (s.fenceSet t.toNat f v)) ∧
    (∀ f, u = .fence f 4 → exec (.registerWrite o) s = .next (s.fenceSet t.toNat f (s.fenceVal t.toNat f + v))) ∧
    (∀ n, u = .core n 8 → o.size = 4 → exec (.registerWrite o) s = .next (s.setCore n
      { s.core n with pcInit := BitVec.ofNat 16 (v / 4) })) ∧
    (∀ b, u = .bar b 0 → (s.bar t.toNat b).arrived = 0 → v % 256 ≤ 128 →
      exec (.registerWrite o) s = .next (s.setBar t.toNat b { s.bar t.toNat b with count := v % 256 })) ∧
    (∀ n, u = .me n 0x40 → exec (.registerWrite o) s = .next (s.setEngine n
      { s.engine n with overflow := (s.engine n).overflow && decide (v / 2 ^ 11 % 2 = 0) })) ∧
    (∀ n, u = .eu n 0x40 → exec (.registerWrite o) s = .next (s.setEu n
      { s.eu n with overflow := (s.eu n).overflow && decide (v / 2 ^ 8 % 2 = 0) }))) ∧
  (∀ (s : State) (o : RegWriteOp) (p : BitVec 2), o.req = .host p → s.ptEnabled p.toNat = true → 1 ≤ o.size → o.size ≤ 64 →
    let a := o.addr.toNat
    let v := o.value.toNat % 2 ^ (8 * o.size)
    (o.space = .bar0 → exec (.registerWrite o) s = .next (wordsWrite (fun s x w => s.bar0Word p.toNat x w) s a o.size v)) ∧
    (o.space = .bar2 → 0x20000 ≤ a → a < 0x30000 → exec (.registerWrite o) s =
      .next (s.mbxBuffer p.toNat (a - 0x20000) o.size v)) ∧
    (o.space = .bar2 → (a < 0x20000 ∨ 0x30000 ≤ a ∧ a < 0x1000000) → exec (.registerWrite o) s =
      .next (wordsWrite (fun s x w => s.bar2Word p.toNat x w) s a o.size v)) ∧
    (o.space = .bar2 → 0x1000000 ≤ a → a < 0x2070400 → exec (.registerWrite o) s =
      exec (.registerWrite { o with space := .unit 0#1 }) s) ∧
    (o.space = .bar2 → 0x3000000 ≤ a → a < 0x4070400 → exec (.registerWrite o) s =
      exec (.registerWrite { o with space := .unit 1#1, addr := BitVec.ofNat 32 (a - 0x2000000) }) s) ∧
    (o.space = .bar2 → 0x5000000 ≤ a → a < 0x5002000 → exec (.registerWrite o) s =
      .next (s.ntWrite p (a - 0x5000000) o.size v))) ∧
  (∀ (s : State) (o : RegWriteOp) (p : BitVec 2) (e : BitVec 3), o.req = .host p → o.space = .hold e → 1 ≤ e.toNat →
    e.toNat ≤ 4 → 1 ≤ o.size → o.size ≤ 64 →
    let a := o.addr.toNat
    let v := o.value.toNat % 2 ^ (8 * o.size)
    let live := (Tab.get ({} : Endpoint) s.host.endpts e.toNat).up = true ∧ s.endpointOk e.toNat = true ∧
      ((s.boot.state = 6 ∧ s.dnum 0xA00005 = 1) ∨ s.boot.state = 9 ∨ s.boot.state = 10)
    (live → 0x20000 ≤ a → a < 0x30000 → exec (.registerWrite o) s =
      .next (s.mbxBuffer (4 + e.toNat) (a - 0x20000) o.size v)) ∧
    (live → 0x1000 ≤ a → a < 0x2000 → a % 4 = 0 → o.size = 4 → exec (.registerWrite o) s =
      .next (s.mbxReg (4 + e.toNat) (a - 0x1000) v)) ∧
    (¬live ∨ a + o.size ≤ 0x1000 ∨ (0x2000 ≤ a ∧ a < 0x20000 ∧ a + o.size ≤ 0x20000) ∨ 0x30000 ≤ a →
      exec (.registerWrite o) s = .next s)) ∧
  (∀ (s : State) (p : BitVec 2) (t : BitVec 1) (u : MUnit) (a size : Nat), 1 ≤ size → size ≤ 64 →
    let zeros := List.replicate size 0#8
    (s.ptEnabled p.toNat = false → s.registerRead .bar0 p a size = (s, zeros) ∧ s.registerRead .bar2 p a size = (s, zeros) ∧
      s.registerRead (.unit t) p a size = (s, zeros)) ∧
    (s.ptEnabled p.toNat = true → mmioUnit t.toNat a = some u → s.unitOk t.toNat u = true →
      (s.unitOwner u = some p.toNat → a % size = 0 → s.registerRead (.unit t) p a size =
        (s.unitSeen (.host p) u, leBytes size ((s.unitRead t.toNat u size).getD 0))) ∧
      (s.unitOwner u ≠ some p.toNat → s.registerRead (.unit t) p a size =
        (s.violate p.toNat 2 (if (s.unitOwner u).isSome then 0 else 1) (bar2Of t.toNat a), zeros))))

/-! ### Engines and embedding units -/

/-- A push to an engine that the requester's partition owns joins the queue last, and is discarded whole with OVERFLOW set
and me_q_overflow counted when 64 descriptors wait (R115); FLUSH discards every queued descriptor and counts them (R117).

A push to an EU that the requester's partition owns joins its queue last, and is discarded whole with OVERFLOW set and
counted when 32 commands wait; FLUSH discards every queued command and counts them (R219).

A write of FENCE_ADD adds to the fence modulo 2^32, and one of FENCE_VAL sets it (R116): the fence reads the sum or the
value, every other fence as before, when the fences are in canonical form.

That a descriptor or command that runs holds no slot, so that as many as the table says wait beside it, is the model's reading
(log entry 21). -/
def Obligations.UnitQueues : Prop :=
  (∀ (s : State) (o : PushOp) (f : FlushOp), s.meOk o.unit.toNat = true → (s.meOwner o.unit.toNat).isSome = true →
    s.reachesUnit o.req (o.unit.toNat / 36) (s.meOwner o.unit.toNat) → f.unit = o.unit → f.req = o.req →
    let n := o.unit.toNat
    let e := s.engine n
    let by_ := match o.req with | .core k => k.toNat | .host p => 256 + p.toNat | .mc => 260
    (e.queue.length < 64 → exec (.meQPush o) s = .next (s.setEngine n { e with queue := e.queue ++ [⟨o.word, by_⟩] })) ∧
    (64 ≤ e.queue.length → exec (.meQPush o) s =
      .next ((s.setEngine n { e with overflow := true }).count cMeQOverflow n 1)) ∧
    exec (.meFlush f) s = .next ((s.setEngine n { e with queue := [] }).count cMeQFlushed n e.queue.length)) ∧
  (∀ (s : State) (o : PushOp) (f : FlushOp), s.euOk o.unit.toNat = true → (s.euOwner o.unit.toNat).isSome = true →
    s.reachesUnit o.req (o.unit.toNat / 8) (s.euOwner o.unit.toNat) → f.unit = o.unit → f.req = o.req →
    let n := o.unit.toNat
    let e := s.eu n
    let by_ := match o.req with | .core k => k.toNat | .host p => 256 + p.toNat | .mc => 260
    (e.queue.length < 32 → exec (.euQPush o) s = .next (s.setEu n { e with queue := e.queue ++ [⟨o.word, by_⟩] })) ∧
    (32 ≤ e.queue.length → exec (.euQPush o) s =
      .next ((s.setEu n { e with overflow := true }).count cEuQOverflow n 1)) ∧
    exec (.euFlush f) s = .next ((s.setEu n { e with queue := [] }).count cEuQFlushed n e.queue.length)) ∧
  (∀ (s : State) (o : FenceOp), Tab.wf 0 s.fences = true → o.tile.toNat < s.variant.tiles →
    s.reachesUnit o.req o.tile.toNat (s.fenceOwner o.f.toNat) →
    let t := o.tile.toNat
    let f := o.f.toNat
    let holds := fun (i : Instr) (v : Nat) => ∃ u : State, exec i s = .next u ∧ u.fenceVal t f = v ∧
      ∀ g h : Nat, g * 1024 + h ≠ t * 1024 + f → u.fenceVal g h = s.fenceVal g h
    holds (.meFenceAdd o) ((s.fenceVal t f + o.value.toNat) % 2 ^ 32) ∧ holds (.meFenceVal o) o.value.toNat)

/-- The head of an engine's queue whose fence is satisfied starts: a GEMM or a REDUCE_PARTIALS that passes its checks writes C
as the engine computes it, a SYNC writes nothing; the descriptor leaves the queue and runs, and a GEMM behind a GEMM that
still runs streams behind it (R110 to R112, R125). A third GEMM, which finds both accumulator sets in use, loads its first
stationary tile into the free half at its start and streams at its next command after a completion (R120, R125). A head that
fails a check runs nothing: it completes with its code, which ME_ERR holds when it was clear (R113); a reserved opcode fails
with code 1.

Completion (R114): the engine goes on with the descriptor that streams behind, or is idle; me_desc_done counts, the done fence
of the partition gets one more, and where IRQ is set a pushing core's mailbox gets a word of kind 1 from the engine with its
number, the code and the tag; a code other than 0 is recorded in ME_ERR.

What a strided operand's checks cover, that ST_POISON is recorded in ME_ERR, when a head streams behind a GEMM, that a foreign
extent has code 6 and a foreign done fence gets nothing, what a flush counts, and that ME_HEAD_TAG keeps its value at a failed
check and shows the later of two descriptors are the model's readings (log entries 23, 24, 165, 20, 22, 167). -/
def Obligations.EngineRuns : Prop :=
  (∀ (s : State) (o : UnitStartOp) (u : UnitOp) (q : Queued) (rest : List Queued), u.unit = o.unit →
    let n := o.unit.toNat
    let e := s.engine n
    let d := meDesc q.word
    let part := s.byPart q.by_
    let ends := fun (x : State) (q : Queued) (code : Nat) =>
      let d := meDesc q.word
      let p := s.byPart q.by_
      let x0 := x.count cMeDescDone n 1
      let x1 := if d.doneEn = true ∧ (s.fenceOwner d.doneF = none ∨ s.fenceOwner d.doneF = some p) then
        x0.fenceAdd (n / 36) d.doneF 1 else x0
      let x2 := if d.irq = true ∧ q.by_ < 256 then x1.mbxPost q.by_ 1 n (n + 256 * code + 2 ^ 20 * d.tag) else x1
      (Host.Outcome.next (x2.pulseLine (n / 36) (137 + n % 36)) : Host.Outcome State Fault Refusal)
    let recorded := fun (x : Engine) (code tag : Nat) => if x.errValid then { x with errMore := true }
      else { x with errValid := true, errCode := code, errTag := tag }
    let fails := fun (i : Instr) (code : Nat) => exec i s =
      ends ((s.setEngine n (recorded { e with queue := rest } code d.tag)).count cMeDescErr n 1) q code
    let runs := fun (i : Instr) (r : State × Nat) (rest : List Queued) => exec i s = .next (r.1.setEngine n (if e.run = none then
        { r.1.engine n with queue := rest, run := some ⟨q, r.2⟩, headTag := d.tag }
      else { r.1.engine n with queue := rest, ahead := some ⟨q, r.2⟩, headTag := d.tag }))
    let first := fun (x : State) =>
      x.setEngine n { (x.engine n).load d (fun a k => x.t0.readN (n / 36 * scratchSize + a) k) 0 0 with
        queue := rest, next := some q }
    let cmd : Option Instr := if d.op = 1 then some (.meGemm o) else if d.op = 2 then some (.meReducePartials o)
      else if d.op = 3 then some (.meSync u) else none
    (s.meOk n = true → e.next = none → e.queue = q :: rest → s.meReady n d = true →
      (e.run = none ∨ ∃ r, e.run = some r ∧ (meDesc (e.ahead.getD r).item.word).op = 1) →
      (d.check = 0 → s.meForeign (n / 36) part d = false →
        (d.op = 1 → e.ahead = none → runs (.meGemm o) (s.meCompute n o.ecc q d) rest) ∧
        (d.op = 1 → e.run ≠ none → e.ahead ≠ none → exec (.meGemm o) s = .next (first (s.noteEcc 0 o.ecc false))) ∧
        (d.op = 2 → e.ahead = none → e.run = none → runs (.meReducePartials o) (s.meCompute n o.ecc q d) rest) ∧
        (d.op = 3 → e.ahead = none → e.run = none → runs (.meSync u) (s, 0) rest) ∧
        (e.run ≠ none → d.op ≠ 1 → ∀ i, cmd = some i → exec i s = .next s)) ∧
      (∀ i, cmd = some i → d.check ≠ 0 → fails i d.check) ∧
      (∀ i, cmd = some i → d.check = 0 → s.meForeign (n / 36) part d = true → fails i 6) ∧
      (d.check = 1 → fails (.meDescComplete u) 1)) ∧
    (s.meOk n = true → e.next = some q →
      (e.ahead = none → runs (.meGemm o) ((s.setEngine n { e with next := none, loadOdd := !e.loadOdd }).meCompute n o.ecc q d)
        e.queue) ∧
      (e.ahead ≠ none → exec (.meGemm o) s = .next s)) ∧
    (∀ r, e.run = some r → e.queue = [] ∨ (e.queue = q :: rest ∧ (d.check ≠ 1 ∨ e.next ≠ none)) →
      let e0 := { e with run := e.ahead, ahead := none }
      exec (.meDescComplete u) s = ends (s.setEngine n
        (if r.code = 0 then e0 else recorded e0 r.code (meDesc r.item.word).tag)) r.item r.code))

/-- An integer product of up to 128 terms with an INT32 result: C(i, j) is the sum of the products of A's row i with B's
column j, with the INT32 limits at the end of the pass (R66, R104). -/
def Obligations.EngineIntegerDot : Prop :=
  ∀ (d : MeDesc) (rd : Scratch) (q : MeRound) (i j : Nat), d.op = 1 → d.fa = 11 → d.fb = 11 → d.fc = 13 →
    d.accI = false → 1 ≤ d.k → d.k ≤ 128 →
    let x := ((List.range d.k).map (fun k => sext 8 (d.elemA rd i k) * sext 8 (d.elemB rd k j))).foldl (· + ·) 0
    (d.elemC rd q i j).val = wrap 32 (max (-(2 ^ 31)) (min (2 ^ 31 - 1) x)) ∧
      (d.elemC rd q i j).cnt.intSat = (if x < -(2 ^ 31) ∨ 2 ^ 31 - 1 < x then 1 else 0)

/-- The head of an idle EU whose fence is satisfied and that passes its checks leaves the queue and runs (R220 to R235). A
GATHER asks for the rows that other modules serve, once each, and waits for them; with none to wait for, and no repair of a
row that it reads, it reads its lines and writes its bags. A SCATTER_ADD adds its contributions, an APPLY after the reduce
deadline whose rows wait for no repair updates every slot, a SYNC does nothing; a PREFETCH fills the lines of the rows that
are served here and sends hints for those of T2_CACHED_T1 tables that are not. Each is then ready with its code. A head that
fails its checks completes with their code, and an array outside the partition's range is its violation (R221, R433).

A command that is done, with its mirror records and discard acknowledged, completes: the EU is idle, eu_cmd_done counts, the
done fence and the mailbox word come as for an engine, of kind 2 (R221); a waiting GATHER or APPLY goes on first. That EU_ERR
records every code but 0, that every failed command counts eu_cmd_err, and that a foreign done fence gets nothing and counts
no violation are the model's readings (log entries 24, 148, 20). -/
def Obligations.EuRuns : Prop :=
  let ends := fun (s x : State) (n : Nat) (q : Queued) (code : Nat) =>
    let c := euCmd q.word
    let x0 := x.count cEuCmdDone n 1
    let x1 := if c.doneEn = true ∧ (s.fenceOwner c.doneF = none ∨ s.fenceOwner c.doneF = some (s.byPart q.by_)) then
      x0.fenceAdd (n / 8) c.doneF 1 else x0
    let x2 := if c.irq = true ∧ q.by_ < 256 then x1.mbxPost q.by_ 2 n (n + 256 * code + 2 ^ 20 * c.tag) else x1
    (Host.Outcome.next (x2.pulseLine (n / 8) (129 + n % 8)) : Host.Outcome State Fault Refusal)
  let recorded := fun (x : Eu) (code tag : Nat) => if x.errValid then { x with errMore := true }
    else { x with errValid := true, errCode := code, errTag := tag }
  (∀ (s : State) (o : EuStartOp) (q : Queued) (rest : List Queued) (t : TblDesc),
    let n := o.unit.toNat
    let c := euCmd q.word
    let part := s.byPart q.by_
    let r := (((s.noteEcc 0 o.ecc false).noteEcc 1 o.t1 false).noteEcc 2 o.t2 false).rcBad o.bad
    let began := r.setEu n { r.eu n with queue := rest, run := some { item := q, code := 0 }, headTag := c.tag }
    let tries := [(1, Instr.euGather o), (2, .euScatterAdd o), (3, .euPrefetch o), (4, .euApply o)]
    s.euOk n = true → (s.eu n).run = none → (s.eu n).queue = q :: rest → s.euReady n c = true →
    ((r.euCheck n part c).1 = 0 →
      r.tbl part c.table = some t →
      (c.op = 1 →
        let keys := began.euKeys n part c t
        let far := keys.filter (fun k => !began.servedHere t k.shard)
        let sent := far.foldl (fun (x : State) k =>
          x.sendMsg (x.serves (t.shardRank k.shard)) 3 (.rowReq part c.table k.shard k.slot x.rank)) began
        let waits := sent.setEu n { sent.eu n with
          run := some { item := q, code := 0, need := far.map (fun k => (k, sent.clk.edges)) } }
        (far ≠ [] → exec (.euGather o) s = .next waits) ∧
        (far = [] → waits.gatherWaits t keys = [] →
          let lines := keys.foldl (fun (x : State) k => match x.rowHome k.part t k.shard k.slot with
            | some h => x.touchLines h false
            | none => x) waits
          let bags := (List.range c.nbags).foldl (fun x b => x.writeBag n part c t { item := q, code := 0 } b) lines
          exec (.euGather o) s =
            .next (bags.setEu n { bags.eu n with run := some { item := q, code := 0, ready := true } })) ∧
        (far = [] → waits.gatherWaits t keys ≠ [] → exec (.euGather o) s =
          .next ((waits.gatherWaits t keys).foldl (fun (x : State) w => x.noteWait w.1 w.2.1 w.2.2) waits))) ∧
      (c.op = 2 → exec (.euScatterAdd o) s = .next (let w := began.scatter n part c t; w.1.euDone n w.2)) ∧
      (c.op = 3 → exec (.euPrefetch o) s = .next (((List.range c.nbags).foldl (fun (x : State) i =>
        let k := rowKeyOf part c.table t (began.euId n c i)
        if x.serves (t.shardRank k.shard) = x.rank then (match x.recordAt part t k.shard k.slot with
          | some h => x.touchLines (h.1, h.2.1, t.recLen, h.2.2) true
          | none => x)
        else if ((x.obj part t.homeObj).map (·.policy)) = some 2 then
          x.sendMsg (x.serves (t.shardRank k.shard)) 3 (.hint part c.table k.shard k.slot) else x) began).euDone n 0)) ∧
      (c.op = 4 → s.applyDue = true →
        (began.applyWaits part c = false → exec (.euApply o) s =
          .next (let w := began.applyAll n part c t; w.1.euDone n w.2)) ∧
        (began.applyWaits part c = true → exec (.euApply o) s = .next began)) ∧
      (c.op = 4 → s.applyDue = false → exec (.euApply o) s = .next s)) ∧
    (∀ i, (c.op, i) ∈ tries → ∀ code viol, r.euCheck n part c = (code, viol) → code ≠ 0 →
      let x := (r.setEu n (recorded { r.eu n with queue := rest } code c.tag)).count cEuCmdErr n 1
      exec i s = ends x (match viol with
        | some a => x.violate part 6 (x.rangeReason part 0 (n / 8 * scratchSize + a) 1) a
        | none => x) n q code)) ∧
  (∀ (s : State) (u : UnitOp) (q : Queued) (rest : List Queued),
    let n := u.unit.toNat
    let c := euCmd q.word
    let r := (((s.noteEcc 0 {} false).noteEcc 1 {} false).noteEcc 2 {} false).rcBad []
    s.euOk n = true → (s.eu n).run = none → (s.eu n).queue = q :: rest → s.euReady n c = true → c.op = 5 →
    exec (.euSync u) s = .next (r.setEu n { r.eu n with
      queue := rest, run := some { item := q, code := 0, ready := true }, headTag := c.tag })) ∧
  (∀ (s : State) (u : UnitOp),
    let n := u.unit.toNat
    let x := (s.gatherTry n).applyTry n
    (∀ r, (x.eu n).run = some r →
      let c := euCmd r.item.word
      let y := if c.op = 4 ∧ r.code = 0 then
        x.setStep (x.byPart r.item.by_) c.table { x.step_ (x.byPart r.item.by_) c.table with applied := true } else x
      let e0 := { y.eu n with run := none }
      (r.ready = true → r.acks = [] → r.discard = [] → exec (.euCmdComplete u) s =
        ends y (y.setEu n (if r.code = 0 then e0 else recorded e0 r.code c.tag)) n r.item r.code) ∧
      (¬(r.ready = true ∧ r.acks = [] ∧ r.discard = []) → exec (.euCmdComplete u) s = .next x)) ∧
    (∀ q rest, (s.eu n).run = none → (s.eu n).queue = q :: rest → s.euOk n = true → s.euReady n (euCmd q.word) = true →
      (s.euCheck n (s.byPart q.by_) (euCmd q.word)).1 = 1 → exec (.euCmdComplete u) s =
        ends s ((s.setEu n (recorded { s.eu n with queue := rest } 1 (euCmd q.word).tag)).count cEuCmdErr n 1) n q 1))

/-- Over every bag: SUM adds the rows in list order from +0, MEAN divides that sum by the number of rows, WSUM applies one fused
multiply-add per row with its weight, in list order from +0; an empty bag gives +0 (R67, R223).

MAX without a NaN takes an element that no other exceeds, and the earliest such position; with one it takes the first NaN and
its position (R64, R223). -/
def Obligations.Pooling : Prop :=
  (∀ col : List Nat, col ≠ [] → (∀ x ∈ col, f32Nan x = false) →
    let p := poolElem 2 col []
    p.2 < col.length ∧ col.getD p.2 0 = p.1 ∧ (∀ x ∈ col, fLt .fp32 p.1 x = false) ∧
      ∀ i, i < p.2 → fLt .fp32 (col.getD i 0) p.1 = true) ∧
  (∀ col : List Nat, (∃ x ∈ col, f32Nan x = true) →
    let p := poolElem 2 col []
    p.2 < col.length ∧ col.getD p.2 0 = p.1 ∧ f32Nan p.1 = true ∧ ∀ i, i < p.2 → f32Nan (col.getD i 0) = false) ∧
  (∀ col ws : List Nat,
    let add := fun x y : Nat => (fAdd .canonical .fp32 .rne x y).bits
    let sum := fun l : List Nat => l.foldl add 0
    (poolElem 0 col ws).1 = sum col ∧
    (poolElem 1 col ws).1 = (if col = [] then 0 else (fDiv .canonical .fp32 .rne (sum col) (f32OfNat col.length)).bits) ∧
    (ws.length = col.length → (poolElem 3 col ws).1 =
      (List.range col.length).foldl (fun acc i => (fFma .canonical .fp32 .rne (col.getD i 0) (ws.getD i 0) acc).bits) 0) ∧
    (poolElem 2 [] ws).1 = 0)

/-! ### DMA and memory -/

/-- The registers of a set (Table 6.4) of an IDLE channel take the value written: SRC and DST a region and offset, LEN 40
bits, MODE and OP without their reserved bits, BURST 1 to 64, REQ_SEL, FILL; a reserved region, burst or operation leaves its
field (R13). On a channel that is not IDLE a write to the active set is ignored with ACTIVE_BUSY; an armed shadow set ignores
one with SHADOW_BUSY, counted; one on the hand-over edge is LATE_WRITE, counted (R164, Table 6.8).

START on an IDLE channel whose active set passes the checks of Table 6.6 makes it RUNNING with no burst done and the requests
it held cleared; a set that fails completes at once with its code, and dma_err counts. ARM marks the shadow set of a channel
at work as ready, and on an IDLE channel hands it over; ABORT disarms it and stops the running set with ST_ABORTED, code 5;
REQ adds one request to a paced set that is active, up to 4,095. A channel of no partition does nothing (R159, R167, R171,
R172, R175).

A burst of a RUNNING channel, or of a HELD one at the tick's first edge, with bursts left, fewer than 16 outstanding and,
where the set is paced, a request issues; where the set is SCHED and its cost reaches into the guard, the channel is HELD
instead and the hold counts (R158, R172 to R174).

A set whose bursts are all done, or that has stopped, completes with its code: STATUS.CODE holds it, a COMPARE's results are
written, the done fence and the completion word come, dma_done counts, the line pulses; an armed shadow set is handed over
unless the set was aborted, else the channel is IDLE (R168 to R171, R175).

A set handed over belongs to who armed it. What is on the edge of another action, when an IDLE channel hands over, who owns a
set, which causes of a failed set are a violation, and which of two causes decides are the model's readings (log entries 93,
94, 177). -/
def Obligations.DmaChannels : Prop :=
  (∀ (s : State) (o : DmaWriteOp),
    let ch := 64 * o.tile.toNat + o.c.toNat
    let c := s.chan ch
    let v := o.value
    s.reachesChan o.req ch → (s.chanOwner ch).isSome = true →
    let takes := fun (d d' : DmaSet) =>
      (o.reg = 0#3 → v.toNat < 8 * 2 ^ 56 → d' = { d with src := v }) ∧
      (o.reg = 0#3 → 8 * 2 ^ 56 ≤ v.toNat → d' = { d with src := d'.src } ∧
        d'.src.toNat = d.src.toNat / 2 ^ 56 * 2 ^ 56 + v.toNat % 2 ^ 56) ∧
      (o.reg = 1#3 → v.toNat < 8 * 2 ^ 56 → d' = { d with dst := v }) ∧
      (o.reg = 1#3 → 8 * 2 ^ 56 ≤ v.toNat → d' = { d with dst := d'.dst } ∧
        d'.dst.toNat = d.dst.toNat / 2 ^ 56 * 2 ^ 56 + v.toNat % 2 ^ 56) ∧
      (o.reg = 2#3 → d' = { d with len := v.truncate 40 }) ∧
      (o.reg = 3#3 → d' = { d with mode := v.truncate 32 &&& 0xFF01FFFF#32 }) ∧
      (o.reg = 4#3 → 1 ≤ (v.truncate 7).toNat → (v.truncate 7).toNat ≤ 64 → d' = { d with burst := v.truncate 7 }) ∧
      (o.reg = 4#3 → ((v.truncate 7).toNat = 0 ∨ 64 < (v.truncate 7).toNat) → d' = d) ∧
      (o.reg = 5#3 → d' = { d with reqSel := v.truncate 8 }) ∧
      (o.reg = 6#3 → v.toNat % 4 ≠ 3 → d' = { d with op := v.truncate 32 &&& 0xFFF00003#32 }) ∧
      (o.reg = 6#3 → v.toNat % 4 = 3 → d' = { d with op := (v.truncate 32 &&& 0xFFF00000#32) ||| (d.op &&& 3#32) }) ∧
      (o.reg = 7#3 → d' = { d with fill := v })
    (c.mode = .idle → ∃ d : DmaSet, takes c.act d ∧ exec (.dmaActiveWrite o) s = .next (s.setChan ch { c with act := d })) ∧
    (c.mode ≠ .idle → exec (.dmaActiveWrite o) s = .next (s.setChan ch { c with activeBusy := true })) ∧
    let met := o.sameEdge = true ∧ c.crossed = true ∧
      (match o.req with | .core k => k.toNat | .host p => 256 + p.toNat | .mc => 260) ∉ c.seen
    (c.armed = false → ¬met →
      ∃ d : DmaSet, takes c.shw d ∧ exec (.dmaShadowWrite o) s = .next (s.setChan ch { c with shw := d })) ∧
    (c.armed = false → met → ∃ d : DmaSet, takes c.shw d ∧ exec (.dmaShadowWrite o) s =
      .next ((s.setChan ch { c with shw := d, lateWrite := true }).count cDmaLateWrite ch 1)) ∧
    (c.armed = true → exec (.dmaShadowWrite o) s =
      .next ((s.setChan ch { c with shadowBusy := true }).count cDmaShadowBusy ch 1))) ∧
  (∀ (s : State) (o : DmaCtrlOp), Tab.wf {} s.chans = true →
    let ch := 64 * o.tile.toNat + o.c.toNat
    let c := s.chan ch
    let who := match o.req with | .host p => p.toNat | .mc => 4 | .core _ => 5
    let met := o.sameEdge = true ∧ c.crossed = true ∧
      (match o.req with | .core k => k.toNat | .host p => 256 + p.toNat | .mc => 260) ∉ c.seen
    let loads := fun (c : Chan) (bad : Bool) => { c with
      mode := .running, owner := who, progress := 0#64, next := 0, outst := [], stop := 0, badAt := none,
      fenceBad := bad, mism := 0, mismFirst := none }
    let violated := fun (part : Nat) (vs : List (Nat × Nat)) (x : State) =>
      vs.foldl (fun (y : State) v => y.violate part 6 v.1 v.2) x
    s.reachesChan o.req ch →
    (s.chanOwner ch = none → o.req = .mc → (c.armed = false ∨ c.mode ≠ .idle) →
      exec (.dmaStart o) s = .next s ∧ exec (.dmaArm o) s = .next s ∧ exec (.dmaReq o) s = .next s) ∧
    (∀ part : Nat, s.chanOwner ch = some part →
    let a := s.dmaCheck (ch / 64) part who c.act
    let b := s.dmaCheck (ch / 64) part who c.shw
    (c.mode = .idle → a.1 = 0 → exec (.dmaStart o) s = .next (s.setChan ch { loads c false with pend := 0 })) ∧
    (c.mode = .idle → a.1 ≠ 0 → exec (.dmaStart o) s =
      .next (((violated part a.2.2 (s.setChan ch { loads c a.2.1 with pend := 0 })).count cDmaErr ch 1).dmaComplete ch a.1)) ∧
    (c.mode ≠ .idle → exec (.dmaStart o) s = .next (s.count cDmaStartBusy ch 1)) ∧
    (c.mode ≠ .idle → c.armed = true → exec (.dmaArm o) s =
      .next ((s.setChan ch { c with shadowBusy := true }).count cDmaShadowBusy ch 1)) ∧
    (c.armed = false → met → exec (.dmaArm o) s =
      .next ((s.setChan ch { c with lateWrite := true }).count cDmaLateWrite ch 1)) ∧
    (c.armed = false → ¬met →
      (c.mode ≠ .idle → exec (.dmaArm o) s = .next (s.setChan ch { c with armed := true, armOwner := who })) ∧
      (c.mode = .idle →
        let h := loads { c with act := c.shw, armOwner := who, crossed := true, seen := [] } b.2.1
        (b.1 = 0 → exec (.dmaArm o) s = .next ((s.setChan ch h).count cDmaHandover ch 1)) ∧
        (b.1 ≠ 0 → exec (.dmaArm o) s = .next
          (((((violated part b.2.2 ((s.setChan ch h).count cDmaHandover ch 1)).count cDmaErr ch 1).dmaFinish ch b.1).dmaIdle
            ch).pulseLine (ch / 64) (64 + ch % 64))))) ∧
    (c.mode ≠ .idle → exec (.dmaAbort o) s =
      .next (s.setChan ch { c with armed := false, stop := if c.stop = 0 then 5 else c.stop })) ∧
    (c.mode = .idle → c.armed = false → exec (.dmaAbort o) s = .next s) ∧
    (o.sameEdge = true → c.reqd = true → (c.armed = false ∨ c.mode ≠ .idle) → exec (.dmaReq o) s = .next s) ∧
    (o.sameEdge = false ∨ c.reqd = false →
      let r := { c with reqd := true }
      (c.mode ≠ .idle → c.act.mode.getLsbD 2 = true → c.pend < 4095 →
        exec (.dmaReq o) s = .next (s.setChan ch { r with pend := c.pend + 1 })) ∧
      (c.mode ≠ .idle → c.act.mode.getLsbD 2 = true → 4095 ≤ c.pend →
        exec (.dmaReq o) s = .next ((s.setChan ch r).count cDmaReqOverflow ch 1)) ∧
      (c.mode ≠ .idle → c.act.mode.getLsbD 2 = false → exec (.dmaReq o) s = .next (s.setChan ch r)) ∧
      (c.mode = .idle → c.armed = false → exec (.dmaReq o) s = .next ((s.setChan ch r).count cDmaReqIdle ch 1))))) ∧
  (∀ (s : State) (o : DmaIssueOp),
    let ch := 64 * o.tile.toNat + o.c.toNat
    let c := s.chan ch
    let paced := c.act.mode.getLsbD 2
    let sched := c.act.mode.getLsbD 3
    let lead := s.clk.len - s.dnum 0x600003
    let guard := if o.tile = 2#2 then 10 * lead
      else (lead * (Tab.get ({} : CtClk) s.health.clk o.tile.toNat).mhz * 64 + 9999) / 10000
    let fits := o.a + c.act.cost (ch / 64) c.next ≤ guard
    let may := (c.mode = .running ∨ (c.mode = .held ∧ o.a = 0)) ∧ c.stop = 0 ∧ c.next < c.act.bursts ∧ c.outst.length < 16 ∧
      (paced = true → 0 < c.pend)
    (may → (sched = false ∨ fits) → exec (.dmaBurstIssue o) s = .next (s.setChan ch
      { c with
        mode := .running, next := c.next + 1, outst := c.outst ++ [c.next], crossed := false, reqd := false,
        pend := if paced then c.pend - 1 else c.pend })) ∧
    (may → sched = true → ¬fits → exec (.dmaBurstIssue o) s =
      .next ((s.setChan ch { c with mode := .held, crossed := false, reqd := false }).count cSchedBurstHeld 0 1)) ∧
    (¬may → exec (.dmaBurstIssue o) s = .next s)) ∧
  (∀ (s : State) (o : DmaSetOp),
    let ch := 64 * o.tile.toNat + o.c.toNat
    let c := s.chan ch
    let d := c.act
    let x := if c.stop = 4 then s.count cDmaPoison ch 1 else if c.stop = 5 then s.count cDmaAbort ch 1 else s
    let r0 := if d.kind = 2 then { c with
      count := BitVec.ofNat 64 c.mism, first := (c.mismFirst.map (BitVec.ofNat 64)).getD (BitVec.allOnes 64),
      mismatch := c.mismatch || decide (0 < c.mism) } else c
    let r1 := if c.stop = 4 then { r0 with first := (c.badAt.map (BitVec.ofNat 64)).getD r0.first } else r0
    let y := x.setChan ch { r1 with code := c.stop, outst := [], stop := 0 }
    let z := if d.mode.getLsbD 4 = true ∧ c.fenceBad = false then
      y.fenceAdd (if ch / 64 = 2 then (if d.mode.getLsbD 16 then 1 else 0) else ch / 64) (d.mode.extractLsb' 6 10).toNat 1 else y
    let w := (if d.mode.getLsbD 5 = true then z.dmaPost ch c c.stop else z).count cDmaDone ch 1
    c.mode ≠ .idle → c.outst = [] → (c.stop = 0 → d.bursts ≤ c.next) →
    (((w.chan ch).armed = false ∨ c.stop = 5) → exec (.dmaSetComplete o) s =
      .next ((w.setChan ch { w.chan ch with mode := .idle }).pulseLine (ch / 64) (64 + ch % 64))) ∧
    ((w.chan ch).armed = true → c.stop ≠ 5 → exec (.dmaSetComplete o) s =
      .next ((w.dmaHandover ch).pulseLine (ch / 64) (64 + ch % 64)))) ∧
  (∀ (s : State) (o : DmaSetOp),
    let c := s.chan (64 * o.tile.toNat + o.c.toNat)
    (c.mode = .idle ∨ c.outst ≠ [] ∨ (c.stop = 0 ∧ c.next < c.act.bursts)) → exec (.dmaSetComplete o) s = .next s) ∧
  (∀ (s : State) (ch part : Nat), Tab.wf {} s.chans = true → s.chanOwner ch = some part →
    let c := s.chan ch
    (s.dmaCheck (ch / 64) part c.armOwner c.shw).1 = 0 →
    s.dmaHandover ch = (s.setChan ch { c with
      act := c.shw, owner := c.armOwner, armed := false, crossed := true, seen := [], mode := .running, progress := 0#64,
      next := 0, outst := [], stop := 0, badAt := none, fenceBad := false, mism := 0, mismFirst := none }).count
        cDmaHandover ch 1)

/-- The oldest outstanding burst of a channel completes (R165, R166, R170): its bytes move, PROGRESS grows by them, the
burst is outstanding no more, dma_burst and dma_bytes count and the channel's line pulses; a read that meets an uncorrectable
error writes nothing, and stops the set with code 4 and the burst's offset; a read of a granule under repair waits (R206).

A FILL burst into CT0's scratch writes the bytes of FILL, byte j of the destination address modulo 8, and no other byte
of scratch; a COPY burst from CT0's scratch writes the bytes it read; a COMPARE writes no memory, and counts the bytes that
differ and the first of them. No granule is poisoned there. -/
def Obligations.DmaMoves : Prop :=
  (∀ (s : State) (o : DmaBurstOp) (i : Nat) (rest : List Nat),
    let ch := 64 * o.tile.toNat + o.c.toNat
    let c := s.chan ch
    let d := c.act
    let n := min (64 * d.burst.toNat) (d.len.toNat - i * (64 * d.burst.toNat))
    let x := s.burstEcc d o.src o.dst
    (c.outst = [] → exec (.dmaBurstComplete o) s = .next s) ∧
    (c.outst = i :: rest →
      (∀ at_, x.burstWait d i = some at_ → exec (.dmaBurstComplete o) s = .next (x.noteWait at_.1 at_.2 n)) ∧
      (x.burstWait d i = none → x.burstBad d i o.src o.dst = true → exec (.dmaBurstComplete o) s =
        .next (x.setChan ch { x.chan ch with
          outst := rest, stop := if c.stop = 0 then 4 else c.stop,
          badAt := some (c.badAt.getD (i * (64 * d.burst.toNat))) })) ∧
      (x.burstWait d i = none → x.burstBad d i o.src o.dst = false →
        let y := (x.setChan ch { x.chan ch with outst := rest }).dmaMove ch i
        exec (.dmaBurstComplete o) s = .next ((((y.setChan ch { y.chan ch with
          progress := (y.chan ch).progress + BitVec.ofNat 64 n }).count cDmaBurst ch 1).count cDmaBytes ch n).pulseLine
            (ch / 64) (ch % 64))))) ∧
  (∀ (s : State) (o : DmaBurstOp) (i : Nat) (rest : List Nat), o.src = {} → o.dst = {} → s.memOk = true →
    s.mem.poison = [] →
    let ch := 64 * o.tile.toNat + o.c.toNat
    let c := s.chan ch
    let d := c.act
    let n := min (64 * d.burst.toNat) (d.len.toNat - i * (64 * d.burst.toNat))
    let at_ := d.dst.toNat % 2 ^ 56 + i * (64 * d.burst.toNat)
    let from_ := d.src.toNat % 2 ^ 56 + i * (64 * d.burst.toNat)
    c.mode = .running → c.outst = i :: rest → d.dst.toNat / 2 ^ 56 = 1 → d.mode.getLsbD 1 = false →
    d.mode.getLsbD 0 = false →
    let same := fun t : State => t.lmem = s.lmem ∧ t.t1 = s.t1 ∧ t.t2 = s.t2 ∧ t.pkt = s.pkt ∧ t.tree = s.tree ∧
      (t.chan ch).outst = rest ∧ (t.chan ch).progress = c.progress + BitVec.ofNat 64 n
    let moved := fun b : Nat → Byte => ∃ t : State, exec (.dmaBurstComplete o) s = .next t ∧
      (∀ j, j < n → t.t0.read (at_ + j) = b j) ∧ (∀ x, (x < at_ ∨ at_ + n ≤ x) → t.t0.read x = s.t0.read x) ∧ same t
    (d.op.toNat % 4 = 1 → moved (fun j => BitVec.ofNat 8 (d.fill.toNat / 256 ^ ((at_ + j) % 8)))) ∧
      (d.op.toNat % 4 = 0 → d.src.toNat / 2 ^ 56 = 1 → moved (fun j => s.t0.read (from_ + j))) ∧
      (d.op.toNat % 4 = 2 → d.src.toNat / 2 ^ 56 = 1 → ∃ t : State, exec (.dmaBurstComplete o) s = .next t ∧
        t.t0 = s.t0 ∧ same t ∧
        (let diff := (List.range n).filter (fun j => s.t0.read (from_ + j) != s.t0.read (at_ + j))
         (t.chan ch).mism = c.mism + diff.length ∧
         (t.chan ch).mismFirst = (match c.mismFirst, diff with
           | some x, _ => some x
           | none, j :: _ => some (i * (64 * d.burst.toNat) + j)
           | none, [] => none))))

/-- With the rails off no repair is served, ends or is late (R508). A repair request is answered from the object's bytes, or
with none where they are bad, beyond the object or the object is not defined (R202); a repair that ends with the buddy's bytes
clears the poison, counts and writes the granule, and one that ends without them loses it; a repair still open past its time
is late once.

Background work runs from step 4 of startup to RUN, and in FAULT of a failed bring-up: a turn of the scratch scrub or of the
HBM patrol moves its place on, modulo the turns of a pass, which it counts, with what its error correction reports; the scrubs
of local memory, the packet buffer, the tree store and the crema cache count what they correct and mark what they do not
(R207, R209, R410, R494, R495). Calibration of the bridges and the collection of telemetry change nothing that the spec gives
the machine.

A CXL link that retrains at a smaller width is counted and reported; one that goes down, or an HBM stack that fails, is
reported and the module reports itself absent; a CXL device's corrected error counts in t2_ce, an uncorrectable one poisons
the T2 granule (R188, R190, R291); with the rails off none of them has an effect (R508).

That those two commands change nothing, that a bad word of local memory is kept until a store, and which frame a bad line of
the packet buffer hits are the model's readings (log entries 128, 87, 127). -/
def Obligations.MemoryErrors : Prop :=
  ((∀ (s : State) (o : RepairReqOp) (g : GranuleOp) (d : RepairDoneOp), s.power ≠ .on →
    exec (.repairRequestServe o) s = .next s ∧ exec (.memRepairLate g) s = .next s ∧
      exec (.memRepairComplete d) s = .next s) ∧
  (∀ (s : State) (o : RepairReqOp), s.power = .on →
    let gives := fun (x : State) (b : Option (List Byte)) => exec (.repairRequestServe o) s =
      .next (x.sendMsg o.src.toNat 5 (.repairCopy o.part.toNat o.obj.toNat o.offset b))
    (s.obj o.part.toNat o.obj.toNat = none → gives s none) ∧
    (∀ d : ObjDesc, s.obj o.part.toNat o.obj.toNat = some d →
      let r := s.noteEcc d.home.1 o.ecc false
      let bad := d.size < o.offset + o.len ∨ r.poisoned d.home.1 (d.home.2 + o.offset) o.len = true
      (bad → gives r none) ∧ (¬bad → gives r (some (r.memRead d.home.1 (d.home.2 + o.offset) o.len))))) ∧
  (∀ (s : State) (g : GranuleOp), s.power = .on →
    let base := granBase g.tier g.addr
    (∀ p, s.poisonAt g.tier base = some p → p.repair = true → p.late = false →
      let marked := s.mem.poison.map (fun q : Poison => if q.gran = p.gran then { q with late := true } else q)
      exec (.memRepairLate g) s = .next (({ s with mem := { s.mem with poison := marked } }.count cMemRepairLate 0 1).raise
        0x7004 0xFF g.tier (if g.tier = 0 then base % 805306368 else base))) ∧
    ((∀ p, s.poisonAt g.tier base = some p → p.repair = false ∨ p.late = true) → exec (.memRepairLate g) s = .next s)) ∧
  (∀ (s : State) (o : RepairDoneOp), s.power = .on →
    let base := granBase o.tier o.addr
    let open_ := ∃ p, s.poisonAt o.tier base = some p ∧ p.repair = true
    (open_ → o.bytes = none → exec (.memRepairComplete o) s = .next ((s.loseGranule o.tier base).repairsEnd)) ∧
    (∀ b, open_ → o.bytes = some b → exec (.memRepairComplete o) s =
      .next ((((((s.ueOutcome o.tier base 1 o.ns.toNat).clearPoison o.tier base).memPut o.tier base
        (padTo (granLen o.tier) b)).count cMemRepair 0 1).raise 0x7002 0xFF o.tier
          (if o.tier = 0 then base % 805306368 else base)).repairsEnd)) ∧
    (¬open_ → exec (.memRepairComplete o) s = .next s.repairsEnd)) ∧
  (∀ (s : State) (o : RepairDoneOp) (p : Poison) (b : List Byte), s.power = .on → o.tier = 1 → s.memOk = true → s.emb.late = [] →
    s.poisonAt 1 (o.addr / 256 * 256) = some p → p.repair = true → o.bytes = some b → b.length = 256 →
    ∃ t : State, exec (.memRepairComplete o) s = .next t ∧ t.t0 = s.t0 ∧ t.t2 = s.t2 ∧ t.lmem = s.lmem ∧
      (∀ j, j < 256 → t.t1.read (o.addr / 256 * 256 + j) = b.getD j 0#8) ∧
      (∀ x, (x < o.addr / 256 * 256 ∨ o.addr / 256 * 256 + 256 ≤ x) → t.t1.read x = s.t1.read x))) ∧
  (∀ (s : State) (o : ScrubOp) (l : LmScrubOp) (p : PktScrubOp) (w : TreeScrubOp) (c : CremaScrubOp),
    let st := s.boot.state
    let on := (4 ≤ st ∧ st ≤ 8) ∨ (st = 9 ∧ (s.boot.fault = 11 ∨ s.boot.fault = 12))
    let turn := fun (place turns pass tier : Nat) (x : State) =>
      if place + 1 = turns then (x.noteEcc tier o.ecc true).count pass 0 1 else x.noteEcc tier o.ecc true
    let k := l.core.toNat
    let words := (l.ue.map (fun v => k * 262144 + 8 * v.toNat)).filter (fun v => !s.mem.lmBad.contains v)
    let pc := s.count cNtSramCe 0 p.ce
    let tc := s.count cTeStoreCe w.lane.toNat w.ce
    let cc := s.count cNtSramCe 0 c.ce
    (on → exec (.scratchScrub o) s = .next (turn s.mem.t0Scrub 65536 cScrubPassT0 0
        { s with mem := { s.mem with t0Scrub := (s.mem.t0Scrub + 1) % 65536 } }) ∧
      exec (.hbmPatrol o) s = .next (turn s.mem.t1Patrol 8789062 cScrubPassT1 1
        { s with mem := { s.mem with t1Patrol := (s.mem.t1Patrol + 1) % 8789062 } }) ∧
      (k < 128 * s.variant.tiles → exec (.localMemoryScrub l) s =
        .next (({ s with mem := { s.mem with lmBad := s.mem.lmBad ++ words } }.count cScLmCe k l.ce).count cScLmUe k
          l.ue.length)) ∧
      exec (.packetBufferScrub p) s = .next (if p.ue = false then pc else if p.frame = 0 then pc.count cPbUe 0 1
        else (pc.count cPbUe 0 1).frameBad p.frame) ∧
      (s.variant ≠ .t →
        exec (.treeStoreScrub w) s = .next (match w.ue with
          | none => tc
          | some a => ((tc.treeUe w.lane.toNat (8 * (a.toNat / 8))).damageUsers 0 (8 * (a.toNat / 8))).damageUsers 1
            (8 * (a.toNat / 8))) ∧
        exec (.cremaCacheScrub c) s = .next (match c.ue with
          | none => cc
          | some i => if Tab.get none s.emb.crema i = none then cc
            else { cc with emb := { s.emb with crema := Tab.put none s.emb.crema i none } }.count cCacheUeInvalidate 0 1))) ∧
    (¬on → ∀ i ∈ [Instr.scratchScrub o, .hbmPatrol o, .localMemoryScrub l, .packetBufferScrub p, .treeStoreScrub w,
      .cremaCacheScrub c], exec i s = .next s) ∧
    exec .bridgeCalibration s = .next s ∧ exec .telemetryCollection s = .next s) ∧
  (∀ (s : State), s.power ≠ .on → ∀ (d : CxlOp) (h : HbmOp),
    exec (.cxlLinkDegraded d) s = .next s ∧ exec (.cxlLinkDown d) s = .next s ∧ exec (.hbmStackFail h) s = .next s) ∧
  (∀ (s : State) (o : CxlEventOp), (s.power = .off → exec (.cxlEventRecord o) s = .next s) ∧
    (s.power ≠ .off → o.corrected = true → exec (.cxlEventRecord o) s = .next (s.count cT2Ce 0 1)) ∧
    (s.power ≠ .off → o.corrected = false → exec (.cxlEventRecord o) s = .next (s.detectUe 2 o.addr true))) ∧
  (∀ (s : State), s.power = .on →
    (∀ o : CxlOp, let w := Tab.put 0 s.mem.cxlWidth o.dev.toNat o.width
      exec (.cxlLinkDegraded o) s = .next (({ s with mem := { s.mem with cxlWidth := w } }.count cCxlWidthDown 0 1).raise
        0x7005 0xFF o.dev.toNat o.width) ∧
      exec (.cxlLinkDown o) s = .next ({ s with
        mem := { s.mem with cxlDown := s.mem.cxlDown ++ [o.dev.toNat] }, fab := { s.fab with leaving := true } }.raise
          0x7006 0xFF o.dev.toNat 0)) ∧
    (∀ o : HbmOp, ((s.variant ≠ .s ∨ o.stack.toNat < 4) → exec (.hbmStackFail o) s = .next ({ s with
        mem := { s.mem with hbmFail := s.mem.hbmFail ++ [o.stack.toNat] }, fab := { s.fab with leaving := true } }.raise
          0x7007 0xFF o.stack.toNat 0)) ∧
      (s.variant = .s → 4 ≤ o.stack.toNat → exec (.hbmStackFail o) s = .next s)))

/-! ### Mailbox objects, rows, collectives -/

/-- A mailbox command's answer (R432): BUSY ends and DONE is set, the response holds the command, the status, the length, the
tag, zeros and the payload, and the vector's message is sent where IRQ_EN is set; a response after a host reset is discarded.

OBJ_ALLOC takes the lowest free index, or fails with ST_NO_OBJECT, counted; the first check of Table 7.6 that fails gives the
status, and an extent outside the partition's range is its violation; else it holds the descriptor's fields with that index
and answers them. OBJ_QUERY answers an object's descriptor; OBJ_FREE of an object that nothing names removes it, its repairs
lost; one that is named stays (R194, R196). A T0_UNIT beyond the scratch of its tile is outside every range.

Such a command of a partition that is not ENABLED has no effect (R422); one that finds BUSY sets OVERRUN and counts in
pt_mbx_busy, and one that comes while the MC executes another request waits (R432, R446). That the mailbox of an endpoint
sends no message is the model's reading (log entry 82). TBL_DEFINE likewise by Table 8.3; TBL_FREE of a defined table while
the schedule stands removes its descriptor, TBL_QUERY answers it (R213, R217, R218). COLL_DEFINE likewise by Table 9.2;
COLL_FREE with the schedule stopped, or in a re-map, removes it; COLL_QUERY answers it (R245 to R247). A FREE or QUERY whose
payload is not 2 bytes gets ST_BAD_LENGTH. -/
def Obligations.MailboxObjects : Prop :=
  let first := fun l : List (Bool × Nat) => ((l.find? (·.1)).map (·.2)).getD 0
  (∀ (s : State) (who cmd status tag : Nat) (resp : List Byte),
    let m := Tab.get {} s.host.mbx who
    let box := { m with
      busy := false, done := true,
      resp := leBytes 2 cmd ++ leBytes 2 status ++ leBytes 4 resp.length ++ leBytes 4 tag ++ leBytes 4 0 ++ resp }
    (m.discard = false → (m.irqEn = false ∨ 4 ≤ who) → s.mbxRespond who cmd status tag resp = s.setMbx who box) ∧
    (m.discard = false → m.irqEn = true → who < 4 →
      s.mbxRespond who cmd status tag resp = (s.setMbx who box).msix who m.vector []) ∧
    (m.discard = true → s.mbxRespond who cmd status tag resp = s.setMbx who { m with busy := false, discard := false })) ∧
  (∀ (s : State) (o : MbxCmdOp),
    let p := o.part.toNat
    let m := Tab.get ({} : Mailbox) s.host.mbx p
    ∀ e ∈ [(Instr.objAlloc o, 0x0701), (.objFree o, 0x0702), (.objQuery o, 0x0703), (.tblDefine o, 0x0801), (.tblFree o, 0x0802),
        (.tblQuery o, 0x0803), (.collDefine o, 0x0601), (.collFree o, 0x0602), (.collQuery o, 0x0603)],
      (s.ptEnabled p = false → exec e.1 s = .next s) ∧
      (s.ptEnabled p = true → m.busy = true →
        exec e.1 s = .next ((s.setMbx p { m with overrun := true }).count cPtMbxBusy p 1)) ∧
      (s.ptEnabled p = true → m.busy = false → s.mcBusy = true →
        let w := s.mbxAsk e.2 o
        exec e.1 s = .next { w with dap := { w.dap with queue := w.dap.queue ++ [.mbx p] } })) ∧
  (∀ (s : State) (o : MbxCmdOp), s.mbxFree o.part.toNat →
    let p := o.part.toNat
    let d := BitVec.ofNat 512 (leNat (padTo 64 o.payload))
    let f := objDesc d
    let h := f.home
    let bud := leAt (s.dget 0x730004) (2 * s.rank) 2
    let used := fun i : Nat => (Tab.get none s.mem.objects (65536 * p + i)).isSome
    let aligned := if f.policy = 0 then f.size % 64 = 0 else f.size % 256 = 0 ∧ h.2 % 256 = 0
    let beyond := f.policy = 0 ∧ 805306368 ≤ 64 * f.t0Unit
    let outside := beyond ∨ s.inPart p h.1 h.2 f.size = false
    let clash := s.mem.objects.any (fun e => match e.2 with
      | some q => decide (e.1 / 65536 = p) && (let w := (objDesc q).home
          decide (w.1 = h.1) && (decide (w.1 ≠ 0) || decide (w.2 / 805306368 = h.2 / 805306368)) &&
          overlaps w.2 (objDesc q).size h.2 f.size)
      | none => false)
    let st := first [
      (decide (4 ≤ f.policy ∨ f.size = 0 ∨ (f.policy = 0 ∧ (f.mirrored = true ∨ f.rows = true)) ∨
        (f.mirrored = true ∧ (bud = 0xFFFF ∨ f.buddy ≠ s.coordOf bud))), 0x09),
      (decide (¬aligned ∨ outside ∨ (h.1 = 1 ∧ s.rowCacheBase < h.2 + f.size)), 0x24), (clash, 0x23)]
    let gives := fun (i : Instr) (cmd : Nat) (x : State → State) (st : Nat) (r : List Byte) =>
      exec i s = .next ((x (s.mbxAsk cmd o)).mbxRespond p cmd st o.tag.toNat r)
    ((∀ i, i < 65536 → used i = true) → gives (.objAlloc o) 0x0701 (fun s => s.count cObjAllocFail p 1) 0x40 []) ∧
    (∀ ix, ix < 65536 → used ix = false → (∀ j, j < ix → used j = true) →
      let with_ := BitVec.ofNat 512 (keepBits objFields d.toNat + ix * 65536)
      let objs := Tab.put none s.mem.objects (65536 * p + ix) (some with_)
      (st = 0 → gives (.objAlloc o) 0x0701 (fun s => { s with mem := { s.mem with objects := objs } }.count cObjAlloc 0 1) 0
        (leBytes 64 with_.toNat)) ∧
      (st = 0x24 → outside → gives (.objAlloc o) 0x0701
        (fun s => s.violate p 6 (if beyond then 1 else s.rangeReason p h.1 h.2 f.size) h.2) 0x24 []) ∧
      (st ≠ 0 → (st ≠ 0x24 ∨ ¬outside) → gives (.objAlloc o) 0x0701 id st [])) ∧
    (∀ (ix : Nat) (q : Vec), o.payload = leBytes 2 ix → ix < 65536 →
      (Tab.get none s.mem.objects (65536 * p + ix) = some q →
        gives (.objQuery o) 0x0703 id 0 (leBytes 64 q.toNat) ∧
        (s.objNamed p ix = false →
          gives (.objFree o) 0x0702 (fun s => ((s.dropObject p ix).loseObject (objDesc q)).count cObjFree 0 1) 0 []) ∧
        (s.objNamed p ix = true → gives (.objFree o) 0x0702 id 0x42 [])) ∧
      (used ix = false → gives (.objQuery o) 0x0703 id 0x41 [] ∧ gives (.objFree o) 0x0702 id 0x41 [])) ∧
    (o.payload.length ≠ 2 → gives (.objQuery o) 0x0703 id 0x08 [] ∧ gives (.objFree o) 0x0702 id 0x08 [] ∧
      gives (.tblQuery o) 0x0803 id 0x08 [] ∧ gives (.tblFree o) 0x0802 id 0x08 [] ∧
      gives (.collQuery o) 0x0603 id 0x08 [] ∧ gives (.collFree o) 0x0602 id 0x08 [])) ∧
  (∀ (s : State) (o : MbxCmdOp), s.mbxFree o.part.toNat →
    let p := o.part.toNat
    let d := BitVec.ofNat 512 (leNat (padTo 64 o.payload))
    let t := tblDesc d
    let held := fun i : Nat => Tab.get none s.emb.tables (4096 * p + i)
    let given := fun (i : Nat) (v : Option Vec) (s : State) =>
      { s with emb := { s.emb with tables := Tab.put none s.emb.tables (4096 * p + i) v } }
    let gives := fun (i : Instr) (cmd : Nat) (x : State → State) (st : Nat) (r : List Byte) =>
      exec i s = .next ((x (s.mbxAsk cmd o)).mbxRespond p cmd st o.tag.toNat r)
    let has := fun i : Nat => (s.obj p i).isSome = true
    let rows := fun i : Nat => ∃ g, s.obj p i = some g ∧ g.rows = true
    let size := s.objSize p
    ((∀ i, i < 4096 → (held i).isSome = true) → gives (.tblDefine o) 0x0801 (fun s => s.count cEuTblFail p 1) 0x43 []) ∧
    (∀ ix, ix < 4096 → held ix = none → (∀ j, j < ix → (held j).isSome = true) →
      let d' := BitVec.ofNat 512 (keepBits tblFields d.toNat + ix * 2 ^ 32)
      let running := s.dnum 0x600008 = 1
      let format := t.elem ∈ [1, 2, 3, 4, 17]
      let rounding := t.round = 0 ∨ (t.round = 4 ∧ t.elem ≠ 2 ∧ t.elem ≠ 17) ∨ (t.round = 1 ∧ t.elem ≠ 17)
      let value := 1 ≤ t.dim ∧ t.dim ≤ 512 ∧ t.opt ≤ 5 ∧ 1 ≤ t.nshard ∧ 1 ≤ t.rows ∧ t.base + t.nshard ≤ s.podSize ∧
        (t.score = true → t.repl = true) ∧ (t.crema = true → t.score = true ∧ t.dim ≤ 64) ∧
        (t.mirror ≠ 0xFFFF → s.mirrorNamed p t.mirror = false)
      let present := s.euOk t.homeEu = true ∧ ((t.score = true ∨ t.crema = true) → s.variant ≠ .t)
      let objects := has t.homeObj ∧ has t.stageObj ∧ has t.exchObj ∧ rows t.homeObj ∧
        (t.mirror ≠ 0xFFFF → rows t.mirror) ∧
        (t.repl = true → ∃ g, s.obj p t.replObj = some g ∧ g.rows = true ∧ g.policy = 1 ∧ g.mirrored = true)
      let shape := t.rows * t.recLen ≤ size t.homeObj ∧ (t.mirror ≠ 0xFFFF → t.rows * t.recLen ≤ size t.mirror) ∧
        (t.repl = true → t.nshard * t.rows * t.rrecLen ≤ size t.replObj) ∧ 64 + t.recLen ≤ size t.stageObj ∧
        2 * t.exchLen ≤ size t.exchObj
      (running → gives (.tblDefine o) 0x0801 id 0x60 []) ∧
      (¬running → ¬format → gives (.tblDefine o) 0x0801 id 0x20 []) ∧
      (¬running → format → ¬rounding → gives (.tblDefine o) 0x0801 id 0x21 []) ∧
      (¬running → format → rounding → ¬value → gives (.tblDefine o) 0x0801 id 0x09 []) ∧
      (¬running → format → rounding → value → ¬present → gives (.tblDefine o) 0x0801 id 0x2A []) ∧
      (¬running → format → rounding → value → present → ¬objects → gives (.tblDefine o) 0x0801 id 0x41 []) ∧
      (¬running → format → rounding → value → present → objects → ¬shape → gives (.tblDefine o) 0x0801 id 0x22 []) ∧
      (¬running → format → rounding → value → present → objects → shape →
        gives (.tblDefine o) 0x0801 (given ix (some d')) 0 (leBytes 64 d'.toNat))) ∧
    (∀ ix, o.payload = leBytes 2 ix → ix < 65536 →
      (∀ q, ix < 4096 → held ix = some q →
        gives (.tblQuery o) 0x0803 id 0 (leBytes 64 q.toNat) ∧
        (s.dnum 0x600008 ≠ 1 → gives (.tblFree o) 0x0802 (given ix none) 0 [])) ∧
      ((4096 ≤ ix ∨ held ix = none) → gives (.tblQuery o) 0x0803 id 0x44 [] ∧
        (s.dnum 0x600008 ≠ 1 → gives (.tblFree o) 0x0802 id 0x44 [])) ∧
      (s.dnum 0x600008 = 1 → gives (.tblFree o) 0x0802 id 0x60 []))) ∧
  (∀ (s : State) (o : MbxCmdOp), s.mbxFree o.part.toNat →
    let p := o.part.toNat
    let d := BitVec.ofNat 512 (leNat (padTo 64 o.payload))
    let c := collDesc d
    let held := fun i : Nat => Tab.get none s.coll.defs (256 * p + i)
    let given := fun (i : Nat) (v : Option Vec) (s : State) =>
      { s with coll := { s.coll with defs := Tab.put none s.coll.defs (256 * p + i) v } }
    let gives := fun (i : Instr) (cmd : Nat) (x : State → State) (st : Nat) (r : List Byte) =>
      exec i s = .next ((x (s.mbxAsk cmd o)).mbxRespond p cmd st o.tag.toNat r)
    let running := s.dnum 0x600008 = 1 ∧ s.sched.state ≠ 13
    let pinned := fun j : Nat => ∃ g, s.obj p j = some g ∧ g.policy ≤ 1
    let size := s.objSize p
    ((∀ i, i < 256 → (held i).isSome = true) → gives (.collDefine o) 0x0601 (fun s => s.count cCollDefFail p 1) 0x45 []) ∧
    (∀ ix, ix < 256 → held ix = none → (∀ j, j < ix → (held j).isSome = true) →
      let d' := BitVec.ofNat 512 (keepBits collFields d.toNat + ix * 2 ^ 32)
      let value := 1 ≤ c.len ∧ (c.reduce = true ∨ c.gather = true) ∧ c.bpe ≤ 32 ∧ (c.mirror = true → 1 ≤ c.bpe) ∧
        (∀ g, g < 3 → 1 < s.dim g → (c.reduce = true → c.hop.getD g 0 ≠ 0 ∧ c.scale ≠ 0) ∧
          (c.gather = true → c.ag.getD g 0 ≠ 0))
      let objects := (∀ j ∈ c.objects, (s.obj p j).isSome = true) ∧
        (c.mirror = true → ∀ g, s.obj p c.stateObj = some g → g.mirrored = true)
      let resOk := c.resEn = true → covers (s.ptScratch p 0) (64 * c.resUnit) 64 = true
      let fenceOk := c.doneEn = true → inRange (s.ptRange p 12) c.fence = true
      let pins := (c.reduce = true → pinned c.gradObj) ∧ (c.gather = true → pinned c.param0 ∧ pinned c.param1)
      let shape := (c.reduce = true → 4 * c.len ≤ size c.gradObj) ∧
        (c.gather = true → c.len * c.psize ≤ size c.param0 ∧ c.len * c.psize ≤ size c.param1) ∧
        (c.mirror = true → 2 * s.shardBound c * c.bpe ≤ size c.stateObj)
      let plan := s.sched.state = 13 →
        s.planBroken (given ix (some d') s).colls (s.dnum 0x610005) (s.dnum 0x610007) = false
      (running → gives (.collDefine o) 0x0601 id 0x60 []) ∧
      (¬running → 4 < c.pfmt → gives (.collDefine o) 0x0601 id 0x20 []) ∧
      (¬running → c.pfmt ≤ 4 →
        (¬value → gives (.collDefine o) 0x0601 id 0x09 []) ∧
        (value → ¬objects → gives (.collDefine o) 0x0601 id 0x41 []) ∧
        (value → objects → ¬resOk → gives (.collDefine o) 0x0601 (fun s => s.violate p 6 (if 64 * c.resUnit + 64 ≤ 805306368 then
          s.rangeReason p 0 (64 * c.resUnit) 64 else 1) (64 * c.resUnit)) 0x24 []) ∧
        (value → objects → resOk → ¬fenceOk → gives (.collDefine o) 0x0601 (fun s => s.violate p 6
          (if (s.fenceOwner c.fence).isSome = true then 0 else 1) (0x2040000 + 8 * c.fence)) 0x24 []) ∧
        (value → objects → resOk → fenceOk → ¬pins → gives (.collDefine o) 0x0601 id 0x24 []) ∧
        (value → objects → resOk → fenceOk → pins → ¬shape → gives (.collDefine o) 0x0601 id 0x22 []) ∧
        (value → objects → resOk → fenceOk → pins → shape → ¬plan → gives (.collDefine o) 0x0601 id 0x61 []) ∧
        (value → objects → resOk → fenceOk → pins → shape → plan →
          gives (.collDefine o) 0x0601 (given ix (some d')) 0 (leBytes 64 d'.toNat)))) ∧
    (∀ ix, o.payload = leBytes 2 ix → ix < 65536 →
      (∀ q, ix < 256 → held ix = some q → gives (.collQuery o) 0x0603 id 0 (leBytes 64 q.toNat) ∧
        (¬running → gives (.collFree o) 0x0602 (given ix none) 0 [])) ∧
      ((256 ≤ ix ∨ held ix = none) → gives (.collQuery o) 0x0603 id 0x46 [] ∧
        (¬running → gives (.collFree o) 0x0602 id 0x46 [])) ∧
      (running → gives (.collFree o) 0x0602 id 0x60 [])))

/-- Rows between modules: a request is answered on virtual channel 5 with the row's committed value, or as unavailable where no
record is served here or a poisoned granule affects it; a reply is taken by every EU that waits for the row, which goes on once
no row is missing; a request that is 64 ticks old is given up as unavailable and counted; a hint fills the row's lines (R222,
R224, R235, R290).

The exchange and the mirrors at a receiver: an entry before the reduce deadline that the receive half has room for joins it in
its order, one without room is counted and refused, a later one is late; an END names its source and count once; a mirror
record that its table's stage holds is staged and acknowledged, one that no table's mirror names is counted, one without room
counted and reported; a discard drops the source's mirror records of the object and is acknowledged; a replica record is
staged with the epoch to come, or refused, but none of a table whose updates the step has dropped (R77, R227, R228, R230,
R231, R232).

An acknowledgement of a mirror record, or of a discard, ends the wait for it of the EU that sent it (R230, R232).

That a reply is taken by every EU that waits for its row, the time in which entries and an END are taken, and the count that
an END carries are the model's readings (log entries 99, 159, 163), and so is that a mirror record is staged whatever step it
comes from and that a replica record that comes after the drop is not (log entry 188). -/
def Obligations.RowsBetweenModules : Prop :=
  (∀ (s : State) (o : RowOp),
    let p := o.part.toNat
    let tb := o.table.toNat
    let k : RowKey := ⟨p, tb, o.shard, o.slot⟩
    let r := ((s.noteEcc 1 o.t1 false).noteEcc 2 o.t2 false).rcBad o.bad
    let answers := fun (x : State) (row : Option (List Byte)) => exec (.remoteRowRequest o) s =
      .next (x.sendMsg o.src 5 (.rowReply p tb o.shard o.slot row))
    (∀ t h, r.tbl p tb = some t → r.recordAt p t o.shard o.slot = some h →
      let x := r.touchLines (h.1, h.2.1, t.recLen, h.2.2) false
      (x.rowBad k = true → answers x none) ∧
      (x.rowBad k = false → answers x (some (x.memRead h.1 (h.2.1 + 8) t.valueLen))) ∧
      exec (.cacheHint o) s = .next (r.touchLines (h.1, h.2.1, t.recLen, h.2.2) true)) ∧
    ((∀ t, r.tbl p tb = some t → r.recordAt p t o.shard o.slot = none) →
      answers r none ∧ exec (.cacheHint o) s = .next r)) ∧
  (∀ (s : State) (o : RowReplyOp) (w : RowTimeoutOp),
    let took := fun (x : State) (n : Nat) (run : EuRun) (k : RowKey) (row : Option (List Byte)) =>
      (x.setEu n { x.eu n with
        run := some { run with need := run.need.filter (fun y => y.1 != k), got := run.got ++ [(k, row)] } }).gatherTry n
    let k : RowKey := ⟨o.part.toNat, o.table.toNat, o.shard, o.slot⟩
    let kw : RowKey := ⟨w.part.toNat, w.table.toNat, w.shard, w.slot⟩
    let n := w.unit.toNat
    let due := fun run : EuRun => ∃ y ∈ run.need, y.1 = kw ∧ y.2 + 64 ≤ s.clk.edges
    exec (.remoteRowReply o) s = .next ((List.range 16).foldl (fun (x : State) m => match (x.eu m).run with
      | some run => if ∃ y ∈ run.need, y.1 = k then took x m run k o.row else x
      | none => x) s) ∧
    (∀ run, n < 16 → (s.eu n).run = some run →
      (due run → exec (.remoteRequestTimeout w) s = .next (took (s.count cFabReqTimeout 48 1) n run kw none)) ∧
      (¬due run → exec (.remoteRequestTimeout w) s = .next s)) ∧
    ((s.eu n).run = none → exec (.remoteRequestTimeout w) s = .next s)) ∧
  (∀ (s : State) (o : ExchOp),
    let p := o.part.toNat
    let x := s.step_ p o.table.toNat
    let e : ExchEnt := ⟨o.shard, o.slot, o.src, o.grads.map (·.toNat)⟩
    (∀ t, s.tbl p o.table.toNat = some t →
      (s.exchOpen = true → x.recv.length < s.halfCap p t → exec (.exchEntryReceive o) s =
        .next ((s.setStep p o.table.toNat { x with recv := x.recv ++ [e] }).exchStore p t true x.recv.length e)) ∧
      (s.exchOpen = true → s.halfCap p t ≤ x.recv.length → exec (.exchEntryReceive o) s = .next (s.count cEuExchFull 0 1)) ∧
      (s.exchOpen = false → exec (.exchEntryReceive o) s = .next (s.count cSchedEdgeLate 0 1))) ∧
    (s.tbl p o.table.toNat = none → exec (.exchEntryReceive o) s = .next s)) ∧
  (∀ (s : State) (o : ExchEndOp),
    let x := s.step_ o.part.toNat o.table.toNat
    (s.exchOpen = true → (∀ e ∈ x.ends, e.1 ≠ o.src) → exec (.exchEndReceive o) s =
      .next (s.setStep o.part.toNat o.table.toNat { x with ends := x.ends ++ [(o.src, o.count)] })) ∧
    (s.exchOpen = true → (∃ e ∈ x.ends, e.1 = o.src) → exec (.exchEndReceive o) s = .next s) ∧
    (s.exchOpen = false → exec (.exchEndReceive o) s = .next (s.count cSchedEdgeLate 0 1))) ∧
  (∀ (s : State) (o : MirrorOp),
    let p := o.part.toNat
    let keep := s.emb.stage.filter (fun r =>
      !(r.part == p && r.kind == .mirror && r.obj == o.obj.toNat && r.src == o.src))
    let acked := fun run : EuRun => { run with acks := run.acks.filter (fun a =>
      !(a.1 == o.obj.toNat && a.2.part == p && a.2.shard == o.shard && a.2.slot == o.slot)) }
    let discarded := fun run : EuRun => { run with discard := run.discard.filter (fun d => !(d.1 == p && d.2 == o.obj.toNat)) }
    let each := fun f : EuRun → EuRun => (List.range 16).foldl (fun (x : State) n => match (x.eu n).run with
      | some run => x.setEu n { x.eu n with run := some (f run) }
      | none => x) s
    (s.mirrorTable p o.obj.toNat = none → exec (.mirrorRecordReceive o) s = .next (s.count cEuMirrorUnmatched 0 1)) ∧
    (∀ i t, s.mirrorTable p o.obj.toNat = some (i, t) →
      let t2 := ((s.obj p t.mirror).map (fun m => m.home.1 == 2)).getD false
      (s.stageFits p t t2 o.record.length = true → exec (.mirrorRecordReceive o) s =
        .next ((s.stagePut t ⟨p, i, .mirror, o.shard, o.slot, o.obj.toNat, o.src, o.record, t2, false, 0⟩).sendMsg o.src 1
          (.mirrorAck p o.obj.toNat o.shard o.slot))) ∧
      (s.stageFits p t t2 o.record.length = false → exec (.mirrorRecordReceive o) s =
        .next ((s.count cEuStageFull 0 1).raise 0x7010 p i (s.stagedBytes false + s.stagedBytes true)))) ∧
    exec (.mirrorDiscardReceive o) s = .next ({ s with emb := { s.emb with stage := keep } }.sendMsg o.src 1
      (.discardAck p o.obj.toNat)) ∧
    exec (.mirrorAckReceive o) s = .next (each acked) ∧ exec (.discardAckReceive o) s = .next (each discarded)) ∧
  (∀ (s : State) (o : ReplicaOp),
    let p := o.part.toNat
    let tb := o.table.toNat
    (s.tbl p tb = none → exec (.replicaRecordReceive o) s = .next s) ∧
    ((s.step_ p tb).dropped = true → exec (.replicaRecordReceive o) s = .next s) ∧
    (∀ t, s.tbl p tb = some t → (s.step_ p tb).dropped = false →
      (s.stageFits p t false t.rrecLen = true → exec (.replicaRecordReceive o) s =
        .next (s.stagePut t ⟨p, tb, .replica, o.shard, o.slot, t.replObj, o.src,
          padTo t.rrecLen (leBytes 4 (s.epoch + 1) ++ leBytes 4 0 ++ o.value), false, false, 0⟩)) ∧
      (s.stageFits p t false t.rrecLen = false → exec (.replicaRecordReceive o) s =
        .next ((({ s with emb := { s.emb with stageFull := true } }).count cEuStageFull 0 1).raise 0x7010 p tb
          (s.stagedBytes false + s.stagedBytes true)))))

/-- The chunks of a span (R250) divide it: every block of the span lies in exactly one of the n chunks. -/
def Obligations.ChunksDivideSpan : Prop :=
  ∀ (lo hi n b : Nat), 1 ≤ n → lo ≤ b → b < hi →
    ∃ c : Nat, c < n ∧ (chunk c (lo, hi) n).1 ≤ b ∧ b < (chunk c (lo, hi) n).2 ∧
      ∀ e : Nat, e < n → (chunk e (lo, hi) n).1 ≤ b → b < (chunk e (lo, hi) n).2 → e = c

/-- A slot opens at its edge, in order, for every position that this module runs, after the slot before it has closed at that
edge, and closes at the next slot's edge: then one more slot is closed. At another edge, in another phase, or with no slot
left, nothing happens (R260, R261).

A packet of another step or repeat is dropped and counted as stale; one of a reserved KIND or of no collective is counted as
bad; one whose slot has closed counts its units as late; else its units, of the size of its KIND, are taken by the position
that its sender serves, from the block it names on, and one that no position expects changes nothing (R258, R261). A unit of
any KIND, a HOLE too, taken twice changes nothing the second time (R261). A HOLE leaves the block a hole under the first rank
named, and the value of a later unit of a hole is dropped (R262). Of a SCALE_RS unit the value is kept, and the larger of it
and the position's own, as the own result of the stage before stands then, is passed on; of a SCALE_AG unit the finished
maximum, from which the agreed exponent follows (R252, R261). A block of KIND 3, with 32 markers at the agreed exponent and
one count where its E is 0xFF (R54), is forwarded, or has the module's own contribution added at its own position (R254,
R255); at its owner it is the result if HOPS is the number of live members, else a hole, counted and reported once in a step
(R256). A unit of KIND 4 is held and written to the copy of the parameters that the commit publishes (R266).

The state mirror at the buddy: a STATE packet of this step is written at the same offset of the same half of the object and
acknowledged with its first element and count; an acknowledgement ends that wait; either is dropped as a collective packet is
(R267, R268).

The slot that a HOLE names, the object that a STATE packet names, which is an operand, and that the first position whose
neighbour is served by the sender takes a packet are the model's choices (log entries 39, 103, 104). -/
def Obligations.Collectives : Prop :=
  (∀ (s : State) (o : CollSlotOp),
    (s.slots[s.coll.opened]? = none ∨ s.collPhase = false ∨ s.now ≠ s.slotEdge s.coll.opened →
      exec (.collSlotOpen o) s = .next s) ∧
    (s.slots[s.coll.slot]? = none ∨ s.collPhase = false ∨ s.now ≠ s.slotEdge (s.coll.slot + 1) →
      exec .collSlotClose s = .next s)) ∧
  (∀ (s : State) (o : CollSlotOp) (sl : Slot) (c : CollDesc),
    s.collPhase = true → s.collAt sl.part sl.coll = some c →
    (s.slots[s.coll.opened]? = some sl → s.now = s.slotEdge s.coll.opened →
      ∃ x : State, (if s.coll.slot < s.coll.opened then exec .collSlotClose s = .next x else x = s) ∧
        let s' := { x with coll := { x.coll with opened := s.coll.opened + 1 } }.collEcc o.t0 o.t1
        exec (.collSlotOpen o) s = .next (s'.positions.foldl (fun y r => y.openFor sl c r) s')) ∧
    (s.slots[s.coll.slot]? = some sl → s.now = s.slotEdge (s.coll.slot + 1) →
      ∃ t : State, exec .collSlotClose s = .next t ∧ t.coll.slot = s.coll.slot + 1 ∧
        t.coll.opened = max s.coll.opened (s.coll.slot + 1) ∧
        t.coll.unsent = (s.coll.unsent || s.slotUnsent sl) ∧ t.t0 = s.t0 ∧ t.t1 = s.t1 ∧ t.cores = s.cores)) ∧
  (∀ (s : State) (o : CollPktOp),
    let h := o.bytes
    let kind := (byteAt h 0).toNat
    let fl := (byteAt h 1).toNat
    let part := fl / 8 % 4
    let idx := beAt h 2 2
    let neg := fl / 4 % 2 == 1
    let now := beAt h 8 4 = s.stepId ∧ (byteAt h 5).toNat = s.sched.repeats
    let stale := s.count cCollStaleDrop 0 1
    let bad := s.count cCollBadPkt 0 1
    (¬now → exec (.collPacketReceive o) s = .next stale ∧
      (kind = 5 → exec (.statePacketReceive o) s = .next stale) ∧
      (kind = 6 → exec (.stateAckReceive o) s = .next stale)) ∧
    (now → kind = 0 ∨ 8 ≤ kind → exec (.collPacketReceive o) s = .next bad) ∧
    (now → s.collAt part idx = none → exec (.collPacketReceive o) s = .next bad ∧
      (kind = 5 → exec (.statePacketReceive o) s = .next bad) ∧ (kind = 6 → exec (.stateAckReceive o) s = .next bad)) ∧
    (kind ≠ 5 → exec (.statePacketReceive o) s = .next s) ∧ (kind ≠ 6 → exec (.stateAckReceive o) s = .next s) ∧
    (∀ c : CollDesc, now → s.collAt part idx = some c →
      let first := beAt h 12 4
      let n := beAt h 6 2
      (kind = 5 → exec (.collPacketReceive o) s = .next s ∧ exec (.statePacketReceive o) s =
        .next ((s.writeObj part o.obj.toNat ((s.epoch + 1) % 2 * (s.shardBound c * c.bpe) + first * c.bpe)
          ((h.drop 16).take (n * c.bpe))).sendMsg o.src 1 (.coll (s.collPayload 6 0 false part idx 0 n first [])))) ∧
      (kind = 6 → exec (.collPacketReceive o) s = .next s ∧ exec (.stateAckReceive o) s = .next { s with coll :=
        { s.coll with acks := s.coll.acks.filter (fun a => a != (part, idx, first)) } }) ∧
      (kind ∈ [1, 2, 3, 4, 7] →
        (s.packetSlot part idx kind (fl % 4) (byteAt h 4).toNat = none → exec (.collPacketReceive o) s = .next s) ∧
        (∀ (i : Nat) (sl : Slot), s.packetSlot part idx kind (fl % 4) (byteAt h 4).toNat = some (i, sl) →
          let us := cutUnits (if kind = 7 then 4 else if kind ≤ 2 then 1 else if kind = 3 then 66 else 32 * c.psize) n
            (h.drop 16)
          let x := s.collEcc o.t0 o.t1
          let blocks := fun q : Nat => x.blockList q c sl.kind sl.stage (sl.hop + 1) neg
          let from_ := fun q : Nat => x.ringNext q sl.stage (!neg)
          let mine := fun q : Nat => ((if x.fab.absent.contains (from_ q) then x.serves (from_ q) else from_ q) == o.src &&
            (blocks q).contains first)
          let closed := if kind = 4 then s.coll.gather = true ∧ i < s.coll.slot
            else s.coll.gather = true ∨ i < s.coll.slot
          (closed → exec (.collPacketReceive o) s =
            .next ((s.count cCollBlockLate 0 us.length).count cSchedEdgeLate 0 us.length)) ∧
          (¬closed → (∀ r ∈ x.positions, mine r = false) → exec (.collPacketReceive o) s = .next x) ∧
          (∀ (r : Nat) (a b : List Nat), ¬closed → x.positions = a ++ r :: b → mine r = true →
            (∀ q ∈ a, mine q = false) → exec (.collPacketReceive o) s = .next (x.takeUnits r sl c neg (kind == 7)
              (((blocks r).dropWhile (fun b => b != first)).zip us))))))) ∧
  (∀ (s : State) (r b : Nat) (sl : Slot) (c : CollDesc) (neg hole hole' : Bool) (u u' : List Byte),
    let t := s.takeUnit r sl c neg hole b u
    t.takeUnit r sl c neg hole' b u' = t) ∧
  (∀ (s : State) (r b : Nat) (sl : Slot) (c : CollDesc) (neg : Bool) (u : List Byte),
    let x := s.blk r sl.part sl.coll sl.stage b
    (sl.kind = 1 → x.gotR = false →
      s.takeUnit r sl c neg true b u = s.setBlk { x with gotR := true, hole := some (x.hole.getD (beAt u 0 2)) } ∧
      (x.hole.isSome = true → s.takeUnit r sl c neg false b u = s.setBlk { x with gotR := true })) ∧
    (sl.kind = 2 → x.gotA = false →
      s.takeUnit r sl c neg true b u = s.setBlk { x with gotA := true, hole := some (x.hole.getD (beAt u 0 2)) } ∧
      (x.hole.isSome = true → s.takeUnit r sl c neg false b u = s.setBlk { x with gotA := true })) ∧
    (sl.kind = 3 → x.gotH = false →
      s.takeUnit r sl c neg true b u = s.setBlk { x with gotH := true, hole := some (x.hole.getD (beAt u 0 2)) })) ∧
  (∀ (s : State) (r b : Nat) (sl : Slot) (c : CollDesc) (neg : Bool) (u : List Byte),
    (s.blk r sl.part sl.coll sl.stage b).hole = none →
    let t := s.takeUnit r sl c neg false b u
    let x := t.blk r sl.part sl.coll sl.stage b
    (sl.kind = 1 → (s.blk r sl.part sl.coll sl.stage b).gotR = false → x.mx = (byteAt u 0).toNat ∧
      t.blockMax c x = max (byteAt u 0).toNat (t.positionELoc r sl.part sl.coll c sl.stage b)) ∧
    (sl.kind = 2 → (s.blk r sl.part sl.coll sl.stage b).gotA = false → x.fin = some (byteAt u 0).toNat ∧
      t.agreedE c x = min 254 ((byteAt u 0).toNat + s.dnum 0x620001))) ∧
  (∀ (s : State) (r b : Nat) (sl : Slot) (c : CollDesc) (neg : Bool) (u : List Byte), sl.kind = 3 →
    (s.blk r sl.part sl.coll sl.stage b).gotH = false →
    let x := { s.blk r sl.part sl.coll sl.stage b with gotH := true }
    let k := bsAccept (s.agreedE c x) (bsOfBytes u)
    let y := s.countArith 4 k.cnt
    let owner := sl.hop + 2 = s.dim sl.stage
    let settles := fun (z : State) (w : BsBlock) =>
      (¬owner → s.takeUnit r sl c neg false b u = z.setBlk { x with held := bsBytes w }) ∧
      (owner → w.hops = z.liveMembers r sl.stage →
        s.takeUnit r sl c neg false b u = z.setBlk { x with res := some (bsBytes w) }) ∧
      (owner → w.hops ≠ z.liveMembers r sl.stage →
        let v := (z.setBlk { x with hole := some (z.ringNext r sl.stage (!neg)) }).count cCollHopsMismatch 0 1
        s.takeUnit r sl c neg false b u = if z.coll.hopsEv = some z.stepId then v
          else ({ v with coll := { v.coll with hopsEv := some z.stepId } }).raiseDev 0x6021 sl.coll b)
    ((bsOfBytes u).e = 255 → k.cnt = { badExp := 1 } ∧ k.val.e = s.agreedE c x ∧ k.val.elems = List.replicate 32 bsMarker) ∧
    ((bsOfBytes u).e ≠ 255 → k.cnt = {} ∧ k.val = bsOfBytes u) ∧
    (x.hole.isSome = true → s.takeUnit r sl c neg false b u = y.setBlk x) ∧
    (x.hole = none → r ≠ s.rank → settles (y.countArith 4 {}) k.val) ∧
    (∀ l, x.hole = none → r = s.rank → y.contrib r sl.part sl.coll c sl.stage b = .ok l →
      settles (y.countArith 4 (bsHopAdd k.val l).cnt) (bsHopAdd k.val l).val) ∧
    (∀ h, x.hole = none → r = s.rank → y.contrib r sl.part sl.coll c sl.stage b = .error h →
      s.takeUnit r sl c neg false b u = y.setBlk { x with hole := some h })) ∧
  (∀ (s : State) (r b : Nat) (sl : Slot) (c : CollDesc) (neg hole : Bool) (u : List Byte), sl.kind = 4 →
    let x := s.blk r sl.part sl.coll (3 + sl.stage) b
    x.gotH = false → s.takeUnit r sl c neg hole b u = (s.setBlk { x with gotH := true, held := u }).writeObj sl.part
      (if (s.epoch + 1) % 2 = 0 then c.param0 else c.param1) (32 * b * c.psize) (u.take (min 32 (c.len - 32 * b) * c.psize)))

/-! ### Fabric -/

/-- An attempt of a link in TRAINING (R278, R279): aligned lanes good at both ends give width 4, 2 or 1, and the link is UP
with the credits of Table 10.3 when the partner is the neighbour of its direction and the delay is within its limit, a
narrower width than before being counted and reported; no good lane or no alignment gives FAILED, a wrong partner REFUSED,
counted and reported, a long delay REFUSED. A FAILED or REFUSED link returns to TRAINING at a retry. A link in another state
ignores both.

An UP link that loses lane lock, that a write of FAB_RETRAIN names, or that meets more uncorrectable codewords within 1,024
ticks than its limit returns to TRAINING with its frames lost, is counted and reported, and the direction too when it has no
link left; a codeword within the limit is only counted (R280, R281). A codeword on a link that is absent, or that is no FABRIC
link of a dimension above 1, or that has no power, is nothing (R4, R276, R508). -/
def Obligations.LinkStates : Prop :=
  (∀ (s : State) (o : LinkTrainOp),
    let l := o.link.val
    let k := s.link l
    let good := o.good.toNat &&& (15 - s.badLanes l)
    let both := good &&& o.theirs.toNat
    let wu := if both = 15 then (4, 15) else if both % 4 = 3 then (2, 3) else if both / 4 = 3 then (2, 12)
      else if both % 2 = 1 then (1, 1) else if both / 2 % 2 = 1 then (1, 2) else if both / 4 % 2 = 1 then (1, 4)
      else if both = 0 then (0, 0) else (1, 8)
    let rank := s.rankOf o.coord.toNat
    let base : Link := { oldWidth := k.oldWidth, good := good, partner := rank, beacon := k.beacon, fresh := k.fresh }
    let dir := s.linkDir l
    let right := o.dims.toNat = s.dnum 0x410001 ∧ o.coord.toNat = s.step1 (s.dnum 0x410002) dir ∧
      o.dir = (if dir % 2 = 0 then dir + 1 else dir - 1)
    let x := s.count cFabTrain l 1
    (k.mode ≠ .training → exec (.linkTrain o) s = .next s) ∧
    (k.mode = .training →
      (wu.1 = 0 ∨ o.aligned = false → exec (.linkTrain o) s = .next (x.setLink l { base with mode := .failed })) ∧
      (wu.1 ≠ 0 → o.aligned = true →
        (¬right → exec (.linkTrain o) s = .next (((x.setLink l { base with mode := .refused }).count cFabMiswire l 1).raise
          0x4103 0xFF l rank)) ∧
        (right → s.dnum 0x410004 < leastDelay o.delays → exec (.linkTrain o) s =
          .next (x.setLink l { base with mode := .refused, delay := leastDelay o.delays })) ∧
        (right → leastDelay o.delays ≤ s.dnum 0x410004 →
          let first := [1024, 256, 256, 256, 256, 256, 256, 256]
          let k' : Link := { base with
            mode := .up, width := wu.1, used := wu.2, fresh := k.fresh || k.oldWidth == 0, credit := first }
          let up := (x.setLink l { k' with delay := leastDelay o.delays }).flushWaiting dir
          exec (.linkTrain o) s = .next (if k.oldWidth ≤ wu.1 then up
            else (up.count cFabWidthDown l 1).raise 0x4102 0xFF l wu.1)))) ∧
    exec (.linkTrainRetry ⟨o.link⟩) s = .next (if k.mode = .failed ∨ k.mode = .refused
      then s.setLink l { k with mode := .training } else s)) ∧
  (∀ (s : State) (o : LinkOp) (m : RetrainOp),
    let l := o.link.val
    let again := fun (x : State) (l : Nat) =>
      let k := x.link l
      let again := { mode := .training, oldWidth := k.width, partner := k.partner, beacon := k.beacon, fresh := k.fresh }
      let lost := ((x.setLink l again).count cFabFramesLost l
        (k.win.length + (k.queue.map (fun e => e.2.length)).foldl (· + ·) 0)).raise 0x4101 0xFF l 0
      let y := if lost.trained (lost.linkDir l) = [] then lost.raise 0x4104 0xFF (lost.linkDir l) 0 else lost
      if k.mode = .up then y.count cFabRetrain l 1 else x
    let n := s.uncorrNow l + 1
    let met := { s with fab := { s.fab with uncorr := Tab.put (0, 0) s.fab.uncorr l (s.now / 1024, n) } }.count
      cFabFecUncorr l 1
    exec (.laneLockLoss o) s = .next (again s l) ∧
    exec (.fabRetrain m) s = .next (((upTo 48).filter (fun l => m.mask.toNat / 2 ^ l % 2 == 1)).foldl again s) ∧
    exec (.fecUncorrCodeword o) s = .next (if s.power ≠ .on ∨ s.fabricLink l = false then s
      else if s.dnum 0x410005 < n then again met l else met)) ∧
  (∀ (s : State) (l n : Nat), n ≠ 0 →
    let t := { s with fab := { s.fab with uncorr := Tab.put (0, 0) s.fab.uncorr l (s.now / 1024, n) } }
    t.uncorrNow l = n ∧ ∀ e : Nat, e / 1024 ≠ s.now / 1024 → { t with clk := { s.clk with tick := e } }.uncorrNow l = 0)

/-- Go-back-N at the receiver (R282, R283, R286, R287): a good frame with the expected SEQ is accepted, the next SEQ is
expected, its acknowledgement releases the partner's window, its credits are taken and its buffer units are to be given back;
every sixteenth is acknowledged. One for this module is delivered once, one without hops left is dropped and counted, any
other is routed on. A frame with another SEQ, or a bad one, is delivered to nobody and asks once for the expected SEQ.

CTRL frames on an UP link (R283, R284): each gives its credit; an ACK releases every frame of the window up to its SEQ, a NAK
resends the window from its SEQ, each frame with its first SEQ number and the credits that it gave, CREDIT and IDLE do nothing
more; a bad one is counted and refused. The eighth resend in a row from one SEQ retrains the link.

A link's turn to send (R73, R284): VC0 and VC7 go first, then the pairs of channels in turn; the first head with credit that
the guard does not hold goes out with the next SEQ, takes its credit, and waits in the window; a head that the guard holds is
counted once; with 64 frames unacknowledged, nothing goes.

The timers of an UP link (R283, R284, R287): the acknowledgement timer sends a CTRL ACK of the last accepted SEQ and the
credits due, a NAK is repeated until its frame arrives, the retry timeout counts and resends from the oldest frame, and a head
that has been held for 16 ticks is dropped and counted.

Which channel a frame gives its credit back to, and when, that a CTRL frame of another KIND has no effect and the guard counts
a head once a tick, and the output that holds a frame for this module are the model's choices (log entries 53, 169, 89); the
bytes of a message of PTYPE 2 or 3 are open (log entry 14). -/
def Obligations.FabricFrames : Prop :=
  (∀ (s : State) (o : FabDataOp),
    let l := o.link.val
    let k := s.link l
    let x := s.count cFabFecCorr l o.corr
    let refused := fun y : State => if k.nak = true then y else (y.setLink l { k with nak := true }).sendCtrl l 2 k.rxExp
    let good := o.head.length = 16 ∧ byteAt o.head 0 = 1#8 ∧ beAt o.head 4 2 = payloadLen o.pay ∧
      payloadLen o.pay ≤ 4160 ∧ o.fcs = fcsOf (o.head ++ payloadBytes o.pay)
    let seq := (byteAt o.head 1).toNat
    let f := headFrame o.head o.pay
    (k.mode ≠ .up → exec (.fabDataReceive o) s = .next s) ∧
    (k.mode = .up → ¬good → exec (.fabDataReceive o) s = .next (refused (x.count cFabCrcErr l 1))) ∧
    (k.mode = .up → good → seq ≠ k.rxExp → exec (.fabDataReceive o) s = .next (refused x)) ∧
    (k.mode = .up → good → seq = k.rxExp →
      let k1 := (k.acked (byteAt o.head 2).toNat).addCredit ((byteAt o.head 10).toNat % 8) (beAt o.head 12 2)
      let k2 := { k1 with rxExp := (k.rxExp + 1) % 256, lastAck := seq, nak := false, noAck := k.noAck + 1,
                          ret := k.ret.set f.vc (k.ret.getD f.vc 0 + frameUnits f) }
      let y := (x.setLink l k2).count cFabRxFrames l 1
      let y := if k.noAck < 15 then y else (y.setLink l { k2 with noAck := 0 }).sendCtrl l 1 seq
      exec (.fabDataReceive o) s = .next (if f.dst = s.rank then y.emit (.delivered f)
        else if f.hops ≤ 1 then y.count cFabTtlDrop l 1 else y.routeFrame l { f with hops := f.hops - 1 }))) ∧
  (∀ (k : Link) (q : Nat) (a b : List Sent) (e : Sent),
    (q ∉ k.win.map (·.seq) → k.acked q = k) ∧
    (k.win = a ++ e :: b → e.seq = q → q ∉ a.map (·.seq) → k.acked q = { k with win := b, episodes := 0, episodeSeq := 256 })) ∧
  (∀ (s : State) (l q : Nat) (a b : List Sent) (e : Sent),
    let k := s.link l
    (q ∉ k.win.map (·.seq) → s.resend l q = s) ∧
    (k.win = a ++ e :: b → e.seq = q → q ∉ a.map (·.seq) →
      let n := if k.episodeSeq = q then k.episodes + 1 else 1
      let y := (s.setLink l { k with episodes := n, episodeSeq := q }).count cFabRetry l 1
      s.resend l q = if 8 ≤ n then y.retrain l
        else ((e :: b).foldl (fun y e => y.sendData l e.seq k.lastAck e.vc e.credit e.frame) y).count cFabReplayFrames l (b.length + 1))) ∧
  (∀ (s : State) (o : FabCtrlOp) (i : Instr) (kind : Nat),
    (i, kind) ∈ [(.fabAckReceive o, 1), (.fabNakReceive o, 2), (.fabCreditReceive o, 3), (.fabIdleReceive o, 4)] →
    let l := o.link.val
    let k := s.link l
    let x := s.count cFabFecCorr l o.corr
    let good := o.bytes.length = 16 ∧ byteAt o.bytes 0 = 2#8 ∧ o.bytes.drop 12 = fcsOf (o.bytes.take 12)
    let q := (byteAt o.bytes 2).toNat
    let given := k.addCredit ((byteAt o.bytes 3).toNat % 8) (beAt o.bytes 4 2)
    let bad := x.count cFabCrcErr l 1
    (k.mode ≠ .up → exec i s = .next s) ∧
    (k.mode = .up → ¬good → exec i s = .next (if k.nak = true then bad
      else (bad.setLink l { k with nak := true }).sendCtrl l 2 k.rxExp)) ∧
    (k.mode = .up → good → (byteAt o.bytes 1).toNat ≠ kind → exec i s = .next x) ∧
    (k.mode = .up → good → (byteAt o.bytes 1).toNat = kind → exec i s = .next (
      if kind = 1 then (x.setLink l given).setLink l (given.acked q)
      else if kind = 2 then (x.setLink l given).resend l q else x.setLink l given))) ∧
  (∀ (s : State) (o : FabTxOp),
    let l := o.link.val
    let k := s.link l
    let order := ([0, 7] ++ (if k.rr % 3 = 0 then [5, 6, 3, 4, 1, 2] else if k.rr % 3 = 1 then [3, 4, 1, 2, 5, 6]
      else [1, 2, 5, 6, 3, 4])).filter k.ready
    let holds := s.guardHolds k o.nclk
    let new := (order.takeWhile holds).filter (fun v => !k.guardHeld.contains v)
    let k1 := { k with guardHeld := k.guardHeld ++ new }
    let x := (s.setLink l k1).count cSchedBurstHeld 0 new.length
    (k.mode ≠ .up ∨ 64 ≤ k.win.length → exec (.fabFrameTransmit o) s = .next s) ∧
    (k.mode = .up → k.win.length < 64 →
      ((∀ v ∈ order, holds v = true) → exec (.fabFrameTransmit o) s = .next x) ∧
      (∀ (a b : List Nat) (v : Nat) (f : Frame) (rest : List Frame), order = a ++ v :: b → (∀ w ∈ a, holds w = true) →
        holds v = false → Tab.get [] k.queue v = f :: rest →
        let t := k1.takeRet
        let k2 := { t.1 with
          queue := Tab.put [] k.queue v rest, held := Tab.put 0 k.held v 0, rr := nextTurn k.rr v,
          credit := k.credit.set v (k.credit.getD v 0 - frameUnits f), win := k.win ++ [⟨k.txSeq, f, t.2.1, t.2.2⟩],
          txSeq := (k.txSeq + 1) % 256, noAck := 0, guardHeld := k1.guardHeld.filter (· != v) }
        exec (.fabFrameTransmit o) s = .next ((((x.setLink l k2).sendData l k.txSeq k.lastAck t.2.1 t.2.2 f).count
          cFabTxFrames l 1).count cFabTxBytes l (payloadLen f.pay))))) ∧
  (∀ (s : State) (o : LinkOp) (d : FabStallOp) (e : Sent) (w : List Sent),
    let l := o.link.val
    let k := s.link l
    (k.mode ≠ .up → exec (.fabAckTimer o) s = .next s ∧ exec (.fabNakRepeat o) s = .next s ∧
      exec (.fabRetryTimeout o) s = .next s) ∧
    (k.mode = .up →
      exec (.fabAckTimer o) s = .next (if k.noAck = 0 then s
        else ((s.setLink l { k with noAck := 0 }).sendCtrl l 1 k.lastAck).sendCredits l) ∧
      exec (.fabNakRepeat o) s = .next (if k.nak = true then s.sendCtrl l 2 k.rxExp else s) ∧
      (k.win = [] → exec (.fabRetryTimeout o) s = .next s) ∧
      (k.win = e :: w → exec (.fabRetryTimeout o) s = .next ((s.count cFabRetryTimeout l 1).resend l e.seq))) ∧
    (d.link = o.link → s.fabricLink l = false → exec (.fabStallDrop d) s = .next s) ∧
    (d.link = o.link → s.fabricLink l = true → d.noLink = false →
      exec (.fabStallDrop d) s = .next (if 16 ≤ Tab.get 0 k.held d.vc.toNat
      then (s.setLink l { k with
        queue := Tab.put [] k.queue d.vc.toNat (Tab.get [] k.queue d.vc.toNat).tail,
        held := Tab.put 0 k.held d.vc.toNat 0 }).count cFabStallDrop l 1
      else s)) ∧
    (d.link = o.link → s.fabricLink l = true → d.noLink = true →
      let old := fun w : Nat × Nat × Frame => w.1 = s.linkDir l ∧ w.2.2.vc = d.vc.toNat ∧ 16 ≤ w.2.1
      ((∀ w ∈ s.fab.waiting, ¬old w) → exec (.fabStallDrop d) s = .next s) ∧
      (∀ (a b : List (Nat × Nat × Frame)) (w : Nat × Nat × Frame), s.fab.waiting = a ++ w :: b → (∀ q ∈ a, ¬old q) →
        old w → exec (.fabStallDrop d) s =
          .next ({ s with fab := { s.fab with waiting := a ++ b } }.count cFabStallDrop l 1))))

/-- The re-map (R292, R293): a report and a confirmation of the coming generation are recorded once and flooded on every other
UP link; at t_r + C the absent set is computed from the reports and confirmed. At t_r + 2C the module halts where a confirmation
differs, where it is itself in the absent set (it is fenced then, with every link idle), where the pod is parted and where a
shard is lost; else the absent set takes force and the re-map ends. At another edge, without a re-map, and for another
generation nothing happens.

What a loss of the partner reports is the model's reading (log entry 137). -/
def Obligations.Remap : Prop :=
  ∀ (s : State) (o : ReportOp) (c : ConfirmOp),
    let r := s.fab.remap
    let next := (s.dnum 0x410009 + 1) % 2 ^ 32
    let held := fun x : Sys2Proof.Machine.Remap => { s with fab := { s.fab with remap := x } }
    let newReport := r.active = true ∧ o.gen.toNat = next ∧ ∀ e ∈ r.reports, e.1 ≠ o.rank.toNat
    let newConfirm := r.active = true ∧ c.gen.toNat = next ∧ ∀ e ∈ r.confirms, e.1 ≠ c.rank.toNat
    let collected := r.active = true ∧ r.computed = false ∧ s.now = (r.tr + s.dnum 0x410007) % 2 ^ 48
    let due := r.active = true ∧ r.computed = true ∧ s.now = (r.tr + 2 * s.dnum 0x410007) % 2 ^ 48
    (newReport → exec (.remapReportReceive o) s =
      .next ((held { r with reports := r.reports ++ [(o.rank.toNat, o.leaving, o.named, o.lost)] }).flood
        (some o.link.val) (.report next o.rank.toNat o.leaving o.named o.lost))) ∧
    (¬newReport → exec (.remapReportReceive o) s = .next s) ∧
    (newConfirm → exec (.remapConfirmReceive c) s =
      .next ((held { r with confirms := r.confirms ++ [(c.rank.toNat, c.crc.toNat)] }).flood
        (some c.link.val) (.confirm next c.rank.toNat c.crc.toNat))) ∧
    (¬newConfirm → exec (.remapConfirmReceive c) s = .next s) ∧
    (collected →
      let a := absentSet s.podSize r.reports
      exec .remapCollectEnd s = .next ((held { r with
        absent := a, computed := true, confirms := r.confirms ++ [(s.rank, crc32 (rankBitmap a))] }).flood none
          (.confirm next s.rank (crc32 (rankBitmap a))))) ∧
    (¬collected → exec .remapCollectEnd s = .next s) ∧
    (¬due → exec .remapApply s = .next s) ∧
    (due →
      let own := crc32 (rankBitmap r.absent)
      let ended := fun x : State => { x with fab := { x.fab with remap := { x.fab.remap with active := false } } }
      let agreed := ∀ q ∈ r.confirms, q.2 = own
      let whole := ∀ q, q < s.podSize → q ∉ r.absent → q ∈ s.reach r.absent 16384 [s.rank] [s.rank]
      let buddy := mapAt (s.dget 0x730004)
      let lost := fun q : Nat => buddy q == 0xFFFF || r.absent.contains (buddy q)
      (¬agreed → exec .remapApply s = .next (ended (s.raise 0x4105 0xFF next own)).enterHalted) ∧
      (agreed → s.rank ∈ r.absent → Tab.wf {} s.fab.links = true → ∃ t : State, exec .remapApply s = .next t ∧
        t.sched.state = 12 ∧ t.fab.fenced = true ∧ t.fab.leaving = true ∧ t.fab.remap.active = false ∧
        (∀ l, l < 48 → s.fabricLink l = true → (t.link l).mode = .disabled) ∧ t.t0 = s.t0 ∧ t.t1 = s.t1 ∧ t.dict = s.dict) ∧
      (agreed → s.rank ∉ r.absent → ¬whole → ∃ q : Nat, q < s.podSize ∧ q ∉ r.absent ∧
        q ∉ s.reach r.absent 16384 [s.rank] [s.rank] ∧
        exec .remapApply s = .next (ended (s.raise 0x4107 0xFF q 0)).enterHalted) ∧
      (agreed → s.rank ∉ r.absent → whole →
        (r.absent.filter lost ≠ [] → exec .remapApply s =
          .next (ended ((r.absent.filter lost).foldl (fun x q => x.raise 0x7012 0xFF q 0) s)).enterHalted) ∧
        (r.absent.filter lost = [] → exec .remapApply s = .next (ended (s.applyAbsent r.absent)) ∧
          (s.applyAbsent r.absent).fab.absent = r.absent)))

/-! ### Ticks and the schedule -/

/-- At a tick edge of a powered module the tick number grows by one modulo 2^48 and the tick's length is 160 REFCLK cycles
with the correction due (R72, R76); every core's wait has met one more edge: WEDGE ends, WTICK ends when its tick has come,
and any other wait goes on (R151, R154). Cores that do not wait are as before, and the tiers are, where no published row waits
for a repair; REFCLK has run one more edge (R512). The number of the tick is what the tiles see until the next edge (R151).

The beacons of the tick, one on every UP link, leave once the schedule has nothing more to do at the edge (R285). Then the
counters and flow entries are sampled for every request that has waited since before the edge, and a READ that the MC has come
to is answered with them, and the MC goes on with the requests behind it (R459); the order is the model's reading (log entry
74).

The counts of the tick that ends, the links' timers, ACLK, request line 128 and the tail reads of an edge are not stated here.
A module without power has no ticks. -/
def Obligations.TickEdges : Prop :=
  ∀ (s : State) (o : TickOp), (s.power = .off → exec (.tickEdge o) s = .next s) ∧
    (s.power ≠ .off → Tab.wf {} s.cores = true → ∃ t : State, exec (.tickEdge o) s = .next t.sampleEdge ∧
    (∃ x : State, x.clk.due = some o.phases ∧ x.now = t.now ∧ t = x.beaconsOut) ∧
    t.clk.edges = s.clk.edges + 1 ∧ t.clk.seen = t.now ∧
    t.dap = s.dap ∧
    (let new := (s.dap.queue.drop s.dap.snaps.length).map (fun _ => (⟨t.ctr, t.net.flows⟩ : Sample))
     let y := { t with dap := { s.dap with snaps := s.dap.snaps ++ new } }
     (s.dap.sample = none → t.sampleEdge = y) ∧
     (∀ w, s.dap.sample = some w →
       t.sampleEdge = State.drainWork s.dap.queue.length (y.answerSample w ⟨t.ctr, t.net.flows⟩))) ∧
    t.health.refRan = min refReady (s.health.refRan + 1) ∧
    t.now = (s.now + 1) % 2 ^ 48 ∧ t.clk.len = (160 + s.clk.adjust).toNat ∧ t.clk.adjust = 0 ∧ t.clk.pulse = false ∧
    t.sched = s.sched ∧ t.lmem = s.lmem ∧ t.dict = s.dict ∧
    (s.emb.late = [] → t.t0 = s.t0 ∧ t.t1 = s.t1 ∧ t.t2 = s.t2) ∧
    ∀ k : Nat,
      let c := s.core k
      let longer : Core := { c with waited := c.waited + 1 }
      (c.mode ≠ .waiting → t.core k = c) ∧
      (c.mode = .waiting → c.wait = some .edge → t.core k = c.resume) ∧
      (∀ d, c.mode = .waiting → c.wait = some (.tick d) → t.core k =
        (if 1 ≤ (BitVec.ofNat 48 d - BitVec.ofNat 48 t.now).toNat ∧
          (BitVec.ofNat 48 d - BitVec.ofNat 48 t.now).toNat < 2 ^ 47 then longer else c.resume)) ∧
      ((∃ f v, c.wait = some (.fence f v)) ∨ (∃ b, c.wait = some (.bar b)) ∨ (∃ d, c.wait = some (.recv d)) →
        c.mode = .waiting → t.core k = longer)) ∧
    (∀ (x : State) (phases : List Nat), x.clk.due = some phases →
      (x.edgeDue = true → x.beaconsOut = x) ∧
      (x.edgeDue = false → x.beaconsOut.clk.due = none ∧
        x.beaconsOut.out = x.out ++ x.upLinks.map (fun l => .beacon l (x.beaconBytes (phases.getD l 0)))))

/-- TICK_IN in modes 1 and 3 sets the edge within 2 REFCLK cycles and is counted as off phase beyond; in holdover the edge
stays that of REFCLK (R75, R78). A second pulse of a tick, any in another mode, and any while the input is masked, changes
nothing (R516).

An upstream beacon gives a follower its tick number and the correction of its next tick, and ends holdover, HALTED if the
number was another; one of another link with a wrong number, and one with a bad CRC, is counted and discarded, the latter as
missing also in the tick in which its link came UP; a master that meets another number reports it (R76, R78, R79, R285). Every
beacon taken gives its flags to the window of its tick (R80). A follower enters holdover after 16 ticks without an upstream
beacon (R78).

That the edge of a decided commit is renumbered when a re-lock changes the tick number, the error from which a correction is
due, and that a masked TICK_IN is ignored are the model's readings (log entries 159, 130, 126). -/
def Obligations.TickInputs : Prop :=
  (∀ (s : State) (o : TickInOp),
    let listens := s.dnum 0x600001 % 2 = 1 ∧ s.power ≠ .off ∧ bit s.health.masked 0 = false
    (¬listens → exec (.tickInPulse o) s = .next s) ∧
    (listens → 2 < o.offset.natAbs → exec (.tickInPulse o) s = .next (s.count cTickInOffPhase 0 1)) ∧
    (listens → o.offset.natAbs ≤ 2 → s.clk.pulse = true → exec (.tickInPulse o) s = .next s) ∧
    (listens → o.offset.natAbs ≤ 2 → s.clk.pulse = false → s.clk.holdover = true → exec (.tickInPulse o) s =
      .next { s with clk := { s.clk with pulse := true } }) ∧
    (listens → o.offset.natAbs ≤ 2 → s.clk.pulse = false → s.clk.holdover = false → exec (.tickInPulse o) s =
      .next { s with clk := { s.clk with pulse := true, len := (160 + o.offset).toNat } })) ∧
  (∀ (s : State) (o : BeaconOp),
    let l := o.link.val
    let tick := beAt o.bytes 1 6
    let flags := (byteAt o.bytes 12).toNat
    let good := o.bytes.length = 32 ∧ byteAt o.bytes 0 = 3#8 ∧ o.bytes.drop 28 = fcsOf (o.bytes.take 28)
    let x := s.setLink l { s.link l with beacon := true }
    let y := if s.tickMaster = true ∧ tick ≠ s.now then x.raiseLimited 0 0x6002 0xFF l tick else x
    ((s.link l).mode ≠ .up → exec (.beaconReceive o) s = .next s) ∧
    ((s.link l).mode = .up →
      (¬good → exec (.beaconReceive o) s = .next ((s.setLink l { s.link l with fresh := false }).count cBeaconCrcErr l 1)) ∧
      (good → s.upstream ≠ some l → tick ≠ s.now → exec (.beaconReceive o) s = .next (y.count cBeaconTickErr l 1)) ∧
      (good → s.upstream ≠ some l → tick = s.now → exec (.beaconReceive o) s = .next (y.windowTakes l flags tick)) ∧
      (good → s.upstream = some l → exec (.beaconReceive o) s =
        .next ((y.follow tick (o.at_ - beAt o.bytes 15 2 - (s.link l).delay)).windowTakes l flags tick)))) ∧
  (∀ (s : State) (tick : Nat) (err : Int),
    let t := s.follow tick err
    t.clk = { s.clk with
      tick := tick, noBeacon := 0, got := true, holdover := false,
      adjust := if s.dnum 0x600001 = 2 ∧ 10 < err then 1 else if s.dnum 0x600001 = 2 ∧ err < -10 then -1 else 0 } ∧
    t.dict = s.dict ∧ t.cores = s.cores ∧ (s.clk.holdover = true → tick ≠ s.now → t.sched.state = 12) ∧
    (s.clk.holdover = false ∨ tick = s.now → t.sched =
      { s.sched with pub := s.sched.pub.map (fun p => (p + tick + 2 ^ 48 - s.now) % 2 ^ 48) })) ∧
  (∀ (s : State) (w : Window) (l flags tick : Nat), s.sched.window = some w →
    let d := (tick + 2 ^ 48 - w.ts) % 2 ^ 48
    (s.sched.lag ≤ d → s.windowTakes l flags tick = s) ∧
    (d < s.sched.lag → ∃ v : Window, (s.windowTakes l flags tick).sched = { s.sched with window := some v } ∧
      v.slipRx = (w.slipRx || flags % 2 == 1) ∧ v.abortRx = (w.abortRx || flags / 2 % 2 == 1) ∧ v.anyRx = true ∧
      v.allOk = (w.allOk && flags / 4 % 2 == 1) ∧ v.slip = w.slip ∧ v.abort = w.abort ∧ v.ready = w.ready ∧
      (s.windowTakes l flags tick).fab.leaveRx = (s.fab.leaveRx || flags / 32 % 2 == 1))) ∧
  (∀ s : State,
    let held := { s with clk := { s.clk with holdover := true, adjust := 0 } }
    (s.tickMaster = true ∨ s.clk.holdover = true ∨ s.clk.noBeacon < 16 → exec .holdoverEntry s = .next s) ∧
    (s.tickMaster = false → s.clk.holdover = false → 16 ≤ s.clk.noBeacon → exec .holdoverEntry s = .next
      (held.raise 0x6001 0xFF (s.upstream.getD (s.masterLinks.headD 0)) s.now)))

/-- A step begins at its start tick with its budgets and limits latched (R86, R87); the next phase begins at its planned edge
or, once that has passed, at once, and not before (R84); a local phase that has run its budget counts one overrun (R85, R100);
a stopped schedule is IDLE once the step has ended (R88); after a re-map the step goes on at GATHER with no repeats counted
(R295). Each leaves every state alone in which it is not due.

When a phase that starts late has run its budget, which of the eight phase_overrun a state counts, and that SCHED_STOP ends a
re-map are the model's readings (log entries 132, 134, 135). -/
def Obligations.StepsAndPhases : Prop :=
  ∀ (s : State),
    let c := s.sched
    let b := fun i : Nat => s.dnum (0x610000 + i)
    let begun := fun (st after : Nat) (ingest : Bool) (x : Sched) => { x with
      state := st, active := true, origin := s.now, withIngest := ingest, edge := s.now, overran := false, slipped := 0,
      cause := 0, window := none, sample := (s.now + after) % 2 ^ 48,
      budgets := [b 1, b 2, b 3, b 4, b 5, b 6, b 7], lag := s.dnum 0x600004, slipLimit := s.dnum 0x600006,
      repLimit := s.dnum 0x600005 }
    let starts := s.boot.state = 8 ∧ c.armed = true ∧ c.active = false ∧ s.now = s.dnum 0x600007 % 2 ^ 48
    let planned := (c.origin + (if c.withIngest then c.budget 0 else 0) + (if 2 ≤ c.state then c.budget 1 else 0) +
      (if 3 ≤ c.state then c.budget 2 else 0)) % 2 ^ 48
    let reached := (s.now + 2 ^ 48 - planned) % 2 ^ 48 < 2 ^ 47
    let moves := c.active = true ∧ 1 ≤ c.state ∧ c.state ≤ 3 ∧ reached
    let ran := (s.now + 2 ^ 48 - c.edge) % 2 ^ 48
    let i := if c.state = 7 then 5 else c.state - 1
    let overdue := c.active = true ∧ (1 ≤ c.state ∧ c.state ≤ 4 ∨ c.state = 7) ∧ c.overran = false ∧ c.budget i ≤ ran
    let rm := { s.fab.remap with resume := none }
    let idle := { c with state := 0, stopping := false, window := none }
    let first := begun 1 (b 1 + b 2 + b 3 + b 4) true { c with armed := false, repeats := 0, lastCause := 0, named := [] }
    let again := begun 2 (b 2 + b 3 + b 4) false { c with repeats := 0, named := [] }
    let resumes := s.boot.state = 8 ∧ c.state = 13 ∧ s.fab.remap.resume = some s.now ∧ s.fab.remap.active = false
    (starts → exec .stepStart s = .next { s with sched := first }.collAttempt.beaconsOut) ∧
    (¬starts → exec .stepStart s = .next s) ∧
    (moves → exec .phaseStart s =
      .next { s with sched := { c with state := c.state + 1, edge := s.now, overran := false } }) ∧
    (¬moves → exec .phaseStart s = .next s) ∧
    (overdue → exec .phaseOverrun s = .next ({ s with sched := { c with overran := true } }.count (cPhaseOverrun + i) 0 1)) ∧
    (¬overdue → exec .phaseOverrun s = .next s) ∧
    (c.stopping = true → c.active = false → exec .schedStop s =
      .next { s with sched := idle, fab := { s.fab with remap := { rm with active := false } } }.beaconsOut) ∧
    (c.stopping = false ∨ c.active = true → exec .schedStop s = .next s) ∧
    (resumes → exec .remapResume s =
      .next { s with sched := again, fab := { s.fab with remap := rm } }.collAttempt.beaconsOut) ∧
    (¬resumes → exec .remapResume s = .next s)

/-- A gate's sample opens its window (R80, R89): with the work finished the window asks for nothing and the phase before the
gate ends; with work unfinished it carries SLIP, and past SLIP_LIMIT windows ABORT with cause 4; a cause that the step has
kept is raised at Gate 2 (R91). The vote carries no SLIP; a slot that closes at its edge is closed first, and a module is
ready when its staged state is whole and acknowledged and its work done (R94, R268). A module that leaves the pod carries
ABORT (R291).

The reduce deadline ends REDUCE: the results of DECODE stand, APPLY begins, Gate 2 is sampled after its budget or the
decision's lag, and the window carries ABORT with cause 1 for missing contributions (R91, R264). DECODE runs in the tick
before (R263). Each leaves every state alone in which it is not due.

The abort cause of a module that leaves the pod is open (log entry 51). STEP_STATE during a window, the slot closed at the
vote's edge and the numbers 4 and 6 among the eight phase_overrun are the model's readings, and whether the step's work is
done is an operand of the gate (log entries 131, 137, 134, 138). -/
def Obligations.Windows : Prop :=
  (∀ (s : State) (kind : WinKind) (slip ready : Bool) (cause : Nat),
    let w : Window := {
      kind := kind, ts := s.now, slip := slip, abort := decide (cause ≠ 0) || s.fab.leaving, cause := cause,
      slipRx := false, abortRx := false, ready := ready, allOk := true, anyRx := false, links := s.upLinks, okLinks := [] }
    s.openWindow kind slip ready cause =
      { s with sched := { s.sched with window := some w }, fab := { s.fab with leaveTx := false, leaveRx := false } }) ∧
  (∀ (s : State) (o : GateOp),
    let c := s.sched
    let due := s.boot.state = 8 ∧ c.window = none ∧ s.now = c.sample ∧ 1 ≤ c.state ∧ c.state ≤ 9 ∧ c.state ≠ 6
    let at_ := fun st : Nat => { s with sched := { c with state := st } }
    let late := decide (c.slipLimit ≤ c.slipped)
    let done1 := c.state = 5 ∨ c.state = 4 ∧ o.done = true ∧ s.exchUnfinished = false
    let done2 := c.state = 8 ∨ o.done = true ∧ s.applyOpen = false
    (¬due → exec (.gateSample o) s = .next s) ∧
    (due → c.state ≤ 5 → done1 → exec (.gateSample o) s = .next ((at_ 5).openWindow .gate1 false true 0).beaconsOut) ∧
    (due → c.state ≤ 5 → ¬done1 → exec (.gateSample o) s =
      .next (s.openWindow .gate1 (!late) true (if late then 4 else 0)).beaconsOut) ∧
    (due → 7 ≤ c.state → c.state ≤ 8 → done2 → exec (.gateSample o) s =
      .next ((at_ 8).openWindow .gate2 false true c.cause).beaconsOut) ∧
    (due → 7 ≤ c.state → c.state ≤ 8 → ¬done2 → exec (.gateSample o) s =
      .next (s.openWindow .gate2 (!late) true (if c.cause ≠ 0 then c.cause else if late then 4 else 0)).beaconsOut) ∧
    (due → c.state = 9 →
      let x := collSlotClose s
      let open_ := x.coll.acks.length
      let mine := fun f : Frame => f.src == x.rank && stateFrame f
      let unsent := x.coll.unsent = true ∨ (x.fab.links.any (fun e => e.2.queue.any (fun q => q.2.any mine))) = true ∨
        (x.fab.waiting.any (fun w => mine w.2.2)) = true
      let y := x.count cCollStateUnacked 0 open_
      let z := if unsent then y.count (cPhaseOverrun + 6) 0 1 else y
      let ready := !x.coll.unready && open_ == 0 && !x.emb.stageFull && !x.applyOpen && x.sched.cause == 0
      exec (.gateSample o) s = .next ({ z with sched := { x.sched with state := 10, edge := s.now } }.openWindow .vote
        false ready 0).beaconsOut)) ∧
  (∀ (s : State) (o : CollSlotOp),
    let c := s.sched
    let endsAt := (c.edge + c.budget 4) % 2 ^ 48
    let dec := c.state = 6 ∧ (s.now + 1) % 2 ^ 48 = endsAt
    let due := s.boot.state = 8 ∧ c.state = 6 ∧ s.now = endsAt
    (dec → exec (.decodeTick o) s = .next (s.collEcc o.t0 o.t1).collDecode) ∧
    (¬dec → exec (.decodeTick o) s = .next s) ∧
    (¬due → exec .reduceDeadline s = .next s) ∧
    (due →
      let x := s.collDeadline.1
      let miss := x.exchMissing
      let y := if s.coll.unsent = true ∨ s.exchUnsent = true then x.count (cPhaseOverrun + 4) 0 1 else x
      let after := { x.sched with
        state := 7, edge := s.now, overran := false, slipped := 0, named := (x.sched.named ++ miss).eraseDups,
        sample := (s.now + max (c.budget 5) c.lag) % 2 ^ 48 }
      exec .reduceDeadline s = .next ({ y with sched := after }.openWindow .deadline false true
        (if s.collDeadline.2 = true ∨ miss ≠ [] then 1 else 0)).beaconsOut))

/-- The decision of a window DECISION_LAG ticks after its sample (R81 to R83, R92 to R95): a module that received nothing from
a pod of more than one is HALTED; an ABORT repeats the step from GATHER, with one more repeat, until REPEAT_LIMIT, and then a
module that knows an absent or lost one, and at once one that sent or received LEAVING in a beacon of the window, enters REMAP,
any other HALTED (R291); a SLIP is counted and
the gate sampled anew; PROCEED goes on at EXCHANGE or at ALLGATHER; a vote in which every module is ready commits. The cores
that asked for it get the decision in their mailboxes (R150). At another edge nothing happens.

Six ticks after the decision the commit is complete (R95, R97): EPOCH and STEP_ID are one higher modulo 2^32, the repeats are
counted anew, and the next step begins at once, or the schedule is idle when it was stopped; a module halted or held since then
stays so.

An aborted step records the cause that its module raised, 2 where the module voted not ready, and else 5, a peer's (R94, Table
3.4); the cause of a module that aborts because it leaves is open (log entry 51).

A module alone in its pod, what the exhausted REPEAT_LIMIT asks for, that PROCEED is posted for a deadline window and nothing
by an isolated module, and that a held module completes a decided commit (log entry 190) are the model's readings, and that
the whole stage is published in the deciding command is its choice (log entries 131, 133, 136, 95). -/
def Obligations.Decisions : Prop :=
  (∀ (s : State) (o : DecisionOp), s.sched.window = none → exec (.decisionEdge o) s = .next s) ∧
  (∀ (s : State) (o : DecisionOp) (w : Window),
    let c := s.sched
    let s0 := { s with sched := { c with window := none } }
    let stop := w.abort = true ∨ w.abortRx = true ∨ (w.kind = .vote ∧ w.ok = false)
    let slip := w.slip = true ∨ w.slipRx = true
    let heard := s.alone = true ∨ w.anyRx = true
    let at_ := fun st : Nat => { s with sched := { c with state := st, edge := s.now, slipped := 0, window := none } }
    let due := s.boot.state = 8 ∧ s.now = (w.ts + c.lag) % 2 ^ 48
    c.window = some w →
    (¬due → exec (.decisionEdge o) s = .next s) ∧
    (due → ¬heard → exec (.decisionEdge o) s = .next (s0.raise 0x6003 0xFF 0 w.ts).enterHalted.beaconsOut) ∧
    (due → heard →
      (stop → exec (.decisionEdge o) s = .next ((s0.decideAbort w o.absent).notifyCores 3).beaconsOut) ∧
      (¬stop → slip → (w.kind = .gate1 ∨ w.kind = .gate2) → exec (.decisionEdge o) s = .next
        (({ s with sched := { c with window := none, slipped := c.slipped + 1, sample := s.now } }.count cGateSlip 0
          1).notifyCores 2).beaconsOut) ∧
      (¬stop → ¬slip → w.kind = .gate1 → exec (.decisionEdge o) s =
        .next ((at_ 6).collStartReduce.exchangeAll.notifyCores 1).beaconsOut) ∧
      (¬stop → ¬slip → w.kind = .gate2 →
        let c' := { c with state := 9, edge := s.now, slipped := 0, window := none }
        let x := { s with sched := { c' with sample := (s.now + c.budget 6) % 2 ^ 48 } }
        exec (.decisionEdge o) s = .next (x.collStartGather.replicaSend.notifyCores 1).beaconsOut) ∧
      (¬stop → w.kind = .deadline → exec (.decisionEdge o) s = .next (s0.notifyCores 1).beaconsOut) ∧
      (¬stop → w.kind = .vote →
        let c' := { c with state := 11, edge := s.now, window := none }
        let x := { s with sched := { c' with pub := some ((s.now + 6) % 2 ^ 48) } }.publish o.stage
        exec (.decisionEdge o) s = .next (x.shotAtTd.notifyCores 4).beaconsOut ∧ x.emb.stage = []))) ∧
  (∀ (s : State) (w : Window) (others : Bool),
    let c := s.sched
    let t := s.decideAbort w others
    let leave := s.fab.leaveTx = true ∨ s.fab.leaveRx = true
    let absent := others = true ∨ s.namedRanks ≠ [] ∨ s.lostPartners ≠ []
    t.dict = s.dict ∧ t.emb.stage = [] ∧ t.coll.blks = [] ∧ t.sched.repeats = c.repeats + 1 ∧
    (w.cause ≠ 0 → t.sched.lastCause = w.cause) ∧
    (w.cause = 0 → w.kind = .vote → w.ready = false → t.sched.lastCause = 2) ∧
    (w.cause = 0 → (w.kind ≠ .vote ∨ w.ready = true) → w.abort = false → t.sched.lastCause = 5) ∧
    (leave → t.sched.state = 13 ∧ t.sched.active = false ∧ t.fab.remap.tr = s.now ∧ t.fab.remap.active = true) ∧
    (¬leave → c.repeats + 1 ≤ c.repLimit → t.sched.state = 2 ∧ t.sched.active = true ∧ t.sched.edge = s.now ∧
      t.sched.window = none) ∧
    (¬leave → c.repLimit < c.repeats + 1 → (absent → s.alone = false → t.sched.state = 13) ∧
      (¬absent ∨ s.alone = true → t.sched.state = 12))) ∧
  (∀ (s : State),
    let due := 6 ≤ s.boot.state ∧ s.boot.state ≤ 8 ∧ s.sched.pub = some s.now
    (¬due → exec .tampCommitted s = .next s) ∧
    (due → ∃ t : State, exec .tampCommitted s = .next t ∧ t.epoch = (s.epoch + 1) % 2 ^ 32 ∧
      t.stepId = (s.stepId + 1) % 2 ^ 32 ∧ t.sched.repeats = 0 ∧ t.sched.pub = none ∧ t.now = s.now ∧
      (s.sched.state ≠ 11 → t.sched.state = s.sched.state) ∧
      (s.sched.state = 11 → s.sched.stopping = false →
        t.sched.state = 1 ∧ t.sched.active = true ∧ t.sched.origin = s.now) ∧
      (s.sched.state = 11 → s.sched.stopping = true → t.sched.state = 0 ∧ t.sched.active = false)))

/-! ### Ethernet and parsing -/

/-- A port in use and enabled, with every lane good, comes up when its PCS aligns; one that goes down discards the egress
frames of no transmit queue and keeps those of the queues (R299, R497). Low-power idle each way, and a partner whose TLV has
expired (R311, R312); the LLDPDU of a port with LPI, with the wake times of its PHY, joins its egress queue of TC7. A frame
put there wakes the port; one for a port that is down is discarded and counted, one for a port not in use is nothing (R298,
R299, R312). Each leaves every other port as it is.

A pause that has ended ends (R309); a class still above XON half a pause time after its last XOFF frame is paused again, all
such classes in one PFC frame, padded and counted as any frame (R305, R308); a held lossless frame is written once the ring
has buffers for all of it, or else asks for a tail read, and each that no buffers have come for within ETH_PFC_HOLD_US of its
port is dropped (R310).

The LPI capability and the TLVs of the LLDPDU are taken from IEEE 802.3 and 802.1AB, their values open (log entry 43). That a
PFC frame of a port in LPI wakes it and goes first, what a command empties, which held frames are dropped, and the Tw of a
port whose partner's TLV has ended are the model's choices (log entries 170, 180). -/
def Obligations.EthernetPorts : Prop :=
  (∀ (s : State) (o : PortOp),
    let p := o.port
    let x := s.port p
    let at_ := s.clk.edges * 102400 + o.at_
    let lpi := s.lpiCap p = true ∧ s.portCfg p 1 = true
    let aligns := (∃ bt, s.portBt p = some bt ∧ s.lanesOk p bt = true) ∧ s.portCfg p 0 = true ∧ x.up = false ∧
      (if p = 192 then s.mcServes = true else s.boot.state = 8)
    let rests := s.portUp p = true ∧ lpi ∧ x.lpiTx = false ∧ (s.resolvedTw p at_).isSome = true ∧ s.egressEmpty p = true ∧
      x.idle + 100000 * s.dnum (0x420801 + p) ≤ at_ ∧ s.dnum (0x430201 + p) % 2 = 0
    let sleeps := s.portUp p = true ∧ lpi ∧ x.lpiRx = false
    let gone := (s.setPort p { x with up := false, lost := true, lpiTx := false, lpiRx := false }).dropEgress p
    (aligns → exec (.ethLinkUp o) s = .next ((s.setPort p { x with up := true, lost := false }).raise 0x4202 0xFF p 0)) ∧
    (¬aligns → exec (.ethLinkUp o) s = .next s) ∧
    (x.up = false → exec (.ethLinkDown o) s = .next s) ∧
    (x.up = true → exec (.ethLinkDown o) s = .next (gone.raise 0x4203 0xFF p 0) ∧ gone.net.queues = s.net.queues ∧
      (∃ i : Nat, x.idle ≤ i ∧
        gone.port p = { x with up := false, lost := true, lpiTx := false, lpiRx := false, idle := i }) ∧
      (Tab.wf [] s.net.egress = true → ∀ tc, tc < 8 →
        gone.egress p tc = (s.egress p tc).filter (fun i => i.queue.isSome))) ∧
    (rests → exec (.lpiTxEntry o) s = .next ((s.setPort p { x with lpiTx := true }).ethCount 41 p)) ∧
    (¬rests → exec (.lpiTxEntry o) s = .next s) ∧
    (sleeps → exec (.lpiRxEntry o) s = .next ((s.setPort p { x with lpiRx := true }).ethCount 42 p)) ∧
    (¬sleeps → exec (.lpiRxEntry o) s = .next s) ∧
    exec (.lpiRxExit o) s = .next (if x.lpiRx = true then s.setPort p { x with lpiRx := false } else s) ∧
    (x.tw = none → exec (.lldpTtlExpire o) s = .next s) ∧
    (∀ w e, x.tw = some (w, e) → exec (.lldpTtlExpire o) s =
      .next (if e ≤ at_ then s.setPort p { x with tw := none } else s)) ∧
    (¬lpi → exec (.lldpduSend o) s = .next s) ∧
    (∀ bt, lpi → s.portBt p = some bt → exec (.lldpduSend o) s =
      .next (s.egressPut p 7 at_ ⟨0, none, none, lldpFrame p bt, false, false, at_⟩))) ∧
  (∀ (s : State) (p tc at_ : Nat) (i : TxItem),
    (s.portBt p = none → s.egressPut p tc at_ i = s) ∧
    (s.portBt p ≠ none → i.queue = none → s.portUp p = false → s.egressPut p tc at_ i = s.ethCount 44 p) ∧
    (s.portBt p ≠ none → (i.queue ≠ none ∨ s.portUp p = true) →
      s.egressPut p tc at_ i = (s.wakePort p at_).setEgress p tc (s.egress p tc ++ [i]))) ∧
  (∀ (s : State) (p at_ : Nat) (b : List Byte),
    let x := s.port p
    let f := padFrame b
    let sent := f ++ fcsOf f
    s.wakePort p at_ = (if x.lpiTx = true
      then s.setPort p { x with lpiTx := false, txEnd := max x.txEnd (at_ + 100000 * (s.resolvedTw p at_).getD x.wake) } else s) ∧
    s.sendNow p at_ b = (if x.lpiTx = true
      then (s.wakePort p at_).setEgress p 7 (⟨0, none, none, b, false, false, at_⟩ :: s.egress p 7)
      else ((if b.length < 60 then s.ethCount 37 p else s).emit (.ethFrame p sent)).sentCount p sent)) ∧
  (∀ (s : State),
    (∀ o : PauseOp, let x := s.port o.port
      exec (.pfcPauseExpire o) s = .next (if Tab.get 0 x.pause o.tc.toNat ≤ s.clk.edges * 102400 + o.at_
        then s.setPort o.port { x with pause := Tab.put 0 x.pause o.tc.toNat 0 } else s)) ∧
    (∀ o : PortOp, s.portBt o.port = none ∨ s.portUp o.port = false → exec (.pfcXoffRepeat o) s = .next s) ∧
    (∀ (o : PortOp) (bt : Nat),
      let p := o.port
      let x := s.port p
      let at_ := s.clk.edges * 102400 + o.at_
      let due := (List.range 7).filter (fun tc =>
        let a := Tab.get 0 x.xoff tc
        decide (a ≠ 0 ∧ a - 1 + 2097120 * bt ≤ at_ ∧ 1024 * s.dnum (0x420601 + p) < s.occupancy p tc))
      s.portBt p = some bt →
      (due = [] → exec (.pfcXoffRepeat o) s = .next s) ∧
      (due ≠ [] → s.portUp p = true → exec (.pfcXoffRepeat o) s =
        .next ((s.setPort p { x with xoff := due.foldl (fun m tc => Tab.put 0 m tc (at_ + 1)) x.xoff }).sendNow p at_
          (s.pfcFrame p (due.map (fun tc => (tc, 0xFFFF))))))) ∧
    (∀ o : LosslessOp, s.ethQ o.queue.toNat = none →
      exec (.losslessFrameWrite o) s = .next s ∧ exec (.losslessHoldTimeout o) s = .next s) ∧
    (∀ (o : LosslessOp) (x : EthQ),
      let q := o.queue.toNat
      let at_ := s.clk.edges * 102400 + o.at_
      let late := fun v : RxWork => decide (v.since + 100000 * s.dnum (0x420701 + v.port) ≤ at_)
      s.ethQ q = some x →
      (x.held = [] ∨ x.work ≠ [] → exec (.losslessFrameWrite o) s = .next s) ∧
      (∀ (w : RxWork) (rest : List RxWork), x.held = w :: rest → x.work = [] →
        let r := s.rxFill (w.rest.length + 1) q w
        (r.2.rest = [] → exec (.losslessFrameWrite o) s =
          .next (((r.1.setQ q ((r.1.ethQ q).map (fun y => { y with held := rest }))).rxComplete q r.2 false true).pfcUpdate
            w.port at_)) ∧
        (r.2.rest ≠ [] → exec (.losslessFrameWrite o) s = .next (s.tailRead q))) ∧
      ((∀ w ∈ x.held, late w = false) → exec (.losslessHoldTimeout o) s = .next (s.setQ q (some x))) ∧
      (∀ (w : RxWork) (z : EthQ), w ∈ x.held → late w = true →
        let y := s.losslessAll x.held.length q at_
        y.ethQ q = some z →
        exec (.losslessHoldTimeout o) s = .next ((z.held.filter late).foldl
          (fun a v => (a.ethCount 50 q).pfcUpdate v.port at_)
          (y.setQ q (some { z with held := z.held.filter (fun v => !late v) }))))))

/-- A received frame on a port that is up is counted by the MAC (R300, R321). One that passes the address filter joins its
pipe last, cut off at the port's limit, where its header beats fit, and is counted as overrun where not (R304, R324); a good
PFC frame sets the pauses of the classes it names, TC7 excepted (R309); a PAUSE frame is only counted (R303); an LLDP frame
with an EEE TLV sets the partner's wake time (R312). MG takes no part in the pipes and has no PFC (R319).

A port that is idle sends the oldest frame of its highest class that is neither paused nor held back by a reply (R306, R309,
R380): the frame leaves with its FCS, the port is busy for it, its preamble and the gap (R301), and a transmit queue's head
passes the frame's descriptors (R318). A port that has none to send, or that is not idle, sends nothing.

A tail read that returns makes the posted descriptors available (R314): a receive queue's waiting frames go on, a transmit
queue offers its posted frames to the egress queues. ETHQ_QUERY answers a queue's context, ETHQ_FREE removes a queue with its
egress frames, ETHQ_DEFINE takes the lowest free number of the partition's range for a context that meets Table 11.4, and
answers the first failing check of any other, an extent outside the partition's ranges being a violation, one within its range of
T2 an error alone (R313, R316, R317).

A tail read frees its endpoint's place for one that waits, with 1,024 outstanding (R417).

The checks of a transmit buffer, the class of a frame of several descriptors, a frame that arrives in one command, the classes
that a PFC frame pauses, the rows that act on frames of one kind alone and the numbers of transmit queues from 4,096 on are
the model's choices (log entries 45, 108, 109, 118, 144, 106). -/
def Obligations.EthernetFrames : Prop :=
  (∀ (s : State) (o : EthRxOp),
    let p := o.port
    let y := s.macCount o
    let control := isPfc o.bytes = true ∨ isPause o.bytes = true ∨ isLldp o.bytes = true
    let by_ := fun t : State => exec (.ethFrameReceive o) s = .next t ∧
      exec (.pfcFrameReceive o) s = .next (if isPfc o.bytes = true then t else s) ∧
      exec (.pauseFrameReceive o) s = .next (if isPause o.bytes = true then t else s) ∧
      exec (.lldpReceive o) s = .next (if isLldp o.bytes = true then t else s)
    (s.portBt p = none ∨ s.portUp p = false → by_ s) ∧
    (∀ bt : Nat, s.portBt p = some bt → s.portUp p = true →
      let end_ := s.clk.edges * 102400 + o.at_ + (8 + o.bytes.length) * bt
      (control → s.rxBad o = true → by_ y) ∧
      (s.rxBad o = false → isPfc o.bytes = true → by_ (if p = 192 then y else y.pfcAct p end_ o.bytes)) ∧
      (s.rxBad o = false → isPfc o.bytes = false → isLldp o.bytes = true → by_ (y.lldpAct p end_ o.bytes)) ∧
      (s.rxBad o = false → isPfc o.bytes = false → isLldp o.bytes = false → isPause o.bytes = true → by_ y) ∧
      (¬control → s.addrPasses p o.bytes = false → by_ (y.ethCount 35 p)) ∧
      (¬control → s.addrPasses p o.bytes = true → by_ (if p = 192 then y else y.pipePut o (s.rxBad o) bt)))) ∧
  (∀ (s : State) (o : EthRxOp) (bad : Bool) (bt : Nat),
    let p := o.port
    let giant := decide (s.maxFrame p < o.bytes.length)
    let bytes := o.bytes.take (s.maxFrame p)
    let pipe := s.dnum (0x430101 + p) % 8
    let q := Tab.get [] s.net.pipes pipe
    let beats := headerBeats (s.parse p (if giant then bytes else bytes.take (bytes.length - 4))).1
    let t := s.clk.edges * 102400 + o.at_
    let f : RxFrame := {
      id := s.net.nextId, port := p, tick := (s.now + (o.at_ + 8 * bt) / 102400) % 2 ^ 48, t := t, bytes := bytes, bad := bad,
      bank := s.net.ruleBank, ver := s.net.ruleVer, beats := beats, giant := giant }
    let full := s.count cPpHdrOverrun pipe 1
    s.pipePut o bad bt = if (q.map (·.beats)).foldl (· + ·) 0 + beats ≤ 512
      then { s with net := { s.net with nextId := s.net.nextId + 1, pipes := Tab.put [] s.net.pipes pipe (q ++ [f]) } }
      else full.raiseLimited pipe 0x4301 0xFF pipe (full.counter cPpHdrOverrun pipe)) ∧
  (∀ (s : State) (p at_ bt : Nat) (b : List Byte),
    let x := s.port p
    (s.portBt p = some bt → Tab.wf {} s.net.ports = true → Tab.wf 0 x.pause = true →
      ∀ i : Nat, Tab.get 0 ((s.pfcAct p at_ b).port p).pause i =
        (if i < 7 ∧ beAt b 16 2 / 2 ^ i % 2 = 1 then
          (if beAt b (18 + 2 * i) 2 = 0 then 0 else at_ + 64 * bt * beAt b (18 + 2 * i) 2)
        else Tab.get 0 x.pause i)) ∧
    (lldpEee (b.take (b.length - 4)) = none ∨ s.lpiCap p = false → s.lldpAct p at_ b = s) ∧
    (∀ ttl w : Nat, lldpEee (b.take (b.length - 4)) = some (ttl, w) → s.lpiCap p = true →
      (s.portBt p = none → s.lldpAct p at_ b = s) ∧
      (∀ bt', s.portBt p = some bt' →
        s.lldpAct p at_ b = s.setPort p { x with tw := some (w, at_ + ttl * 10 ^ 11), wake := max w (Config.phyWake bt') }))) ∧
  (∀ (s : State) (o : EthTxOp),
    let p := o.port
    let at_ := s.clk.edges * 102400 + o.at_
    let busy := at_ < (s.port p).txEnd ∨ s.net.reqs.any (fun r => r.frame.port == p && r.reply.isSome) = true
    (s.portBt p = none ∨ s.portUp p = false ∨ busy ∨ s.nextClass p at_ = none → exec (.ethFrameTransmit o) s = .next s) ∧
    (∀ (bt tc : Nat) (i : TxItem) (rest : List TxItem), s.portBt p = some bt → s.portUp p = true → ¬busy →
      s.nextClass p at_ = some tc → s.egress p tc = i :: rest →
      let f := s.itemFrame i o.data
      let x := s.setEgress p tc rest
      let x := if i.stomp = true then x.ethCount 36 p else x
      let x := if f.2 = true then x.ethCount 37 p else x
      let x := (x.emit (.ethFrame p f.1)).sentCount p f.1
      let x := match i.queue with
        | some (q, j, n) => x.txDone q j n
        | none => x
      let ends := at_ + (8 + f.1.length + 12) * bt
      exec (.ethFrameTransmit o) s = .next (x.setPort p { x.port p with txEnd := ends, idle := ends }))) ∧
  (∀ (s : State) (q j n : Nat) (x : EthQ), s.ethQ q = some x →
    ((s.txDone q j n).ethQ q).map (·.head) = some ((x.head + n) % x.entries)) ∧
  (∀ (s : State) (o : TailOp),
    let q := o.queue
    let at_ := s.clk.edges * 102400 + o.at_
    (s.ethQ q = none → exec (.tailReadComplete o) s = .next s) ∧
    (∀ x : EthQ, s.ethQ q = some x → x.flight = none → exec (.tailReadComplete o) s = .next s) ∧
    (∀ (x : EthQ) (got : Option Nat), s.ethQ q = some x → x.flight = some got →
      let blank := List.replicate 32 0#8
      let ds := if x.host = true then (List.range o.descs.length).foldl (fun m j =>
        Tab.put blank m ((x.tail + j) % x.entries) (padTo 32 (o.descs.getD j []))) x.descs else x.descs
      let took := s.setQ q (some { x with
        flight := none, again := false, lost := false, tail := got.getD o.tail % x.entries, descs := ds })
      let took := if x.again = true then took.tailRead q else took.readNext x.part
      (4096 ≤ q → exec (.tailReadComplete o) s = .next (took.txTake x.entries q at_)) ∧
      (q < 4096 →
        let y := took.rxDrain (x.work.length + 1) q
        exec (.tailReadComplete o) s = .next (
          if (y.ethQ q).any (fun z => !z.held.isEmpty && z.head == z.tail) = true then y.tailRead q else y)))) ∧
  (∀ (s : State) (o : MbxCmdOp), s.mbxFree o.part.toNat →
    let p := o.part.toNat
    let q := leNat o.payload
    let gives := fun (x : State → State) (cmd st : Nat) (r : List Byte) => (x (s.mbxAsk cmd o)).mbxRespond p cmd st o.tag.toNat r
    let mine := (s.ethQ q).isSome = true ∧ s.queueIn p q = true
    (o.payload.length ≠ 2 → exec (.ethqQuery o) s = .next (gives id 0x0403 stBadLength []) ∧
      exec (.ethqFree o) s = .next (gives id 0x0402 stBadLength [])) ∧
    (o.payload.length = 2 → ¬mine → exec (.ethqQuery o) s = .next (gives id 0x0403 stNoSuchQueue []) ∧
      exec (.ethqFree o) s = .next (gives id 0x0402 stNoSuchQueue [])) ∧
    (∀ x : EthQ, o.payload.length = 2 → s.ethQ q = some x → s.queueIn p q = true →
      exec (.ethqQuery o) s = .next (gives id 0x0403 stOk (qContext x q)) ∧
      exec (.ethqFree o) s = .next (gives (fun s => s.freeQueue q) 0x0402 stOk [])) ∧
    (Tab.wf none s.net.queues = true →
      (s.freeQueue q).ethQ q = none ∧ ∀ r, r ≠ q → (s.freeQueue q).ethQ r = s.ethQ r ∨
        ∃ x, s.ethQ r = some x ∧ x.again = true ∧ x.flight = none ∧
          (s.freeQueue q).ethQ r = some { x with flight := some none, again := false }) ∧
    (∀ x : EthQ, s.ethQ q = some x →
      ∀ e ∈ (s.freeQueue q).net.egress, ∀ i ∈ e.2, ∀ j n, i.queue ≠ some (q, j, n))) ∧
  (∀ (s : State) (o : MbxCmdOp) (i : Nat), s.mbxFree o.part.toNat →
    let p := o.part.toNat
    let c := padTo 32 o.payload
    let fl := leAt c 21 1
    let tx := fl / 2 % 2 = 1
    let r := s.ptRange p (if tx then 14 else 13)
    let base := if tx then 4096 else 0
    let x : EthQ := { ring := leAt c 0 8, tailAt := leAt c 8 8, entries := leAt c 16 4, bufKib := leAt c 20 1,
                      host := fl % 2 == 1, port := leAt c 22 2, part := p }
    let out := if x.host = true then [] else
      [(x.ring, 32 * x.entries), (x.tailAt, 4)].filter (fun e => s.extentOut p e.1 e.2)
    let badValue := ¬(∃ e, 6 ≤ e ∧ e ≤ 16 ∧ x.entries = 2 ^ e) ∨ (¬tx ∧ (x.bufKib < 2 ∨ 64 < x.bufKib)) ∨ 4 ≤ fl ∨
      leAt c 26 6 ≠ 0
    let absent := tx ∧ (192 ≤ x.port ∨ s.portBt x.port = none)
    let badAddr := x.ring % 32 ≠ 0 ∨ x.tailAt % 4 ≠ 0 ∨ out ≠ [] ∨ (x.host = false ∧ (x.ring / 2 ^ 56 = 5 ∨ x.tailAt / 2 ^ 56 = 5)) ∨
      (x.host = true ∧ s.dnum (ptKey p 2) = 0)
    let gives := fun (t : State → State) (st : Nat) (b : List Byte) =>
      exec (.ethqDefine o) s = .next ((t (s.mbxAsk 0x0401 o)).mbxRespond p 0x0401 st o.tag.toNat b)
    ((∀ j, j < r.2 → (s.ethQ (base + r.1 + j)).isSome = true) → gives id stNoQueue []) ∧
    (i < r.2 → s.ethQ (base + r.1 + i) = none → (∀ j, j < i → (s.ethQ (base + r.1 + j)).isSome = true) →
      (badValue → gives id stBadValue []) ∧
      (¬badValue → absent → gives id stAbsentUnit []) ∧
      (¬badValue → ¬absent → badAddr → gives (fun s => out.foldl (fun y e => y.extentViolation p e.1 e.2) s) stBadAddress []) ∧
      (¬badValue → ¬absent → ¬badAddr →
        gives (fun s => s.setQ (base + r.1 + i) (some x)) stOk (qContext x (base + r.1 + i)))))

/-- The oldest frame of a pipe is parsed (R323): one that fails is counted under its reason and has no destination (R327,
R343); a whole frame gets the destination of its rules (R331 to R333); a first fragment also stores it, a later fragment takes
its datagram's, or has none (R349). One whose IP length reaches beyond it fails parsing too, where it is not for the Shot path
(R327, R384). A frame that its port received after one that another pipe still holds waits for it.

Fragment and flow entries past their age are removed and counted (R349, R352); at an edge whose number is a multiple of 1,024
hot queues and lanes are reported and their maps rebalanced, and the interval's counts begin anew, and no other edge ends one
(R355, R356); RULE_SWITCH of a bank that passes its checks makes it the active one, with the next version modulo 16, and a
bank that fails them stays inactive (R346).

The order of two failures of one frame, what keeps a port's frames in arrival order, and the exception for the Shot path are
the model's readings (log entries 40, 171, 46). -/
def Obligations.Parsing : Prop :=
  (∀ (s : State) (o : PipeOp), Tab.get [] s.net.pipes o.pipe.toNat = [] → exec (.pipeParse o) s = .next s) ∧
  (∀ (s : State) (o : PipeOp) (fr : RxFrame) (rest : List RxFrame),
    let n := o.pipe.toNat
    let at_ := s.clk.edges * 102400 + o.at_
    let s0 := { s with net := { s.net with pipes := Tab.put [] s.net.pipes n rest } }.count cPpFrames n 1
    let s1 := s0.fragExpire at_
    let p := s0.parse fr.port fr.data
    let plain : Decision := { tc := s0.portParse fr.port 18 16, bank := fr.bank, ver := fr.ver }
    let behind := ∃ e ∈ s.net.pipes, e.1 ≠ n ∧ ∃ g ∈ e.2, g.port = fr.port ∧ g.id < fr.id
    Tab.get [] s.net.pipes n = fr :: rest →
    (behind → exec (.pipeParse o) s = .next s) ∧
    (¬behind →
      (p.1.fail ≠ 0 → exec (.pipeParse o) s =
        .next ((s0.count (cPpParseFail1 + (p.1.fail - 1)) n 1).noDest n at_ fr plain)) ∧
      (p.1.fail = 0 → p.1.frag = 0 →
        let d := s0.steer n fr p.1 p.2 o.rangeUe
        let beyond := p.1.short.isSome = true ∧ d.2.shot = false
        (beyond → exec (.pipeParse o) s = .next ((s0.count (cPpParseFail1 + 1) n 1).noDest n at_ fr plain)) ∧
        (¬beyond → exec (.pipeParse o) s = .next (d.1.dispatch n at_ fr p.1 d.2))) ∧
      (p.1.fail = 0 → p.1.frag = 1 →
        let d := s1.steer n fr p.1 p.2 o.rangeUe
        exec (.pipeParse o) s = .next ((d.1.fragStore at_ p.1.fragId d.2).dispatch n at_ fr p.1 d.2)) ∧
      (p.1.fail = 0 → p.1.frag = 2 →
        ((∀ e ∈ s1.net.frags, e.key ≠ p.1.fragId) → exec (.pipeParse o) s =
          .next ((s1.count cFragNoEntry 0 1).noDest n at_ fr plain)) ∧
        (∀ e, s1.net.frags.find? (fun e => e.key == p.1.fragId) = some e → exec (.pipeParse o) s =
          .next ((s1.count cFragFollow 0 1).dispatch n at_ fr p.1 e.dec))))) ∧
  ((∀ (s : State) (o : AgeOp),
    let at_ := s.clk.edges * 102400 + o.at_
    let deadFrag := fun e : FragEnt => decide (e.at_ + s.dnum 0x450001 * 10 ^ 5 ≤ at_)
    let deadFlow := fun e : FlowEnt => decide (e.lastAt + s.dnum 0x460001 * 10 ^ 8 ≤ at_)
    exec (.fragAgeExpire o) s = .next ({ s with net := { s.net with
      frags := s.net.frags.filter (fun e => !deadFrag e) } }.count cFragAged 0 (s.net.frags.filter deadFrag).length) ∧
    exec (.flowAgeExpire o) s = .next ({ s with net := { s.net with
      flows := s.net.flows.filter (fun e => !deadFlow e) } }.count cFlowAged 0 (s.net.flows.filter deadFlow).length)) ∧
  (∀ s : State,
    let y := ([0, 1, 2, 3].foldl State.balancePt s).balanceLanes
    (s.now % 1024 = 0 → exec .balanceIntervalEnd s =
      .next { y with net := { s.net with qBytes := [], rssHits := [], laneBytes := [], laneHits := [] } } ∧
      y.cores = s.cores) ∧
    (s.now % 1024 ≠ 0 → exec .balanceIntervalEnd s = .next s) ∧
    (s.ruleSwitchCheck = 0 → exec .ruleSwitch s = .next ({ s with net := { s.net with
      ruleBank := 1 - s.net.ruleBank, ruleVer := (s.net.ruleVer + 1) % 16 } }.raise 0x4307 0xFF
        ((s.net.ruleVer + 1) % 16) 0)) ∧
    (s.ruleSwitchCheck ≠ 0 → exec .ruleSwitch s = .next s)))

/-- A rule matches when (key AND MASK) equals (VALUE AND MASK), so a MASK of zeros matches every key; of the valid rules
that match, the one of lowest PRIORITY applies, among equal priorities the one of lowest index, and at most one does (R330). -/
def Obligations.RuleChoice : Prop :=
  (∀ r key : List Byte, ruleValid r = true →
    let mask := leAt r 48 48
    (ruleMatches r key = true ↔ leNat key &&& mask = leAt r 0 48 &&& mask) ∧ (mask = 0 → ruleMatches r key = true)) ∧
  (∀ r key : List Byte, ruleValid r = false → ruleMatches r key = false) ∧
  ∀ (key r : List Byte) (rs : List (Nat × List Byte)),
    let fits := fun x : Nat × List Byte => ruleMatches x.2 key = true
    let prio := fun x : List Byte => leAt x 96 2
    (bestRule key rs = some r ↔ ∃ (a b : List (Nat × List Byte)) (n : Nat), rs = a ++ (n, r) :: b ∧ fits (n, r) ∧
      (∀ x ∈ a, fits x → prio r < prio x.2) ∧ (∀ x ∈ b, fits x → prio r ≤ prio x.2)) ∧
    (bestRule key rs = none ↔ ∀ x ∈ rs, ¬fits x)

/-! ### The Shot path and the trees -/

/-- A lane takes its oldest request; its next record passes the Grind stage and issues each lookup once the source fields of
its feature have passed, no other, whose request leaves when its bridge has the tokens; with its last field its deadline
starts (R34, R365 to R372, R388); the missing fields of a record that is cut off never pass, and one that is OVERLOAD passes
without lookups. What its rows and its tables' checks gave then is what the trees see, whatever becomes of the tables (R369,
R371). A response takes its tokens, else it waits; it goes to the oldest request of its row that has none, and is
counted as late when that request's record was given up (R34, R370, R372).

The oldest request of a port without a reply starts it, its headers made then, once it is due, the port is free and its class
is not paused, or has it discarded on a port that is down; a port in transmit low power wakes first (R299, R309, R312, R374,
R378, R380); each entry that comes due takes its record's result, or OVERLOAD when that comes too late (R379); the FCS ends
the reply, inverted unless the request's own has checked good by then (R381 to R384), and the request is gone.

The order in which equal rows' responses come (log entry 173), that GRIND_RECORD says how far a record has come, and that a
reply starts at the instant of REPLY_START, from which its entries are timed (log entry 116), are the model's readings. -/
def Obligations.ShotRequests : Prop :=
  (∀ (s : State) (o : LaneOp) (g : GrindOp),
    let waits := fun x : ShotReq => x.lane == o.lane.toNat && !x.hold && x.admitted.isNone && x.status == 0
    let runs := fun x : ShotReq => x.lane == g.lane.toNat && !x.hold && x.admitted.isSome && decide (x.next < x.recs.length)
    (s.net.reqs.any waits = false → exec (.shotLaneAdmit o) s = .next s) ∧
    (s.net.reqs.any runs = false → exec (.grindRecord g) s = .next s) ∧
    (∀ (r : ShotReq) (a b : List ShotReq), s.net.reqs = a ++ r :: b →
      (a.any waits = false → waits r = true →
        exec (.shotLaneAdmit o) s = .next (s.setReq { r with admitted := some (s.clk.edges * 102400 + o.at_) })) ∧
      (a.any runs = false → runs r = true → ∀ x : ShotRec, r.recs[r.next]? = some x →
        let at_ := s.clk.edges * 102400 + g.at_
        let i := r.next
        let l := s.layout r.bank r.layout
        let whole := l.lastField ≤ g.upto.toNat
        let r' := if whole then { r with next := i + 1 } else r
        let passed := min g.upto.toNat (r.frame.data.length - (r.off + 32 + i * l.rb))
        let y := s.issueAll r' l (r.recBytes l.rb i) g.bad x.passed passed x.looks
        let seen := { x with passed := max x.passed passed, looks := y.2 }
        let ends := whole ∧ r.cut l i = false
        let time := if r.tc = 7 then s.dnum 0x521004 else s.dnum 0x521005
        let x' := if ends then { seen with ground := some at_, deadline := at_ + 100 * time, noDot := s.dotsBad l } else seen
        let z := if ends then y.1.count cShotNoTable r.lane (s.dotsBad l).length else y.1
        (x.overl = true → exec (.grindRecord g) s = .next (s.setReq r')) ∧
        (x.overl = false → exec (.grindRecord g) s = .next
          (((z.setReq (r'.setRec i x')).askAll r.frame.id i at_ x.looks.length y.2).recTry r.frame.id i at_))))) ∧
  (∀ (s : State) (l : LayoutDesc) (j : Nat),
    j ∈ s.dotsBad l ↔ ∃ f, l.feats[j]? = some f ∧ f.op = 4 ∧ s.dotBad l f = true) ∧
  (∀ (s t : State) (bank : Nat) (l : LayoutDesc) (b : List Byte) (x : ShotRec) (j : Nat) (f : FeatDesc),
    l.feats[j]? = some f → f.op = 3 ∨ 4 ≤ f.op → s.feature bank l b x j = t.feature bank l b x j ∧
      (f.op = 4 → j ∈ x.noDot → s.feature bank l b x j = .missing)) ∧
  (∀ (s : State) (r : ShotReq) (l : LayoutDesc) (b : List Byte) (bad : List Nat) (lo hi : Nat) (looks : List Lookup),
    ∃ new, (s.issueAll r l b bad lo hi looks).2 = looks ++ new ∧ ∀ k ∈ new, ∃ c ∈ l.crosses b,
      lo < l.srcEnd c.2.1 ∧ l.srcEnd c.2.1 ≤ hi ∧ c.1 ∈ k.feats ∧ (s.scoreTable c.2.1).isSome = true ∧
      ∀ old ∈ looks, c.1 ∉ old.feats) ∧
  (∀ (s : State) (o : LookupOp),
    let lane := o.lane.toNat
    let at_ := s.clk.edges * 102400 + o.at_
    let k : RowKey := ⟨s.dnum 0x500001, o.table.toNat, o.shard, o.slot⟩
    let x := s.class2Run at_
    (x.oldestAsk lane k = none → exec (.lookupResponse o) s = .next x) ∧
    (∀ n, x.oldestAsk lane k = some n →
      (x.class2Take (x.lookupTile k) at_ (x.lookupLen k) = none → exec (.lookupResponse o) s = .next x) ∧
      (∀ y, x.class2Take (x.lookupTile k) at_ (x.lookupLen k) = some y →
        let z := y.noteEcc 1 o.ecc false
        ((∀ w ∈ z.waitingFor lane k, w.2.2.2 ≠ n) → exec (.lookupResponse o) s =
          .next ({ z.hotMiss (z.lookupTile k) k with net := { z.net with
            orphans := z.net.orphans.filter (fun e => e.2.2 != n) } }.count cShotLookupLate lane 1)) ∧
        (∀ (a b : List (ShotReq × Nat × Nat × Nat)) (r : ShotReq) (i j : Nat), z.waitingFor lane k = a ++ (r, i, j, n) :: b →
          (∀ w ∈ a, w.2.2.2 ≠ n) → exec (.lookupResponse o) s = .next (z.lookupGive k r i j at_))))) ∧
  (∀ (s : State) (k : RowKey) (r : ShotReq) (x : ShotRec) (i j at_ ct n : Nat), r.recs[i]? = some x →
    let x' := { x with looks := x.looks.modify j (fun l => { l with found := s.replicaRow k }) }
    let c := s.class2 ct 1
    let level := min 102400 (c.level + 16 * (at_ - c.at_))
    s.lookupGive k r i j at_ = (((s.setReq (r.setRec i x')).hotMiss (s.lookupTile k) k).noteUnavail r.frame.id i).recTry
      r.frame.id i at_ ∧
    s.class2Take ct at_ n = if 25 * n ≤ level
      then some (s.setClass2 ct 1 { c with level := level - 25 * n, at_ := max c.at_ at_ }) else none) ∧
  (∀ (s : State) (o : PortOp),
    let at_ := s.clk.edges * 102400 + o.at_
    let idle := fun x : ShotReq => x.frame.port == o.port && x.reply.isNone
    let busy := fun x : ShotReq => x.frame.port == o.port && x.reply.isSome
    (s.net.reqs.any idle = false → exec (.replyStart o) s = .next s) ∧
    (s.net.reqs.any busy = false → exec (.replyEntryDue o) s = .next s ∧ exec (.replyFcsDue o) s = .next s) ∧
    (∀ (r : ShotReq) (a b : List ShotReq), s.net.reqs = a ++ r :: b →
      let bt := s.reqBt r
      (a.any idle = false → idle r = true →
        (s.replyDue r = none → exec (.replyStart o) s = .next s) ∧
        (∀ due, s.replyDue r = some due →
          let ahead := ∃ c, c < 8 ∧ s.pausedAt o.port c at_ = false ∧
            ∃ i ∈ s.egress o.port c, r.tc < c ∨ c = r.tc ∧ i.at_ ≤ due
          let held := at_ < due ∨ (s.portUp o.port = true ∧ (at_ < (s.port o.port).txEnd ∨ ahead ∨
            s.pausedAt o.port r.tc at_ = true ∨ s.net.reqs.any busy = true))
          let head := s.replyHeaders r (s.replyLen r) ++ r.replyHead (s.replyU r)
          let run : ReplyRun := ⟨at_ + (8 + r.replyHdr + 32) * bt, head, [], at_ + s.replyFcsOff r * bt⟩
          (held → exec (.replyStart o) s = .next s) ∧
          (¬held → s.portUp o.port = false → exec (.replyStart o) s = .next (s.replyDown r at_)) ∧
          (¬held → s.portUp o.port = true → (s.port o.port).lpiTx = true →
            exec (.replyStart o) s = .next (s.wakePort o.port at_)) ∧
          (¬held → s.portUp o.port = true → (s.port o.port).lpiTx = false → exec (.replyStart o) s =
            .next ((s.setReq { r with reply := some run }).setPort o.port { s.port o.port with txEnd := run.fcsAt + 16 * bt })))) ∧
      (∀ run, a.any busy = false → busy r = true → r.reply = some run →
        let i := run.entries.length
        let due := run.t0 + i * s.replyU r * bt
        (r.status ≠ 0 ∨ r.nrec ≤ i ∨ at_ + txPath bt < due → exec (.replyEntryDue o) s = .next s) ∧
        (∀ x, r.status = 0 → i < r.nrec → due ≤ at_ + txPath bt → r.recs[i]? = some x →
          let l := s.layout r.bank r.layout
          let late := x.scored.all (fun t => decide (due < t + txPath bt)) && !r.cut l i && !x.overl
          let y := if late = true then s.overload r.frame.id i cShotOverload1 at_ else s
          ∀ (q : ShotReq) (z : ShotRec), y.req r.frame.id = some q → q.recs[i]? = some z →
            let e := q.entryBytes l i z
            let s0 := if q.recStatus l i z = 1 then y.count cShotSubst q.lane 1 else y
            let q' := q.setRec i { z with sent := true }
            exec (.replyEntryDue o) s = .next ((s0.setReq { q' with reply := some { run with entries :=
              run.entries ++ [e] } }).count cShotRec q.lane 1)) ∧
        (at_ < run.fcsAt ∨ r.status = 0 ∧ i < r.nrec → exec (.replyFcsDue o) s = .next s) ∧
        (run.fcsAt ≤ at_ → (r.status = 0 → r.nrec ≤ i) →
          let body := run.head ++ run.entries.flatten
          let checked := decide (s.pinsAt r r.frame.bytes.length + rxPath bt ≤ run.fcsAt)
          let good := checked && !r.frame.bad && !r.short
          let f := padFrame body ++ fcsOf (padFrame body)
          let f := if good then f else stompFrame f
          let x := (s.emit (.ethFrame o.port f)).sentCount o.port f
          let x := if body.length < 60 then x.ethCount 37 o.port else x
          let x := if good then x else ((((x.count cRxStompedReply r.lane 1).count cRxStompedReplyPort o.port 1).ethCount 36
            o.port).convUpdate r (fun e => { e with stomped := e.stomped + 1 }))
          let x := if !checked && r.overlong then x.count cShotReqOverlong r.lane 1 else x
          (s.portUp o.port = false → exec (.replyFcsDue o) s = .next (s.replyDown r at_)) ∧
          (s.portUp o.port = true → exec (.replyFcsDue o) s = .next (x.finishReq r at_) ∧
            ∀ q ∈ (x.finishReq r at_).net.reqs, q.frame.id ≠ r.frame.id)))))

/-- LOOKUP_DEADLINE: in every record of the lane whose deadline has come the lookups that wait are substituted, and it is
ready unless it is OVERLOAD (R372), or answered at once where its model is damaged (R410). RECORD_OVERLOAD: every record of
the lane that was not scored by the second edge after the tick of its arrival is OVERLOAD, its lookups given up, and is
counted in shot_overload_2 (R387). Both keep every request, in its place, with all else of it as before, and every record that
is not due as it was, but that requests of lookups may leave for their tile meanwhile (R34) and that waiting records may come
into the feature buffer (R403).

That lookups given up by OVERLOAD count as no substitution is the model's reading (log entry 187). -/
def Obligations.ShotDeadlines : Prop :=
  ∀ (s : State) (o : LaneOp), (s.net.reqs.map (·.frame.id)).Nodup →
    let lane := o.lane.toNat
    let at_ := s.clk.edges * 102400 + o.at_
    let unsent := fun l : Lookup => { l with sent := none }
    let gives := fun (as : Found) (l : Lookup) => if l.found = .waiting then { l with found := as } else l
    let maps := fun (t : State) (rel : ShotReq → Nat → ShotRec → ShotRec → Prop) =>
      t.net.reqs.length = s.net.reqs.length ∧ ∀ (n : Nat) (r : ShotReq), s.net.reqs[n]? = some r →
        ∃ q : ShotReq, t.net.reqs[n]? = some q ∧ q = { r with recs := q.recs } ∧ q.recs.length = r.recs.length ∧
          ∀ (i : Nat) (x : ShotRec), r.recs[i]? = some x → ∃ y, q.recs[i]? = some y ∧ rel r i x y
    (∃ t : State, exec (.lookupDeadline o) s = .next t ∧
      t = { s with net := { s.net with
        reqs := t.net.reqs, orphans := t.net.orphans, class2 := t.net.class2, lookNo := t.net.lookNo } } ∧
      maps t (fun r _ x y =>
        let due := r.lane = lane ∧ x.ground.isSome = true ∧ x.deadline ≤ at_ ∧ ∃ l ∈ x.looks, l.found = .waiting
        let when := max (x.ground.getD 0) at_
        let z := { x with ready := some when }
        y.looks.map unsent = (if due then x.looks.map (gives .substituted) else x.looks).map unsent ∧
        { y with looks := [] } = { (if due ∧ x.ready = none ∧ x.overl = false then
          (if s.modelDamaged r.bank r.place = true then z.unscored when else z) else x) with looks := [] })) ∧
    (let due := fun (r : ShotReq) (i : Nat) (x : ShotRec) => r.lane = lane ∧ r.hold = false ∧ x.scored = none ∧
      x.overl = false ∧ x.sent = false ∧ r.cut (s.layout r.bank r.layout) i = false ∧ x.arr + 2 ≤ s.clk.edges
     ∃ t : State, exec (.recordOverload o) s = .next t ∧ t.mem = s.mem ∧ t.t0 = s.t0 ∧ t.t1 = s.t1 ∧ t.t2 = s.t2 ∧
      t.dict = s.dict ∧ t.cores = s.cores ∧ t.emb = s.emb ∧ t.host = s.host ∧ t.bank = s.bank ∧ t.tree = s.tree ∧
      (Tab.wf 0 s.ctr = true → (∃ r ∈ s.net.reqs, ∃ x ∈ r.recs.zipIdx, due r x.2 x.1) →
        t.counter cShotOverload2 lane = (s.counter cShotOverload2 lane + ((s.net.reqs.flatMap (fun r =>
          (r.recs.zipIdx.filter (fun x => decide (due r x.2 x.1))).map (·.2))).length)) % 2 ^ 64) ∧
      maps t (fun r i x y =>
        y.looks.map unsent = (if due r i x then x.looks.map (gives .noTable) else x.looks).map unsent ∧
        { y with looks := [], inBuf := x.inBuf } = { x with looks := [], overl := x.overl || decide (due r i x) } ∧
        (x.inBuf = true → y.inBuf = true)))

/-- An idle lane starts a group of the oldest loaded record with up to seven more of its model and bank, and does nothing
while its comparisons run or where none is loaded (R388, R403); the group ends 56 NCLK after its comparisons, each of its
records is scored, and each word of the model's nodes that is found uncorrectable is counted and marks the model (R403, R404,
R410). A record is evaluated and counted, and one that is OVERLOAD, or whose request has left the device, keeps no score
(R379, R415).

A bank commit begins its checks unless the bank is at work or a channel writes the tree store; at their end a bank that passes
is the active one, with the next sequence number, and one that fails is rejected with its status (R407, R408).

That a record made OVERLOAD in the buffer goes on to its group (log entry 174), and that te_bank_reject and the errors
corrected in the checks count at lane 0 (log entry 175), are the model's choices. -/
def Obligations.TreeEngine : Prop :=
  (∀ (s : State) (o : LaneOp),
    let lane := o.lane.toNat
    let at_ := s.clk.edges * 102400 + o.at_
    let busy := ∃ g ∈ s.net.groups, g.lane = lane ∧ at_ < g.start + 64 * g.q
    let f := s.fillBuf lane at_
    let ready := (f.readyRecs lane).filter (fun e => e.2.2.inBuf)
    (busy → exec (.treeGroupStart o) s = .next s) ∧
    (¬busy → ready = [] → exec (.treeGroupStart o) s = .next f) ∧
    (∀ e more, ¬busy → ready = e :: more → ∃ (t : State) (g : TreeGroup), exec (.treeGroupStart o) s = .next t ∧
      t.net.groups = f.net.groups ++ [g] ∧ g.lane = lane ∧ g.start = at_ ∧
      g.q = f.groupTime e.1.bank (f.reqModel e.1) ∧ g.bank = e.1.bank ∧ g.place = e.1.place ∧
      g.recs = ((ready.filter (fun x => x.1.bank == e.1.bank && x.1.place == e.1.place)).take 8).map
        (fun x => (x.1.frame.id, x.2.1)) ∧ t.tree = s.tree ∧ t.bank = s.bank ∧ t.dict = s.dict)) ∧
  (∀ (s : State) (d : TreeEndOp),
    let lane := d.lane.toNat
    let at_ := s.clk.edges * 102400 + d.at_
    ((∀ g ∈ s.net.groups, g.lane ≠ lane) → exec (.treeGroupComplete d) s = .next s) ∧
    (∀ (g : TreeGroup) (a b : List TreeGroup), s.net.groups = a ++ g :: b → (∀ x ∈ a, x.lane ≠ lane) → g.lane = lane →
      let due := g.start + 64 * (g.q + 56)
      let f := s.fillBuf lane at_
      let y := { f with net := { f.net with groups := f.net.groups.filter (fun x => x != g) } }.count cTeStoreCe lane d.ce
      let m := modelOf (((y.ruleGet g.bank 0x520101).drop (128 * g.place)).take 128)
      let bad := y.badWords d.ue (fun w => overlaps (8 * m.nodeBase) (8 * (y.modelSize g.bank m).1) w 8)
      let z := bad.foldl (fun x w => (x.treeUe lane w).damage g.bank g.place w due) y
      (at_ < due → exec (.treeGroupComplete d) s = .next s) ∧
      (due ≤ at_ → exec (.treeGroupComplete d) s =
        .next (g.recs.foldl (fun x e => x.scoreRec lane due (!bad.isEmpty) d.ue e) z).pruneGone))) ∧
  (∀ (s : State) (lane at_ : Nat) (bad : Bool) (ue : List Nat) (e : Nat × Nat) (r : ShotReq) (x : ShotRec),
    s.anyReq e.1 = some r → r.recs[e.2]? = some x →
    let l := s.layout r.bank r.layout
    let m := s.reqModel r
    let raw := s.rawScores r.bank m (fun i => s.feature r.bank l (r.recBytes l.rb e.2) x i)
    let hit := s.badWords ue raw.words.contains
    let y := if x.overl = true then { x with group := true, inBuf := false } else
      { x with scored := some at_, absent := bad || !hit.isEmpty, scores := linkScores m.link m.k m.thresh raw.acc }
    s.scoreRec lane at_ bad ue e = hit.foldl (fun s w => (s.treeUe lane w).damage r.bank r.place w at_)
      (((s.setAnyReq (r.setRec e.2 y)).count cTeRec lane 1).count cTeEmptyExit lane raw.empty)) ∧
  (∀ (s : State) (o : BankEndOp),
    let serves := 6 ≤ s.boot.state ∧ s.boot.state < 9 ∧ s.variant ≠ .t
    let st := s.bankChecks (1 - s.bank.active) o.flag
    (¬serves → exec .bankCommit s = .next s) ∧
    (serves → s.bank.mode = 0 → s.treeDma = false →
      exec .bankCommit s = .next { s with bank := { s.bank with mode := 1 }, dap := { s.dap with busy := some ⟨none, []⟩ } }) ∧
    (serves → (s.bank.mode ≠ 0 ∨ s.treeDma = true) →
      exec .bankCommit s = .next ((s.count cTeBankReject 0 1).raise 0x5011 0xFF stBankBusy 0)) ∧
    (s.bank.mode ≠ 1 → exec (.bankChecksEnd o) s = .next s) ∧
    (s.bank.mode = 1 →
      let x := { s with dap := { s.dap with busy := none } }.count cTeStoreCe 0 o.ce
      let y := x.answerCommit (s.dap.busy.getD ⟨none, []⟩) o.flag
      exec (.bankChecksEnd o) s = .next (State.drainWork y.dap.queue.length y)) ∧
    (s.bank.mode = 1 → s.dap.busy = some ⟨none, []⟩ → s.dap.queue = [] →
      (st = 0 → ∃ t : State, exec (.bankChecksEnd o) s = .next t ∧ t.bank.active = 1 - s.bank.active ∧
        t.bank.seq = (s.bank.seq + 1) % 2 ^ 32 ∧ t.bank.mode ≠ 1 ∧ t.tree = s.tree) ∧
      (st ≠ 0 → ∃ t : State, exec (.bankChecksEnd o) s = .next t ∧ t.bank = { s.bank with mode := 0 } ∧
        t.events = s.events ++ [⟨0x5011, 0xFF, s.now, st, 0⟩] ∧ t.tree = s.tree)))

/-- A tree's exit is the first leaf that no comparison has cleared: a node that sends its feature right clears the LEAVES
from its first one (R400). Where a node sends a feature is Table 14.4: a missing feature or a NaN goes the default way, any other
number left when it is at most the threshold in IEEE 754 (equal, and the zeros equal; −Inf always; +Inf only at +Inf), a bin when
it is at most the threshold. -/
def Obligations.TreeExit : Prop :=
  (∀ (s : State) (nb n j : Nat) (f : Nat → Feature),
    let cleared := fun j : Nat => ∃ i, i < n - 1 ∧ (let w := s.node (nb + i)
      goesLeft w (f (w % 4096)) = false ∧ w / 2 ^ 44 % 256 ≤ j ∧ j < w / 2 ^ 44 % 256 + w / 2 ^ 52 % 256)
    (s.exitLeaf nb n f = some j ↔ (j < n ∧ ¬cleared j ∧ ∀ k, k < j → cleared k)) ∧
      (s.exitLeaf nb n f = none ↔ ∀ k, k < n → cleared k)) ∧
  ∀ (w k : Nat) (x : Word32),
    let nan := x.toNat / 2 ^ 23 % 256 = 255 ∧ x.toNat % 2 ^ 23 ≠ 0
    let th := w / 2 ^ 12 % 2 ^ 32
    goesLeft w .missing = decide (w / 2 ^ 60 % 2 = 1) ∧ (nan → goesLeft w (.fp x.toNat) = decide (w / 2 ^ 60 % 2 = 1)) ∧
      (¬nan → goesLeft w (.fp x.toNat) = fLe .fp32 x.toNat th) ∧
      (¬nan → th = x.toNat → goesLeft w (.fp x.toNat) = true) ∧
      ((th = 0 ∨ th = 2 ^ 31) → goesLeft w (.fp 0) = true ∧ goesLeft w (.fp (2 ^ 31)) = true) ∧
      (¬(th / 2 ^ 23 % 256 = 255 ∧ th % 2 ^ 23 ≠ 0) → goesLeft w (.fp 0xFF800000) = true ∧
        (goesLeft w (.fp 0x7F800000) = true ↔ th = 0x7F800000)) ∧
      goesLeft w (.bin k) = decide (k ≤ th)

/-! ### Host, dictionary, startup, health -/

/-- What the host of an enabled partition writes (R427 to R431): a doorbell of a queue of its range begins a tail read, or has
one follow the read in flight or wait while the endpoint has 1,024 reads outstanding (R417), and one of an undefined queue
does nothing; a post joins the core's mailbox; an armed watch of a fence of its range waits for its value, one that is not
armed is off; a write of HCQ_CTRL with HCQ_EN starts its queue anew at index 0. A page, a core or a fence outside its ranges
is a violation of the partition (R433). The host of a partition that is not enabled changes nothing (R422).

Interrupts (R428): unmasking a vector sends its pending message once, and the holdoffs of its sources start then; a holdoff
that ends gives one message for the raises that it held, and runs again. MBX_GO runs a mailbox's command once the MC is free,
and is counted as an overrun while the command before it runs (R432).

Coalesced raises whose source is disabled at the end of the holdoff (log entry 55), a message that stands for the raises that
other sources of its vector hold back (log entry 179), REASON 2 for an absent or mapped-out core or tile (log entry 156), and
transmit queues numbered from 4,096 (log entry 106) are the model's choices. -/
def Obligations.HostCommands : Prop :=
  (∀ (s : State) (d : DoorbellOp) (p : ScPostOp) (w : WatchOp) (h : HcqOp) (v : VectorOp),
    s.ptEnabled d.part.toNat = false → p.part = d.part → w.part = d.part → h.part = d.part → v.part = d.part →
    ∀ i ∈ [Instr.qRxDoorbell d, .qTxDoorbell d, .scPost p, .fenceWatchArm w, .hcqEnable h, .msixUnmask v],
      exec i s = .next s) ∧
  (∀ (s : State) (d : DoorbellOp) (i : Instr) (q addr : Nat),
    let n := d.part.toNat
    let tx := 4096 + d.queue.toNat % 1024
    s.ptEnabled n = true →
    (i, q, addr) ∈ [(.qRxDoorbell d, d.queue.toNat, 16 * d.queue.toNat), (.qTxDoorbell d, tx, 0x10000 + 16 * (tx - 4096))] →
    let owned := ∃ m, m < 4 ∧ s.ptEnabled m = true ∧ s.queueIn m q = true
    (s.queueIn n q = true → s.ethQ q = none → exec i s = .next s) ∧
    (∀ x : EthQ, s.queueIn n q = true → s.ethQ q = some x →
      (x.flight.isSome = true → exec i s = .next (s.setQ q (some { x with again := true }))) ∧
      (x.flight = none → x.host = true → exec i s = .next (s.setQ q (some (if 1024 ≤ s.readsOut x.part then { x with again := true }
        else { x with flight := some none, again := false })))) ∧
      (x.flight = none → x.host = false → exec i s =
        .next (s.setQ q (some { x with flight := some (some (leNat (s.ringRead x.tailAt 4))), again := false })))) ∧
    (s.queueIn n q = false → (owned → exec i s = .next (s.violate n 1 0 addr)) ∧
      (¬owned → exec i s = .next (s.violate n 1 1 addr)))) ∧
  (∀ (s : State) (p : ScPostOp) (w : WatchOp) (h : HcqOp),
    let n := p.part.toNat
    let k := p.core.toNat
    s.ptEnabled n = true → w.part = p.part → h.part = p.part →
    (s.coreOk k = true → s.coreOwner k = some n → exec (.scPost p) s = .next (s.mbxPost k 5 n p.payload.toNat)) ∧
    (s.coreOk k = true → s.coreOwner k ≠ some n →
      exec (.scPost p) s = .next (s.violate n 1 (if (s.coreOwner k).isSome then 0 else 1) (0x30000 + 8 * k))) ∧
    (s.coreOk k = false → exec (.scPost p) s = .next (s.violate n 1 2 (0x30000 + 8 * k))) ∧
    (let k := 64 * n + w.w.toNat
     let f := w.ctrl.toNat % 1024
     let t := w.ctrl.toNat / 1024 % 2
     let arms := w.ctrl.toNat / 2048 % 2 = 1
     let free := inRange (s.ptRange n 12) f = true ∧ t < s.variant.tiles
     let y : Watch := ⟨f, t, decide arms, w.ctrl.toNat / 4096 % 16, (Tab.get {} s.host.watch k).value⟩
     (arms → ¬free → exec (.fenceWatchArm w) s = .next (s.violate n 2 (if s.variant.tiles ≤ t then 2
       else if (s.fenceOwner f).isSome then 0 else 1) (0x3000 + 16 * w.w.toNat))) ∧
     (¬arms ∨ free → exec (.fenceWatchArm w) s =
       .next ({ s with host := { s.host with watch := Tab.put {} s.host.watch k y } }.fireWatches t f))) ∧
    (let k := 16 * n + h.m.toNat
     let v := h.ctrl.toNat
     let q : Hcq := { Tab.get {} s.host.hcq k with
       vector := v % 2048, irqEn := v / 2048 % 2 == 1, en := v / 4096 % 2 == 1, holdoff := v / 2 ^ 16 % 256 }
     let q := if v / 4096 % 2 = 1 then { q with tail := 0, phase := true } else q
     exec (.hcqEnable h) s = .next { s with host := { s.host with hcq := Tab.put {} s.host.hcq k q } })) ∧
  (∀ (s : State),
    (∀ o : VectorOp, let k := 2048 * o.part.toNat + o.vec.toNat
      let v := Tab.get {} s.host.msix k
      s.ptEnabled o.part.toNat = true → Tab.wf {} s.host.msix = true → ∃ t : State, exec (.msixUnmask o) s = .next t ∧
        Tab.get {} t.host.msix k =
          { v with masked := false, pending := false, waits := if v.pending = true then [] else v.waits } ∧
        t.out = s.out ++ (if v.pending = true then
          [.msix o.part.toNat o.vec.toNat v.addr.toNat v.data.toNat] else []) ∧
        (v.pending = true → Tab.wf {} s.host.hold = true → ∀ e ∈ v.waits, e.2 ≠ 0 →
          (Tab.get {} t.host.hold e.1).running = true ∧ (Tab.get {} t.host.hold e.1).raised = false)) ∧
    (∀ o : HoldoffOp, let h := Tab.get {} s.host.hold o.source
      let ended := { s with host := { s.host with hold := Tab.put {} s.host.hold o.source {} } }
      (h.running = false → exec (.msixHoldoffExpire o) s = .next s) ∧
      (h.running = true → h.raised = false → exec (.msixHoldoffExpire o) s = .next ended) ∧
      (∀ n vec hold on, h.running = true → h.raised = true → s.intSource o.source = some (n, vec, hold, on) →
        exec (.msixHoldoffExpire o) s = .next (if on = true then ended.raiseVector o.source n vec hold else ended)) ∧
      (h.running = true → s.intSource o.source = none → exec (.msixHoldoffExpire o) s = .next ended) ∧
      (∀ n vec hold, h.running = true → h.raised = true → s.intSource o.source = some (n, vec, hold, true) →
        let k := 2048 * n + vec % 2048
        let v := Tab.get {} s.host.msix k
        v.masked = false → Tab.wf {} s.host.hold = true → ∃ t : State, exec (.msixHoldoffExpire o) s = .next t ∧
          t.out = s.out ++ [.msix n (vec % 2048) v.addr.toNat v.data.toNat] ∧
          Tab.get {} t.host.hold o.source = (if hold = 0 then {} else { running := true }) ∧
          ∀ j, j ≠ o.source → let other := Tab.get {} s.host.hold j
            Tab.get {} t.host.hold j =
              if other.raised = true ∧ other.vec = k then { other with raised := false, vec := 0 } else other)) ∧
    (∀ o : MbxOp, let m := o.who.toNat
      let x := Tab.get {} s.host.mbx m
      let again := s.setMbx m { x with overrun := true }
      let go := s.setMbx m { x with busy := true }
      (s.mbxLive m = false → exec (.mbxGo o) s = .next s) ∧
      (s.mbxLive m = true → x.busy = true → exec (.mbxGo o) s = .next (if m < 4 then again.count cPtMbxBusy m 1 else again)) ∧
      (s.mbxLive m = true → x.busy = false →
        (s.mcBusy = false → exec (.mbxGo o) s = .next (go.mbxTake m)) ∧
        (s.mcBusy = true → exec (.mbxGo o) s =
          .next { go with dap := { s.dap with queue := s.dap.queue ++ [.mbx m] } }))))

/-- The T1 aperture (R206, R425): a host's read answers the bytes of its partition's T1, poisoned ones as an error with zeros,
waits while a repair of its granules runs, and beyond the partition's size is a violation with zeros; a write stores its bytes
there and nowhere else, one beyond is a violation and stores nothing. A request that is none of PCIe's does nothing; in a
partition not enabled a write does nothing and a read gives zeros (R422).

An endpoint's reset clears its link, or its Bus Master Enable, and is reported to its partition, whose queues in host memory are
freed, every other queue staying as it was, whose completion queues are disabled and whose MSI-X vectors are masked (R436);
the fundamental reset of a port is one of each of its endpoints, whose links stay down while it lasts (R435, R514); an
endpoint's return, at a rate and width that it has, is reported when the partition's host comes up, and one that clears Bus
Master Enable on a link that is up is a reset (R416, R435, R436). A read of host memory without completion is counted; after
one of its tail word or of a descriptor the queue holds no buffers until a read returns (R437). The commit of PT_ENABLE = 1
makes the partition ENABLED and changes nothing else (R420); that of 0 leaves it CLEARING, with its indirection table at
0xFFFF, its fence watches off, and zeros in its scratch, T1 and T2 ranges and the local memory of its cores; once its channels
have completed what that aborted it is DISABLED (R421).

No effect of a request above 4,096 bytes or across a 4 KiB boundary (log entry 56), the read that waits (log entry 164), the
link that comes up at a rate or width that is not listed (log entry 176), and the read of a transmit buffer that is only
counted (log entry 181) are the model's choices. -/
def Obligations.HostMemory : Prop :=
  (∀ (s : State) (o : Bar4ReadOp) (w : Bar4WriteOp),
    let n := o.part.toNat
    let r := s.ptT1 n
    let a := r.1 + o.off
    let legal := fun off len : Nat => 0 < len ∧ off % 4096 + len ≤ 4096
    let y := s.noteEcc 1 o.ecc false
    w.part = o.part →
    (¬legal o.off o.len → exec (.bar4Read o) s = .next s) ∧
    (¬legal w.off w.bytes.length ∨ s.ptEnabled n = false → exec (.bar4Write w) s = .next s) ∧
    (legal o.off o.len → s.ptEnabled n = false →
      exec (.bar4Read o) s = .next (s.emit (.hostRead n o.off (List.replicate o.len 0#8) false))) ∧
    (legal o.off o.len → s.ptEnabled n = true →
      (o.off + o.len ≤ r.2 → y.mustWait 1 a o.len = true → exec (.bar4Read o) s =
        .next ({ y with host := { y.host with reads := y.host.reads ++ [(n, o.off, o.len)] } }.noteWait 1 a o.len)) ∧
      (o.off + o.len ≤ r.2 → y.mustWait 1 a o.len = false → exec (.bar4Read o) s =
        .next (if y.poisoned 1 a o.len = true
          then (y.count cHostPoisonRead 0 1).emit (.hostRead n o.off (List.replicate o.len 0#8) true)
          else y.emit (.hostRead n o.off (y.memRead 1 a o.len) false))) ∧
      (r.2 < o.off + o.len → exec (.bar4Read o) s = .next ((s.violate n 3 (s.rangeReason n 1 a o.len) o.off).emit
        (.hostRead n o.off (List.replicate o.len 0#8) false)))) ∧
    (legal w.off w.bytes.length → s.ptEnabled n = true →
      (w.off + w.bytes.length ≤ r.2 → exec (.bar4Write w) s = .next (s.memWrite 1 (r.1 + w.off) w.bytes)) ∧
      (w.off + w.bytes.length ≤ r.2 → s.memOk = true → s.mem.poison = [] →
        let t := s.memWrite 1 (r.1 + w.off) w.bytes
        (∀ i, i < w.bytes.length → t.t1.read (r.1 + w.off + i) = w.bytes.getD i 0#8) ∧
        (∀ a, (a < r.1 + w.off ∨ r.1 + w.off + w.bytes.length ≤ a) → t.t1.read a = s.t1.read a) ∧
        t.t0 = s.t0 ∧ t.t2 = s.t2 ∧ t.lmem = s.lmem ∧ t.cores = s.cores) ∧
      (r.2 < w.off + w.bytes.length → exec (.bar4Write w) s =
        .next (s.violate n 3 (s.rangeReason n 1 (r.1 + w.off) w.bytes.length) w.off)))) ∧
  (∀ (s : State),
    let resets := fun (t : State) (hit : Nat → Prop) => Tab.wf none s.net.queues = true →
      (∀ q x, s.ethQ q = some x → x.host = true → hit x.part → t.ethQ q = none) ∧
      (∀ q, (∀ x, s.ethQ q = some x → ¬(x.host = true ∧ hit x.part)) → t.ethQ q = s.ethQ q) ∧
      (∀ k, hit (k / 16) → (Tab.get {} t.host.hcq k).en = false) ∧ (∀ k, hit (k / 2048) → (Tab.get {} t.host.msix k).masked = true)
    (∀ (ep : BitVec 3) (lost : Bool), let e := ep.toNat
      (s.endpointOk e = false → exec (.hostReset (.endpoint ep lost)) s = .next s) ∧
      (s.endpointOk e = true → Tab.wf {} s.host.endpts = true → ∃ t : State,
        exec (.hostReset (.endpoint ep lost)) s = .next t ∧ t.cores = s.cores ∧ t.dict = s.dict ∧ t.host.perst = s.host.perst ∧
        Tab.get {} t.host.endpts e = (if lost then {} else { Tab.get {} s.host.endpts e with bme := false }) ∧
        (∀ p, s.boundPart e = some p → t.events.getLast? = some ⟨0x3001, p, s.now, e, 0⟩) ∧
        resets t (fun p => s.boundPart e = some p) ∧
        (s.boundPart e = none → t.events = s.events ∧ t.net = s.net))) ∧
    (∀ port : BitVec 1, let n := port.toNat
      let on := s.host.perst / 2 ^ n % 2 = 1
      let reset := exec (.hostReset (.perst port true)) s
      let release := exec (.hostReset (.perst port false)) s
      (on → reset = .next s ∧ release = .next { s with host := { s.host with perst := s.host.perst - 2 ^ n } }) ∧
      (¬on → release = .next s) ∧
      (¬on → Tab.wf {} s.host.endpts = true → ∃ t : State, reset = .next t ∧ t.cores = s.cores ∧ t.dict = s.dict ∧
        t.host.perst = s.host.perst + 2 ^ n ∧ (∀ e : Nat, let own := 1 ≤ e ∧ e ≤ 4 ∧ (e - 1) / 2 = n ∧ s.endpointOk e = true
          Tab.get {} t.host.endpts e = (if own then {} else Tab.get {} s.host.endpts e)) ∧
        resets t (fun p => ∃ e, 1 ≤ e ∧ e ≤ 4 ∧ (e - 1) / 2 = n ∧ s.endpointOk e = true ∧ s.boundPart e = some p))) ∧
    (∀ o : HostLinkOp, let e := o.ep.toNat
      let x := Tab.get {} s.host.endpts e
      let y : Endpoint := ⟨true, o.bme, o.rate.toNat, o.width.toNat⟩
      let z := if x.up = true ∧ x.bme = true ∧ o.bme = false then s.hostReset e false else s
      let up := { z with host := { z.host with endpts := Tab.put {} z.host.endpts e y } }
      let held := s.host.perst / 2 ^ ((e - 1) / 2) % 2 = 1
      let trains := s.endpointOk e = true ∧ ¬held ∧ s.linkFits e o.rate.toNat o.width.toNat = true
      let rises := o.bme = true ∧ ¬(x.up = true ∧ x.bme = true)
      (¬trains → exec (.hostLinkUp o) s = .next s) ∧
      (trains → s.boundPart e = none → exec (.hostLinkUp o) s = .next up) ∧
      (∀ p, trains → s.boundPart e = some p →
        exec (.hostLinkUp o) s = .next (if rises then up.raise 0x3002 p e 0 else up))) ∧
    (∀ o : CplOp, s.ethQ o.queue = none → exec (.hostCplTimeout o) s = .next s) ∧
    (∀ (o : CplOp) (x : EthQ), s.ethQ o.queue = some x →
      let y := s.count cHostCplTimeout x.part 1
      let z := y.setQ o.queue (some { x with flight := none, again := false, lost := true })
      let counts := x.host = true ∧ (if o.buffer = true then 4096 ≤ o.queue else x.flight.isSome = true)
      (¬counts → exec (.hostCplTimeout o) s = .next s) ∧
      (counts → o.buffer = true → exec (.hostCplTimeout o) s = .next y) ∧
      (counts → o.buffer = false → exec (.hostCplTimeout o) s =
        .next ((if x.again = true then z.tailRead o.queue else z.readNext x.part).rxDrain (x.work.length + 1) o.queue))) ∧
    (∀ o : PartOp, let n := o.part.toNat
      let zones := Tab.get [] s.host.zones n
      let busy := ∃ ch, Zone.chan ch ∈ zones ∧ (s.chan ch).mode ≠ .idle
      let t := zones.foldl State.zeroZone s
      (s.ptState n ≠ .clearing ∨ busy → exec (.ptClearComplete o) s = .next s) ∧
      (s.ptState n = .clearing → ¬busy → exec (.ptClearComplete o) s = .next
        ({ t with host := { t.host with pt := Tab.put .disabled t.host.pt n .disabled,
                                        zones := Tab.put [] t.host.zones n [] } }.raise 0x3003 n 0 0)))) ∧
  (∀ (s : State) (n req : Nat) (part : Option Nat), n < 4 → Tab.wf none s.dict = true → Tab.wf .disabled s.host.pt = true →
    let on := s.applyItems [(ptKey n 1, [1#8])] req part
    let off := s.applyItems [(ptKey n 1, [0#8])] req part
    (s.running = true → s.dnum (ptKey n 1) = 0 → on = { s with
      dict := Tab.put none s.dict (ptKey n 1) (some [1#8]),
      host := { s.host with pt := Tab.put .disabled s.host.pt n .enabled } }) ∧
    (s.ptEnabled n = true → Tab.wf [] s.host.zones = true → s.memOk = true →
      off.ptState n = .clearing ∧ off.dnum (ptKey n 1) = 0 ∧ Tab.get [] off.host.zones n = s.ptZones n ∧
      off.dget (dkey 0x4700 (n + 1)) = List.replicate 1024 255#8 ∧
      (∀ k, k / 64 = n → (Tab.get {} off.host.watch k).en = false) ∧
      (∀ tier a len x, Zone.bytes tier a len ∈ s.ptZones n → a ≤ x → x < a + len →
        (if tier = 0 then off.t0 else if tier = 1 then off.t1 else off.t2).read x = 0#8) ∧
      (∀ k x, Zone.core k ∈ s.ptZones n → k * 2 ^ 18 ≤ x → x < (k + 1) * 2 ^ 18 → off.lmem.read x = 0#8)))

/-- A DAP datagram for the MC is taken at once when it is free, waits behind a commit whose checks run, or past 32 of them is
discarded and counted (R446, R456), as is one in-band while DAP is off there (R452). Each row is the datagram of its OP; OP 0
and those above 6 are not listed (R458). One of another OP than its row, or in-band and handed over by no pipe (R344), changes
nothing; one that is no DAP message, or finds no MC that serves, is dropped.

A datagram of wrong form is counted and not answered (R453); so is one with an unknown KEY_ID or a wrong TAG, reported at most
once per 1,024 ticks; a SEQ at or below the mark runs nothing and is answered with the mark, a repeat of the last message with
the last answer; any other moves the mark, runs, and its answer is sent and kept, also where its port is down (R454).

READ gives the entry's value with its type (R443), a counter group's at the next tick edge (R459); a WRITE that the role
forbids is denied and writes nothing (R450), and counts a violation of its mailbox's partition, or of the one it names (R418,
R433); an unlisted OP is ST_BAD_OPCODE, an unlisted entry ST_NO_SUCH_ENTRY (R458); ABORT empties the stage set (R447).

An accepted WRITE applies its value at once, a failing one nothing (R443); an accepted STAGE adds it to the requester's set
alone (R444); COMMIT empties the set, and applies it at one edge, with an event, or where a check fails applies nothing and
names the entry (R445, R448); a staged BANK_COMMIT leaves the answer to the end of the bank's checks (R407). Applied, each
entry that keeps a value holds its new one, in the bank not in force where it is held by bank, and no other entry changes,
unless SCHED_ENABLE or PT_ENABLE is applied, or the ports in use change (R440, R526).

The order of cross checks, a commit of nothing, the partition that a denied WRITE counts for, the fields of a reply without a
value, and how a pipe hands a request over are the model's readings (log entries 68, 72, 77, 149, 172). -/
def Obligations.DapRequests : Prop :=
  (∀ (s : State) (o : DapOp) (i : Instr) (op : Nat),
    (i, op) ∈ [(Instr.dapRead o, 1), (.dapWrite o, 2), (.dapStage o, 3), (.dapCommit o, 4), (.dapAbort o, 5),
      (.dapSubscribe o, 6), (.dapUnlistedOp o, 7)] →
    let came := o.port = 192 ∨ (o.port, o.tc.toNat, o.bytes) ∈ s.net.toMc
    let x := { s with net := { s.net with toMc := s.net.toMc.erase (o.port, o.tc.toNat, o.bytes) } }
    (¬came → exec i s = .next s) ∧
    (came → s.dapMessage o.port o.bytes = none → exec i s = .next x) ∧
    (∀ (p : Parsed) (m : List Byte), came → s.dapMessage o.port o.bytes = some (p, m) →
      let is := if 1 ≤ beAt m 1 1 ∧ beAt m 1 1 ≤ 6 then beAt m 1 1 else 7
      let serves := 6 ≤ s.boot.state ∧ s.boot.state ≤ 9
      let on := o.port = 192 ∨ s.dnum 0xA00002 = 1
      (is ≠ op → exec i s = .next s) ∧
      (is = op → ¬serves → exec i s = .next x) ∧
      (is = op → serves → ¬on → exec i s = .next (x.count cDapInbandOff 0 1)) ∧
      (is = op → serves → on →
        (s.mcBusy = false → exec i s = .next (x.dapTake o.port o.tc.toNat o.bytes)) ∧
        (s.mcBusy = true →
          let held := (s.dap.queue.filter (·.isMsg)).length + (if s.dap.busy.any (fun c => c.work.any (·.isMsg)) then 1 else 0) +
            (if s.dap.sample.any (·.isMsg) then 1 else 0)
          (32 ≤ held → exec i s = .next (x.count cDapQueueFull 0 1)) ∧
          (held < 32 → exec i s = .next { x with dap := { s.dap with
            queue := s.dap.queue ++ [.msg o.port o.tc.toNat o.bytes] } }))))) ∧
  (∀ (s : State) (port tc : Nat) (frame m : List Byte) (p : Parsed),
    let len := beAt m 20 2
    let key := beAt m 4 2
    let formed := 48 ≤ m.length ∧ len ≤ 1024 ∧ m.length = 48 + len ∧ beAt m 0 1 = 1
    let signed := fun n : Nat => (hmacSha256 (s.credKey n) (m.take (32 + len))).take 16 = m.drop (32 + len)
    s.dapHeld frame = some (p, m) → Tab.wf 0 s.ctr = true →
    (¬formed → s.dapTake port tc frame = s.count cDapBadMsg 0 1) ∧
    (formed → (s.credSlot key = none ∨ ∃ n, s.credSlot key = some n ∧ ¬signed n) →
      let last := Tab.get 0 s.evLast (0xA001 * 65536)
      let reports := last = 0 ∨ last + 1024 ≤ s.clk.edges + 1
      let t := s.dapTake port tc frame
      t.dict = s.dict ∧ t.out = s.out ∧ t.net = s.net ∧
        t.counter cDapAuthFail 0 = (s.counter cDapAuthFail 0 + 1) % 2 ^ 64 ∧
        t.events = s.events ++ (if reports then [⟨0xA001, 0xFF, s.now, key, t.counter cDapAuthFail 0⟩] else []) ∧
        (reports → Tab.wf 0 s.evLast = true → Tab.get 0 t.evLast (0xA001 * 65536) = s.clk.edges + 1) ∧
        (¬reports → t.evLast = s.evLast)) ∧
    (∀ n, formed → s.credSlot key = some n → signed n →
      let w := s.whoDap port key
      let seq := beAt m 8 8
      let mark := Tab.get (0, 0) s.dap.marks n
      let prev := Tab.get none s.dap.prev n
      let x := (s.count cDapRx 0 1).setOwn w { s.own w with last := s.now }
      let repeated := fun a => seq = mark.1 ∧ prev = some (m, a)
      let stale := dapMsg (s.credKey n) (beAt m 1 1) (1 + 2 * (beAt m 2 1 / 2 % 2) + 4) 5 key stStaleSeq seq (beAt m 16 2) (beAt m 18 1)
        0 8 (leBytes 8 mark.1)
      let y := { x with dap := { x.dap with
        marks := Tab.put (0, 0) x.dap.marks n (seq, if mark.2 ≤ seq + 2 ^ 16 then seq + 2 ^ 20 else mark.2) } }
      let r := if beAt m 1 1 = 6 then y.subscribe w (reqOf m) port tc frame p else y.serve w (reqOf m) 1024 (.msg port tc frame)
      let answer := answerMsg (s.credKey n) m r
      let kept := { r.st with dap := { r.st.dap with prev := Tab.put none r.st.dap.prev n (some (m, answer)) } }
      (∀ a, repeated a → s.dapTake port tc frame = (x.count cDapRetx 0 1).mcSend port tc (x.answerFrame frame p a)) ∧
      (seq ≤ mark.1 → (∀ a, ¬repeated a) →
        s.dapTake port tc frame = (x.count cDapStaleSeq 0 1).mcSend port tc (x.answerFrame frame p stale)) ∧
      (mark.1 < seq → r.wait = true → s.dapTake port tc frame = r.st) ∧
      (mark.1 < seq → r.wait = false → s.dapTake port tc frame = kept.mcSend port tc (kept.answerFrame frame p answer)))) ∧
  (∀ (s : State) (w : Who) (q : Req) (most : Nat) (work : DapWork) (r : EntryRow),
    let reply := fun (t : State) (st : Nat) => (⟨t, st, q.dtype, q.last, q.offset, q.total, [], false⟩ : Reply)
    let whole := q.offset = 0 ∧ q.total = q.value.length ∧ q.last = true ∧ r.lenOk q.value.length = true
    let fresh := s.setOwn w { s.own w with snap := none }
    let own := s.setOwn w { s.own w with block := none }
    (entryInfo q.key = some r → q.op = 1 → q.value = [] → q.offset = 0 → q.staged = false →
      (s.sampled w q = true → s.serve w q most work =
        { st := { s with dap := { s.dap with sample := some work } }, status := 0, wait := true }) ∧
      (s.sampled w q = false → (s.serve w q most work).status = 0 ∧ (s.serve w q most work).dtype = r.ty ∧
        (s.serve w q most work).value = (fresh.readWhole w r q.key).2.take most)) ∧
    (entryInfo q.key = some r → (q.op = 2 ∨ q.op = 3) → s.mayWrite w q.key = false →
      (s.serve w q most work).status = 3 ∧
      (∀ n, w.viol = some n → (s.serve w q most work).st =
        s.violate n 4 (if ∃ k, partOf q.key = some k ∧ k ≠ n then 0 else 3) q.key) ∧
      (w.viol = none → ptResource q.key = false → (s.serve w q most work).st = s) ∧
      (∀ n, w.viol = none → ptResource q.key = true → (w.part = some n ∨ w.part = none ∧ partOf q.key = some n) →
        (s.serve w q most work).st = s.violate n 4 (if ∃ k, partOf q.key = some k ∧ k ≠ n then 0 else 3) q.key)) ∧
    (entryInfo q.key = some r → q.op = 2 → s.mayWrite w q.key = true → (s.boot.state = 9 → faultWrite q.key = true) →
      s.entryAbsent q.key = false → (r.acc = 3 ∨ r.acc = 6) → q.dtype = r.ty → whole →
      q.key ≠ 0x200002 → q.key ≠ 0x200006 → q.key ≠ 0x200007 →
      let st := own.ownCheck own q.key r q.value false
      s.serve w q most work = reply (if st = 0 then own.applyItems [(q.key, q.value)] w.req w.part else own) st) ∧
    (entryInfo q.key = some r → q.op = 3 → s.mayWrite w q.key = true → s.boot.state ≠ 9 → lacks s.variant q.key = false →
      3 ≤ r.acc → r.acc ≤ 6 → q.dtype = r.ty → whole → q.key ≠ 0x200006 → q.key ≠ 0x200007 →
      let items : Tab (Option (List Byte)) := Tab.put none (own.own w).items q.key (some q.value)
      let bytes : Nat := (items.map (fun e => (e.2.getD []).length)).foldl (· + ·) 0
      let fits := items.length ≤ 1024 ∧ bytes ≤ 1048576
      s.serve w q most work = reply (if fits then own.setOwn w { own.own w with items := items } else own)
        (if fits then 0 else stStageLimit)) ∧
    (q.op = 4 → q.value = [] →
      let items := (s.own w).items.map (fun e => (e.1, e.2.getD []))
      let x := s.setOwn w { s.own w with items := [] }
      let live := x.liveItems items
      let c := x.commitCheck items
      let t := x.applyItems live w.req w.part
      (s.boot.state = 9 → items = []) →
      (c.2 ≠ 0 → (s.serve w q most work).status = c.2 ∧ (s.serve w q most work).st.dict = s.dict ∧
        (s.serve w q most work).value = report c.1 0 0 ∧ (c.2 ≠ stStartLate → (s.serve w q most work).st = x)) ∧
      (c.2 = 0 → itemOn live 0x520001 = false → s.serve w q most work =
        { st := t.raise 0xA002 w.evPt (w.path + 65536 * w.id) live.length, status := 0, dtype := 11, total := 16,
          value := report 0 live.length t.now }) ∧
      (c.2 = 0 → itemOn live 0x520001 = true → s.bank.mode = 0 → s.treeDma = false → s.serve w q most work =
        { st := { x with bank := { x.bank with mode := 1 }, dap := { x.dap with busy := some ⟨some work, items⟩ } },
          status := 0, wait := true })) ∧
    (entryInfo q.key = none → 1 ≤ q.op → q.op ≤ 3 →
      s.serve w q most work = reply (if q.op = 1 then fresh else s) 0x02) ∧
    ((q.op = 0 ∨ 5 < q.op) → s.serve w q most work = { st := s, status := 0x01 }) ∧
    (q.op = 5 → q.value = [] → s.serve w q most work =
      { st := s.setOwn w { s.own w with items := [], block := none }, status := 0 })) ∧
  (∀ (s : State) (items : List (Nat × List Byte)) (req : Nat) (part : Option Nat),
    let t := s.applyItems items req part
    (items.map (·.1)).Nodup → Tab.wf none s.dict = true → (∀ p, (s.putItems items).portBt p = s.portBt p) →
    (∀ e ∈ items, e.1 < 2 ^ 24 ∧ actsOnly e.1 = false ∧ e.1 ≠ 0x600008 ∧ ∀ n, n < 4 → e.1 ≠ ptKey n 1) →
    (∀ e ∈ items, t.dget (s.bankKey e.1) = s.storedValue e.1 e.2) ∧
      ∀ k, (∀ e ∈ items, s.bankKey e.1 ≠ k) → t.dget k = s.dget k)

/-- A stage set that has been idle is emptied and counted (R447); a subscription that lapses is removed; its waiting events
leave in one message, numbered, with the count of those dropped (R455); the telemetry record of every 1,024th tick is held and
counted (R496). STATS_CLEAR of a group, or of all, by the OWNER leaves its counters zero, by a partition those of its own
instances (R460). With nothing to empty, to send, to record or to clear, nothing changes.

MG answers an ARP request for its IPv4 address and a neighbour solicitation for its link-local address with one frame from its
own MAC address, and no other (R452).

That the first two rows act whenever there is a set or a subscription (log entry 122), the states in which a record is formed
(log entry 86), and that a frame must pass MG's address filter first (log entry 121) are the model's choices. -/
def Obligations.McServices : Prop :=
  (∀ (s : State),
    (∀ o : KeyOp, let k := o.keyId.toNat
      let r := Tab.get {} s.dap.reqs k
      (r.items = [] → r.block = none → exec (.stageIdleExpire o) s = .next s) ∧
      ((r.items ≠ [] ∨ r.block.isSome = true) → exec (.stageIdleExpire o) s = .next ({ s with dap := { s.dap with
        reqs := Tab.put {} s.dap.reqs k { r with items := [], block := none } } }.count cDapStageExpired 0 1))) ∧
    (∀ o : SubOp, exec (.subscriptionLapse o) s =
      .next { s with dap := { s.dap with subs := s.dap.subs.eraseIdx o.place } }) ∧
    (∀ o : SubOp, s.dap.subs[o.place]? = none → exec (.eventSend o) s = .next s) ∧
    (∀ (o : SubOp) (b : Subscr), s.dap.subs[o.place]? = some b →
      let sent := { b with seq := b.seq + 1, waiting := [], dropped := 0 }
      let value := leBytes 4 b.dropped ++ leBytes 2 b.waiting.length ++ [0#8, 0#8] ++ b.waiting.flatMap eventRecord
      (b.waiting = [] → b.dropped = 0 → exec (.eventSend o) s = .next s) ∧
      ((b.waiting ≠ [] ∨ b.dropped ≠ 0) → s.credSlot b.keyId = none → exec (.eventSend o) s = .next s) ∧
      (∀ n, (b.waiting ≠ [] ∨ b.dropped ≠ 0) → s.credSlot b.keyId = some n →
        let m := dapMsg (s.credKey n) 0x10 5 11 b.keyId 0 sent.seq 0 0 0 value.length value
        let x := { s with dap := { s.dap with subs := s.dap.subs.set o.place sent } }
        exec (.eventSend o) s = .next (x.mcSend b.port b.tc (x.answerFrame b.frame
          (parseGo (s.mcCfg b.frame) 96 {} .eth) m)))) ∧
    (∀ o : TelemetryOp, (s.now % 1024 ≠ 0 ∨ s.boot.state < 4 ∨ 9 < s.boot.state → exec (.telemetryRecord o) s = .next s) ∧
      (s.now % 1024 = 0 → 4 ≤ s.boot.state → s.boot.state ≤ 9 → ∃ t : State, exec (.telemetryRecord o) s = .next t ∧
        t.dget 0x840001 = s.telRecord o ∧ t.sched = s.sched ∧ t.cores = s.cores)) ∧
    (∀ o : StatsOp,
      let n := o.value.toNat
      let clears := 6 ≤ s.boot.state ∧ s.boot.state < 9 ∧ (n = 0 ∨ n < 65536 ∧ ∃ g ∈ ctrGroups, g.1 = n)
      (¬clears → exec (.statsClear o) s = .next s) ∧
      (clears → ∃ t : State, exec (.statsClear o) s = .next t ∧ t = { s with ctr := t.ctr } ∧
        (n = 0 → o.part = none → t.ctr = []) ∧
        (o.part = none → n ≠ 0 → t.ctr = s.ctr.filter (fun e => e.1 / 65536 / 256 != n)) ∧
        ∀ p : Nat, o.part.map (·.toNat) = some p →
          let own := fun k : Nat => ∃ c, (ctrGroupOf (k / 65536 / 256)).find? (fun c => c.1.id == k / 65536) = some c ∧
            let kind := (c.1.kinds.headD (1, 1)).1
            let i := k % 65536
            kind = 2 ∧ i = p ∨ kind = 5 ∧ s.queueIn p i = true ∨ kind = 6 ∧ s.meOwner i = some p ∨
              kind = 7 ∧ s.coreOwner i = some p ∨ kind = 8 ∧ s.chanOwner i = some p ∨ kind = 9 ∧ s.euOwner i = some p
          ∀ e, e ∈ t.ctr ↔ e ∈ s.ctr ∧ ¬((n = 0 ∨ e.1 / 65536 / 256 = n) ∧ own e.1)))) ∧
  (∀ (s : State) (o : DapOp),
    let f := o.bytes.take (o.bytes.length - 4)
    let mac := s.portMac 192
    let ip := beBytes 4 (s.dnum 0xA00006)
    let sent := fun (i : Instr) (ok : List Byte → Prop) => ∃ b : List Byte, ok b ∧
      exec i s = .next (s.egressPut 192 0 (s.clk.edges * 102400) ⟨0, none, none, b, false, false, s.clk.edges * 102400⟩)
    let mine := 6 ≤ s.boot.state ∧ s.boot.state ≤ 9 ∧ o.port = 192 ∧ s.portUp 192 = true ∧ s.addrPasses 192 o.bytes = true
    let asks := s.dnum 0xA00006 ≠ 0 ∧ beAt f 12 10 = 0x08060001080006040001 ∧ (f.drop 38).take 4 = ip
    let solicits := beAt f 12 2 = 0x86DD ∧ beAt f 20 2 = 0x3AFF ∧ beAt f 54 2 = 0x8700 ∧ 78 ≤ f.length ∧
      (f.drop 62).take 16 = s.linkLocal
    let src := (f.drop 22).take 16
    (¬(mine ∧ asks) → exec (.arpRequest o) s = .next s) ∧
    (¬(mine ∧ solicits) → exec (.neighborSolicitation o) s = .next s) ∧
    (mine → asks → 42 ≤ f.length →
      sent (.arpRequest o) (fun b => b.take 6 = (f.drop 22).take 6 ∧ (b.drop 6).take 6 = mac ∧
        beAt b 12 10 = 0x08060001080006040002 ∧ (b.drop 22).take 6 = mac ∧ (b.drop 28).take 4 = ip ∧
        (b.drop 32).take 10 = (f.drop 22).take 10)) ∧
    (mine → solicits →
      sent (.neighborSolicitation o) (fun b => (b.drop 6).take 6 = mac ∧ beAt b 54 2 = 0x8800 ∧
        (b.drop 62).take 16 = s.linkLocal ∧
        (src ≠ List.replicate 16 0#8 → b.take 6 = (f.drop 6).take 6 ∧ (b.drop 38).take 16 = src) ∧
        (src = List.replicate 16 0#8 → beAt b 0 6 = 0x333300000001 ∧
          (b.drop 38).take 16 = [0xFF#8, 0x02#8] ++ List.replicate 13 0#8 ++ [1#8]))))

/-- Steps 1 to 3 of a startup from OFF, and what keeps it from going on: the preferred firmware slot runs, the other where
that one does not verify, and where neither does, and then alone, the module is in RECOVERY; a seed that is not rebuilt FAULT
with reason PUF, a record that is not signed, or not for this device and variant, FAULT with reason RECORD, else BRINGUP with
the record applied (R464, R468 to R470); DEVICE_ID is SHA-384 of the 97 bytes of the public key (R469). A failed HBM stack or
CXL device leaves FAULT; else the image decides (R471). Rails (R510): those of the MC leave OFF, any other FAULT with reason
RAIL or RECOVERY. The loss of the input (R505, R508). Each is nothing where the startup is not at its step.

Firmware (R468, R483): a block goes to its place in the slot that does not run, and the next block follows it; a slot that
verifies is preferred at the next startup, with an event, and one that does not changes nothing. In RECOVERY the blocks go to
slot 0, one of another form is refused, and a boot of a slot that does not verify is refused.

The signature check and the derivation of the identity are open functions (log entries 49, 182), the power state after a
failed rail is the model's reading (log entry 65), and that T1 and T2 read zero after the power was gone is the model's choice
(log entry 2). -/
def Obligations.StartupAndFirmware : Prop :=
  (∀ (s : State),
    (∀ o : StartOp, s.unstarted = false → exec (.powerGood o) s = .next s) ∧
    (∀ o : StartOp, s.unstarted = true → ∃ t : State, exec (.powerGood o) s = .next t ∧
      t = s.restart.startup o.puf ∧ t.cores = [] ∧ t.t0 = [] ∧ t.t1 = [] ∧ t.lmem = [] ∧ t.t2 = s.t2 ∧
      (let rec_ := s.boot.record
       let good := rec_.signed = true ∧ rec_.deviceId = t.ident.id ∧ rec_.variant = s.variant
       let derived := t.ident.id = sha384 t.ident.pub ∧ t.ident.pub.length = 97
       let slot := fun n : Nat => if n = 0 then s.boot.fw0 else s.boot.fw1
       let none_ := s.boot.fw0.verify = none ∧ s.boot.fw1.verify = none
       (t.boot.state = 10 ↔ none_) ∧
        (¬none_ → s.boot.fwPref ≤ 1 → t.boot.fwActive =
          if ((slot s.boot.fwPref).verify).isSome = true then s.boot.fwPref else 1 - s.boot.fwPref) ∧
        (¬none_ → o.puf = false → t.boot.state = 9 ∧ t.boot.fault = 9) ∧
        (¬none_ → o.puf = true → derived ∧ (¬good → t.boot.state = 9 ∧ t.boot.fault = 10) ∧
          (good → t.boot.state = 4 ∧ t.modrec = rec_)))) ∧
    (∀ o : BringupOp, s.boot.state ≠ 4 → exec (.bringupComplete o) s = .next s) ∧
    (∀ o : BringupOp, s.boot.state = 4 →
      (∀ k, o.hbm = some k → exec (.bringupComplete o) s =
        .next ((s.raise 0x7007 0xFF k.val 0).enterFault 11 0)) ∧
      (o.hbm = none → o.cxl = true → exec (.bringupComplete o) s = .next (s.enterFault 12 0)) ∧
      (o.hbm = none → o.cxl = false → exec (.bringupComplete o) s =
        .next { s with boot := { s.boot with state := 5 } }.configLoad) ∧
      (o.hbm = none → o.cxl = false → s.boot.slots = [] → ∃ t : State, exec (.bringupComplete o) s = .next t ∧
        t.boot.state = 6 ∧ t.events = s.events ++ [⟨0x2001, 0xFF, s.now, 1, 0⟩])) ∧
    (∀ o : RailOp,
      let m := o.monitor.toNat
      let b := s.restart.bootFirmware
      (s.unstarted = false ∨ m < 113 ∨ 143 < m → exec (.railTimeout o) s = .next s) ∧
      (s.unstarted = true → (m = 137 ∨ m = 138) → exec (.railTimeout o) s =
        .next { s with power := .off, boot := { s.boot with state := 0, railOff := true } }) ∧
      (s.unstarted = true → 113 ≤ m → m ≤ 143 → m ≠ 137 → m ≠ 138 → exec (.railTimeout o) s =
        .next (if b.boot.state = 10 then { b with boot := { b.boot with fault := 15, monitor := m } }
          else b.enterFault 15 m))) ∧
    (∃ t : State, exec .inputDisconnect s = .next t ∧ t.power = .off ∧ t.boot.state = 0 ∧ t.t0 = [] ∧ t.t1 = [] ∧
      t.t2 = [] ∧ t.cores = [] ∧ (s.boot.saving = none → t.boot.slots = s.boot.slots) ∧
      t.boot.fw0 = s.boot.fw0 ∧ t.boot.fw1 = s.boot.fw1)) ∧
  (∀ (s : State),
    let serves := 6 ≤ s.boot.state ∧ s.boot.state ≤ 9
    (∀ o : BytesOp, let n := s.dnum 0xA01004
      (¬serves ∨ o.bytes.length ≠ 65536 ∨ 512 ≤ n → exec (.fwBlock o) s = .next s) ∧
      (serves → o.bytes.length = 65536 → n < 512 → ∃ t : State,
        exec (.fwBlock o) s = .next t ∧ t.dnum 0xA01004 = n + 1 ∧ t.boot.fwPref = s.boot.fwActive ∧
        (if s.boot.fwActive = 0 then t.boot.fw0 = s.boot.fw0 ∧ t.boot.fw1.version = none ∧
            t.boot.fw1.bytes = s.boot.fw1.bytes.writeN (65536 * n) o.bytes
          else t.boot.fw1 = s.boot.fw1 ∧ t.boot.fw0.version = none ∧
            t.boot.fw0.bytes = s.boot.fw0.bytes.writeN (65536 * n) o.bytes))) ∧
    (¬serves ∨ s.fwOther.verify = none → exec .fwVerify s = .next s) ∧
    (∀ v, serves → s.fwOther.verify = some v → ∃ t : State, exec .fwVerify s = .next t ∧ t.boot.fwInact = v ∧
      t.boot.fwPref = 1 - s.boot.fwActive ∧ t.events = s.events ++ [⟨0xA011, 0xFF, s.now, 1 - s.boot.fwActive, v⟩]) ∧
    (∀ o : RecoveryOp, let off := leAt o.payload 0 4
      let f : FwSlot := ⟨s.boot.fw0.bytes.writeN off (o.payload.drop 4), none⟩
      let fits := o.payload.length = 32772 ∧ off % 32768 = 0 ∧ off < 2 ^ 25
      (s.boot.state ≠ 10 → exec (.recoveryFwBlock o) s = .next s) ∧
      (s.boot.state = 10 → fits → exec (.recoveryFwBlock o) s =
        .next ({ s with boot := { s.boot with fw0 := f } }.mbxRespond 5 0x0A01 0 o.tag.toNat [])) ∧
      (s.boot.state = 10 → ¬fits → exec (.recoveryFwBlock o) s =
        .next (s.mbxRespond 5 0x0A01 stBadValue o.tag.toNat []))) ∧
    (∀ o : RecoveryBootOp,
      (s.boot.state ≠ 10 → exec (.recoveryFwBoot o) s = .next s) ∧
      (s.boot.state = 10 → s.boot.fw0.verify = none →
        exec (.recoveryFwBoot o) s = .next (s.mbxRespond 5 0x0A02 stBadValue o.tag.toNat [])) ∧
      (∀ v, s.boot.state = 10 → s.boot.fw0.verify = some v → exec (.recoveryFwBoot o) s = .next ({ s with boot :=
        { s.boot with fw0 := { s.boot.fw0 with version := some v } } }.restart.startup o.puf))))

/-- Configuration and reset (R476 to R482): a save ends with the image in its slot and an event, or a failure with an event,
and the save asked for meanwhile begins; the owner's OUTPUT_HOLD and CONFIG_SAVE are commits of one entry; an image that fails
its checks is not applied and CONFIG_STATUS names its reason; a save erases its slot first; DEVICE_RESET takes 0x9640 only,
once REFCLK has run for 10 ms and the PWR_FAULT_N that tripped the module is no longer masked, and the reset begins once no
save runs, after a trip only when the module has cooled down, which counts it (R482, R493, R512, R516). Outside the states
that admit them nothing changes.

The slot and number of a save after no slot was loaded (log entry 60), that trip_resets counts after the counters were cleared
(log entry 66), and the tick edges that make 10 ms (log entry 183) are the model's readings. -/
def Obligations.Configuration : Prop :=
  ∀ (s : State),
    let serves := 6 ≤ s.boot.state ∧ s.boot.state < 9
    (∀ o : OutcomeOp, s.boot.saving = none → exec (.configSaveComplete o) s = .next s) ∧
    (∀ (o : OutcomeOp) (x : Saving), s.boot.saving = some x →
      let put := fun b : List Byte => Tab.put [] s.boot.slots x.slot b
      let kept := { s.boot with saving := none, slots := put x.image, last := some x.slot }
      let lost := { s.boot with saving := none, slots := put (Config.failedSave x.seq) }
      let y := if o.flag = true
        then ({ s with boot := kept }.dputNum 0x200004 4 x.seq).raise 0x2004 0xFF x.seq x.slot
        else { s with boot := lost }.raise 0x2005 0xFF x.seq x.slot
      exec (.configSaveComplete o) s =
        .next (if s.boot.again = true then { y with boot := { y.boot with again := false } }.startSave else y)) ∧
    (∀ o : FlagOp,
      let v := if o.value then [1#8] else [0#8]
      (serves → (s.commitCheck [(0x200002, v)]).2 = 0 → exec (.outputHold o) s =
        .next (s.applyItems (s.liveItems [(0x200002, v)]) 0 none)) ∧
      (¬serves ∨ (s.commitCheck [(0x200002, v)]).2 ≠ 0 → exec (.outputHold o) s = .next s)) ∧
    (serves → (s.commitCheck [(0x200003, [1#8])]).2 = 0 →
      exec .configSave s = .next (s.applyItems (s.liveItems [(0x200003, [1#8])]) 0 none)) ∧
    (¬serves ∨ (s.commitCheck [(0x200003, [1#8])]).2 ≠ 0 → exec .configSave s = .next s) ∧
    (∀ o : ValueOp, let n := o.value.toNat
      let held := n < 2 ∧ (s.boot.state = 6 ∨ s.boot.state = 7)
      let c := s.slotCheck n
      (¬held → exec (.configLoadSlot o) s = .next s) ∧
      (held → c.1 = 0 → exec (.configLoadSlot o) s = .next (s.applyImage n c.2.2 false)) ∧
      (held → c.1 ≠ 0 → exec (.configLoadSlot o) s =
        .next (s.dput 0x200005 (configStatus c.1 n (leAt (s.slot n) 12 4) c.2.1)))) ∧
    (s.boot.saving = none → ∃ x : Saving, s.startSave.boot.saving = some x ∧
      x.slot = (match s.boot.last with
        | some l => 1 - l
        | none => 0) ∧ s.startSave.boot.slots = Tab.put [] s.boot.slots x.slot []) ∧
    (let blocked := s.health.refRan < 9766 ∨
       s.boot.state = 9 ∧ s.boot.fault = 13 ∧ s.boot.monitor = 194 ∧ s.health.masked / 16 % 2 = 1
     (∀ o : ValueOp, let takes := 6 ≤ s.boot.state ∧ s.boot.state ≤ 9 ∧ o.value = 0x9640#32 ∧ ¬blocked
      (takes → exec (.deviceReset o) s = .next { s with boot := { s.boot with reset := true } }) ∧
      (¬takes → exec (.deviceReset o) s = .next s)) ∧
    (∀ o : StartOp,
      let trip := s.boot.state = 9 ∧ s.boot.fault = 13
      let ready := s.boot.reset = true ∧ s.boot.saving = none ∧ ¬blocked ∧ (trip → 128 ≤ s.health.cool)
      (¬ready → exec (.deviceResetStart o) s = .next s) ∧
      (ready → exec (.deviceResetStart o) s =
        .next ((if trip then s.restart.count cTripResets 0 1 else s.restart).startup o.puf))))

/-- Monitors (R487, R489, R490, R492): outside a sample edge nothing is sampled; a sample holds the readings of the monitors
that are powered, each of which is at a level while its reading is at or past the threshold of its kind, and below that until
it is back past it by HYST; 193 and 194 follow their inputs. Each level that a monitor enters is counted and reported once,
with the reading. The first monitor that enters trip takes the module to FAULT in AUX with its number, in AUX too, and its NT
holds no frame, request or group; where none does, the module stays as it is powered. In ON a sample with a monitor of a CT at
throttle asks for ACLK 100 MHz lower, not below 700, and the 128th in a row without one for 100 MHz more up to ACLK_MAX; the
next tick edge makes the step and counts it, with the throttled tick, and reports the end of throttling (R490). In AUX the
samples in which every powered monitor reads below warn are counted (R493). A tile that misses its heartbeat is reported and
the module leaves the pod, once (R499); the loss of REFCLK is counted, and trips in ON and is reported in AUX (R512). Without
power none of them happens.

Conditioned inputs (R515, R516, R518): a level seen long enough is accepted, with the glitches before it counted, and
HOST_ATTN goes to the core that its route names; an input held past its hold-off is masked, counted as stuck and reported,
once, and is unmasked when it is released. An input that is not listened to changes nothing.

When a monitor leaves a level (log entry 123), the reason that a FAULT keeps at a loss of REFCLK in AUX (log entry 124), when
a step is made and counted (log entry 125), and the acceptance of a level as one command (log entry 126) are the model's
readings. -/
def Obligations.HealthAndInputs : Prop :=
  (∀ (s : State),
    (∀ o : SampleOp, s.now % 8 ≠ 0 ∨ s.power = .off → exec (.monitorSample o) s = .next s) ∧
    (∀ o : SampleOp, s.now % 8 = 0 → s.power ≠ .off → Tab.wf 0 s.health.level = true → Tab.wf 0 s.health.reading = true →
      let live := (List.range 195).filter (fun m => s.monOk m && (s.power == .on || auxMon m))
      let level := fun (y : State) (m : Nat) => Tab.get 0 y.health.level m
      let past := fun (k before l : Nat) (r : Int) =>
        let v : Int := if k = 3 then (if l = 2 then -r else (r.natAbs : Int)) else if k = 4 then -r else r
        let th : Int := if k = 4 then -(s.thresh k (l - 1)) else s.thresh k (l - 1)
        ¬(k = 5 ∧ l = 2) ∧ (th ≤ v ∨ l ≤ before ∧ th - s.thresh k 3 < v)
      let reads := fun (m : Nat) (r : Int) => if m = 193 then r = (if s.inputOn 3 = true then 1 else 0)
        else if m = 194 then r = (if s.inputOn 4 = true then 1 else 0) else o.readings[m]? = some r
      let at_ := fun (m l : Nat) (r : Int) => (1 ≤ l ∧ l ≤ 3) ∧
        if m = 193 then l = 2 ∧ s.inputOn 3 = true else if m = 194 then l = 3 ∧ s.inputOn 4 = true
        else if m = 112 then past 4 s.health.low112 l r ∨ past 5 s.health.high112 l r
        else past (monKind m) (level s m) l r
      let x := live.foldl (fun y m => y.sampleMon o m) s
      let enters := fun m : Nat => m ∈ live ∧ level s m < 3 ∧ level x m = 3
      ∃ t : State, exec (.monitorSample o) s = .next t ∧ t.health.level = x.health.level ∧
      (∀ m r, m ∈ live → reads m r → Tab.get 0 t.health.reading m = r ∧
        (level x m = 0 ∨ at_ m (level x m) r) ∧ ∀ l, at_ m l r → l ≤ level x m) ∧
      (∀ m r, m < 195 → reads m r →
        let new := [1, 2, 3].filter (fun l => decide (level s m < l ∧ at_ m l r))
        let y := s.sampleMon o m
        y = { s with health := y.health, ctr := y.ctr, events := y.events, dap := y.dap } ∧
        y.events = s.events ++ new.map (fun l => ⟨0x8000 + l, 0xFF, s.now, m, wrap 64 r⟩) ∧
        (Tab.wf 0 s.ctr = true → ∀ l c, (l, c) ∈ [(1, cMonWarn), (2, cMonThrottle), (3, cMonTrip)] →
          y.counter c m = if l ∈ new then (s.counter c m + 1) % 2 ^ 64 else s.counter c m)) ∧
      (∀ m, enters m → (∀ j, j < m → ¬enters j) →
        t = ({ x with health := { x.health with cool := 0 } }).trip 13 m ∧
        t.power = .aux ∧ t.boot.state = 9 ∧ t.boot.fault = 13 ∧ t.boot.monitor = m ∧
        t.net.pipes = [] ∧ t.net.reqs = [] ∧ t.net.groups = []) ∧
      ((∀ m, ¬enters m) → t = { x with health := t.health } ∧ t.power = s.power ∧ t.boot = s.boot ∧
        (s.power = .on → Tab.wf {} s.health.clk = true → ∀ ct, ct < s.variant.tiles →
          let c := Tab.get {} s.health.clk ct
          let hot := (List.range 195).any (fun m => throttles m ct && decide (2 ≤ level t m))
          let top := s.dnum 0x800003
          let calm := if hot = true then 0 else min 128 (c.calm + 1)
          let next := if hot = true then
              (if 700 < c.mhz then some (match c.next with
                | some (m, _) => (min m (c.mhz - 100), 1)
                | none => (c.mhz - 100, 1)) else c.next)
            else if calm = 128 ∧ c.mhz < top ∧ c.next = none then some (min top (c.mhz + 100), 2) else c.next
          Tab.get {} t.health.clk ct = { c with calm := calm, next := next }) ∧
        (s.power = .aux → t.health.cool =
          if (List.range 195).any (fun m => auxMon m && s.monOk m && t.warm m) = true then 0 else min 128 (s.health.cool + 1)))) ∧
    (∀ o : HeartbeatOp,
      let ct := o.tile.toNat
      let misses := s.power = .on ∧ ct < s.variant.tiles ∧ s.health.failed / 2 ^ ct % 2 = 0
      (¬misses → exec (.tileHeartbeatMiss o) s = .next s) ∧
      (misses → exec (.tileHeartbeatMiss o) s = .next (({ s with
        health := { s.health with failed := s.health.failed + 2 ^ ct },
        fab := { s.fab with leaving := true } }.count cTileFail 0 1).raise 0x8005 0xFF ct o.last))) ∧
    (s.power = .off → exec .refclkLoss s = .next s) ∧
    (let x := { s with health := { s.health with refRan := 0 } }.count cRefclkLoss 0 1
     (s.power = .on → exec .refclkLoss s = .next (x.trip 14 0)) ∧
     (s.power = .aux → exec .refclkLoss s = .next (x.raise 0x2003 0xFF 14 0))) ∧
    (∀ ct, Tab.wf {} s.health.clk = true → Tab.wf 0 s.ctr = true →
      let c := Tab.get {} s.health.clk ct
      let t := s.aclkEdge ct
      let top := s.dnum 0x800003
      let mhz := min top (match c.next with
        | some (m, _) => m
        | none => c.mhz)
      let down := c.next.map (·.2) = some 1
      let up := c.next.isSome = true ∧ ¬down ∧ c.mhz < mhz
      let slow := c.slow = true ∨ down
      let ends := slow ∧ top ≤ mhz
      ct < 65536 →
      (Tab.get {} t.health.clk ct).mhz = mhz ∧ (Tab.get {} t.health.clk ct).next = none ∧
      ((Tab.get {} t.health.clk ct).slow = true ↔ slow ∧ ¬ends) ∧
      (t.counter cThrottleTicks ct = if c.mhz < top then (s.counter cThrottleTicks ct + 1) % 2 ^ 64 else s.counter cThrottleTicks ct) ∧
      (t.counter cAclkStepDown ct = if down then (s.counter cAclkStepDown ct + 1) % 2 ^ 64 else s.counter cAclkStepDown ct) ∧
      (t.counter cAclkStepUp ct = if up then (s.counter cAclkStepUp ct + 1) % 2 ^ 64 else s.counter cAclkStepUp ct) ∧
      t.events = s.events ++ (if ends then [⟨0x8004, 0xFF, s.now, ct, top⟩] else []))) ∧
  (∀ (s : State) (o : InputOp) (h : InputNumOp),
    let n := o.input.val
    let on := s.health.inputs / 2 ^ n % 2 = 1
    let masked := s.health.masked / 2 ^ n % 2 = 1
    let g := s.count cInputGlitch n o.glitches
    h.input = o.input →
    (s.inputLive n = false → exec (.inputLevelAccept o) s = .next s ∧ exec (.inputHoldoffExpire h) s = .next s) ∧
    (¬on ∨ masked → exec (.inputHoldoffExpire h) s = .next s) ∧
    (s.inputLive n = true →
      (o.active = true → ¬on → n ≠ 1 → n ≠ 2 → exec (.inputLevelAccept o) s =
        .next { g with health := { g.health with inputs := s.health.inputs + 2 ^ n } }) ∧
      (o.active = true → ¬on → (n = 1 ∨ n = 2) → exec (.inputLevelAccept o) s =
        .next ({ g with health := { g.health with inputs := s.health.inputs + 2 ^ n } }.hostAttn (n - 1))) ∧
      ((o.active = true ↔ on) → exec (.inputLevelAccept o) s = .next g) ∧
      (o.active = false → on → exec (.inputLevelAccept o) s = .next { g with health := { g.health with
        inputs := s.health.inputs - 2 ^ n, masked := if masked then s.health.masked - 2 ^ n else s.health.masked } }) ∧
      (on → ¬masked → exec (.inputHoldoffExpire h) s = .next (({ s with health := { s.health with
        masked := s.health.masked + 2 ^ n } }.count cInputStuck n 1).raise 0x8006 0xFF n s.now))))
end

