-- ==== Sys2Proof/Laws/State.lean ====
section
/-! SUPPORT. What each update of the state leaves: one lemma for each field that it does not write, true by definition. -/

namespace Sys2Proof.Machine

variable (s : State)

/-! ### count -/

@[simp] theorem State.count_pending (c i n : Nat) : (s.count c i n).pending = s.pending := rfl
@[simp] theorem State.count_variant (c i n : Nat) : (s.count c i n).variant = s.variant := rfl
@[simp] theorem State.count_power (c i n : Nat) : (s.count c i n).power = s.power := rfl
@[simp] theorem State.count_modrec (c i n : Nat) : (s.count c i n).modrec = s.modrec := rfl
@[simp] theorem State.count_ident (c i n : Nat) : (s.count c i n).ident = s.ident := rfl
@[simp] theorem State.count_dict (c i n : Nat) : (s.count c i n).dict = s.dict := rfl
@[simp] theorem State.count_events (c i n : Nat) : (s.count c i n).events = s.events := rfl
@[simp] theorem State.count_evLast (c i n : Nat) : (s.count c i n).evLast = s.evLast := rfl
@[simp] theorem State.count_out (c i n : Nat) : (s.count c i n).out = s.out := rfl
@[simp] theorem State.count_draws (c i n : Nat) : (s.count c i n).draws = s.draws := rfl
@[simp] theorem State.count_clk (c i n : Nat) : (s.count c i n).clk = s.clk := rfl
@[simp] theorem State.count_sched (c i n : Nat) : (s.count c i n).sched = s.sched := rfl
@[simp] theorem State.count_fences (c i n : Nat) : (s.count c i n).fences = s.fences := rfl
@[simp] theorem State.count_bars (c i n : Nat) : (s.count c i n).bars = s.bars := rfl
@[simp] theorem State.count_cores (c i n : Nat) : (s.count c i n).cores = s.cores := rfl
@[simp] theorem State.count_engines (c i n : Nat) : (s.count c i n).engines = s.engines := rfl
@[simp] theorem State.count_chans (c i n : Nat) : (s.count c i n).chans = s.chans := rfl
@[simp] theorem State.count_eus (c i n : Nat) : (s.count c i n).eus = s.eus := rfl
@[simp] theorem State.count_emb (c i n : Nat) : (s.count c i n).emb = s.emb := rfl
@[simp] theorem State.count_mem (c i n : Nat) : (s.count c i n).mem = s.mem := rfl
@[simp] theorem State.count_t0 (c i n : Nat) : (s.count c i n).t0 = s.t0 := rfl
@[simp] theorem State.count_lmem (c i n : Nat) : (s.count c i n).lmem = s.lmem := rfl
@[simp] theorem State.count_t1 (c i n : Nat) : (s.count c i n).t1 = s.t1 := rfl
@[simp] theorem State.count_t2 (c i n : Nat) : (s.count c i n).t2 = s.t2 := rfl
@[simp] theorem State.count_pkt (c i n : Nat) : (s.count c i n).pkt = s.pkt := rfl
@[simp] theorem State.count_tree (c i n : Nat) : (s.count c i n).tree = s.tree := rfl
@[simp] theorem State.count_fab (c i n : Nat) : (s.count c i n).fab = s.fab := rfl
@[simp] theorem State.count_host (c i n : Nat) : (s.count c i n).host = s.host := rfl
@[simp] theorem State.count_dap (c i n : Nat) : (s.count c i n).dap = s.dap := rfl
@[simp] theorem State.count_boot (c i n : Nat) : (s.count c i n).boot = s.boot := rfl
@[simp] theorem State.count_bank (c i n : Nat) : (s.count c i n).bank = s.bank := rfl
@[simp] theorem State.count_coll (c i n : Nat) : (s.count c i n).coll = s.coll := rfl
@[simp] theorem State.count_net (c i n : Nat) : (s.count c i n).net = s.net := rfl
@[simp] theorem State.count_health (c i n : Nat) : (s.count c i n).health = s.health := rfl

/-! ### emit -/

@[simp] theorem State.emit_pending (o : Output) : (s.emit o).pending = s.pending := rfl
@[simp] theorem State.emit_variant (o : Output) : (s.emit o).variant = s.variant := rfl
@[simp] theorem State.emit_power (o : Output) : (s.emit o).power = s.power := rfl
@[simp] theorem State.emit_modrec (o : Output) : (s.emit o).modrec = s.modrec := rfl
@[simp] theorem State.emit_ident (o : Output) : (s.emit o).ident = s.ident := rfl
@[simp] theorem State.emit_dict (o : Output) : (s.emit o).dict = s.dict := rfl
@[simp] theorem State.emit_ctr (o : Output) : (s.emit o).ctr = s.ctr := rfl
@[simp] theorem State.emit_events (o : Output) : (s.emit o).events = s.events := rfl
@[simp] theorem State.emit_evLast (o : Output) : (s.emit o).evLast = s.evLast := rfl
@[simp] theorem State.emit_draws (o : Output) : (s.emit o).draws = s.draws := rfl
@[simp] theorem State.emit_clk (o : Output) : (s.emit o).clk = s.clk := rfl
@[simp] theorem State.emit_sched (o : Output) : (s.emit o).sched = s.sched := rfl
@[simp] theorem State.emit_fences (o : Output) : (s.emit o).fences = s.fences := rfl
@[simp] theorem State.emit_bars (o : Output) : (s.emit o).bars = s.bars := rfl
@[simp] theorem State.emit_cores (o : Output) : (s.emit o).cores = s.cores := rfl
@[simp] theorem State.emit_engines (o : Output) : (s.emit o).engines = s.engines := rfl
@[simp] theorem State.emit_chans (o : Output) : (s.emit o).chans = s.chans := rfl
@[simp] theorem State.emit_eus (o : Output) : (s.emit o).eus = s.eus := rfl
@[simp] theorem State.emit_emb (o : Output) : (s.emit o).emb = s.emb := rfl
@[simp] theorem State.emit_mem (o : Output) : (s.emit o).mem = s.mem := rfl
@[simp] theorem State.emit_t0 (o : Output) : (s.emit o).t0 = s.t0 := rfl
@[simp] theorem State.emit_lmem (o : Output) : (s.emit o).lmem = s.lmem := rfl
@[simp] theorem State.emit_t1 (o : Output) : (s.emit o).t1 = s.t1 := rfl
@[simp] theorem State.emit_t2 (o : Output) : (s.emit o).t2 = s.t2 := rfl
@[simp] theorem State.emit_pkt (o : Output) : (s.emit o).pkt = s.pkt := rfl
@[simp] theorem State.emit_tree (o : Output) : (s.emit o).tree = s.tree := rfl
@[simp] theorem State.emit_fab (o : Output) : (s.emit o).fab = s.fab := rfl
@[simp] theorem State.emit_host (o : Output) : (s.emit o).host = s.host := rfl
@[simp] theorem State.emit_dap (o : Output) : (s.emit o).dap = s.dap := rfl
@[simp] theorem State.emit_boot (o : Output) : (s.emit o).boot = s.boot := rfl
@[simp] theorem State.emit_bank (o : Output) : (s.emit o).bank = s.bank := rfl
@[simp] theorem State.emit_coll (o : Output) : (s.emit o).coll = s.coll := rfl
@[simp] theorem State.emit_net (o : Output) : (s.emit o).net = s.net := rfl
@[simp] theorem State.emit_health (o : Output) : (s.emit o).health = s.health := rfl

/-! ### notifySubs -/

@[simp] theorem State.notifySubs_pending (e : Event) : (s.notifySubs e).pending = s.pending := rfl
@[simp] theorem State.notifySubs_variant (e : Event) : (s.notifySubs e).variant = s.variant := rfl
@[simp] theorem State.notifySubs_power (e : Event) : (s.notifySubs e).power = s.power := rfl
@[simp] theorem State.notifySubs_modrec (e : Event) : (s.notifySubs e).modrec = s.modrec := rfl
@[simp] theorem State.notifySubs_ident (e : Event) : (s.notifySubs e).ident = s.ident := rfl
@[simp] theorem State.notifySubs_dict (e : Event) : (s.notifySubs e).dict = s.dict := rfl
@[simp] theorem State.notifySubs_events (e : Event) : (s.notifySubs e).events = s.events := rfl
@[simp] theorem State.notifySubs_evLast (e : Event) : (s.notifySubs e).evLast = s.evLast := rfl
@[simp] theorem State.notifySubs_out (e : Event) : (s.notifySubs e).out = s.out := rfl
@[simp] theorem State.notifySubs_draws (e : Event) : (s.notifySubs e).draws = s.draws := rfl
@[simp] theorem State.notifySubs_clk (e : Event) : (s.notifySubs e).clk = s.clk := rfl
@[simp] theorem State.notifySubs_sched (e : Event) : (s.notifySubs e).sched = s.sched := rfl
@[simp] theorem State.notifySubs_fences (e : Event) : (s.notifySubs e).fences = s.fences := rfl
@[simp] theorem State.notifySubs_bars (e : Event) : (s.notifySubs e).bars = s.bars := rfl
@[simp] theorem State.notifySubs_cores (e : Event) : (s.notifySubs e).cores = s.cores := rfl
@[simp] theorem State.notifySubs_engines (e : Event) : (s.notifySubs e).engines = s.engines := rfl
@[simp] theorem State.notifySubs_chans (e : Event) : (s.notifySubs e).chans = s.chans := rfl
@[simp] theorem State.notifySubs_eus (e : Event) : (s.notifySubs e).eus = s.eus := rfl
@[simp] theorem State.notifySubs_emb (e : Event) : (s.notifySubs e).emb = s.emb := rfl
@[simp] theorem State.notifySubs_mem (e : Event) : (s.notifySubs e).mem = s.mem := rfl
@[simp] theorem State.notifySubs_t0 (e : Event) : (s.notifySubs e).t0 = s.t0 := rfl
@[simp] theorem State.notifySubs_lmem (e : Event) : (s.notifySubs e).lmem = s.lmem := rfl
@[simp] theorem State.notifySubs_t1 (e : Event) : (s.notifySubs e).t1 = s.t1 := rfl
@[simp] theorem State.notifySubs_t2 (e : Event) : (s.notifySubs e).t2 = s.t2 := rfl
@[simp] theorem State.notifySubs_pkt (e : Event) : (s.notifySubs e).pkt = s.pkt := rfl
@[simp] theorem State.notifySubs_tree (e : Event) : (s.notifySubs e).tree = s.tree := rfl
@[simp] theorem State.notifySubs_fab (e : Event) : (s.notifySubs e).fab = s.fab := rfl
@[simp] theorem State.notifySubs_host (e : Event) : (s.notifySubs e).host = s.host := rfl
@[simp] theorem State.notifySubs_boot (e : Event) : (s.notifySubs e).boot = s.boot := rfl
@[simp] theorem State.notifySubs_bank (e : Event) : (s.notifySubs e).bank = s.bank := rfl
@[simp] theorem State.notifySubs_coll (e : Event) : (s.notifySubs e).coll = s.coll := rfl
@[simp] theorem State.notifySubs_net (e : Event) : (s.notifySubs e).net = s.net := rfl
@[simp] theorem State.notifySubs_health (e : Event) : (s.notifySubs e).health = s.health := rfl

/-! ### raise -/

@[simp] theorem State.raise_pending (c p a b : Nat) : (s.raise c p a b).pending = s.pending := rfl
@[simp] theorem State.raise_variant (c p a b : Nat) : (s.raise c p a b).variant = s.variant := rfl
@[simp] theorem State.raise_power (c p a b : Nat) : (s.raise c p a b).power = s.power := rfl
@[simp] theorem State.raise_modrec (c p a b : Nat) : (s.raise c p a b).modrec = s.modrec := rfl
@[simp] theorem State.raise_ident (c p a b : Nat) : (s.raise c p a b).ident = s.ident := rfl
@[simp] theorem State.raise_dict (c p a b : Nat) : (s.raise c p a b).dict = s.dict := rfl
@[simp] theorem State.raise_evLast (c p a b : Nat) : (s.raise c p a b).evLast = s.evLast := rfl
@[simp] theorem State.raise_out (c p a b : Nat) : (s.raise c p a b).out = s.out := rfl
@[simp] theorem State.raise_draws (c p a b : Nat) : (s.raise c p a b).draws = s.draws := rfl
@[simp] theorem State.raise_clk (c p a b : Nat) : (s.raise c p a b).clk = s.clk := rfl
@[simp] theorem State.raise_sched (c p a b : Nat) : (s.raise c p a b).sched = s.sched := rfl
@[simp] theorem State.raise_fences (c p a b : Nat) : (s.raise c p a b).fences = s.fences := rfl
@[simp] theorem State.raise_bars (c p a b : Nat) : (s.raise c p a b).bars = s.bars := rfl
@[simp] theorem State.raise_cores (c p a b : Nat) : (s.raise c p a b).cores = s.cores := rfl
@[simp] theorem State.raise_engines (c p a b : Nat) : (s.raise c p a b).engines = s.engines := rfl
@[simp] theorem State.raise_chans (c p a b : Nat) : (s.raise c p a b).chans = s.chans := rfl
@[simp] theorem State.raise_eus (c p a b : Nat) : (s.raise c p a b).eus = s.eus := rfl
@[simp] theorem State.raise_emb (c p a b : Nat) : (s.raise c p a b).emb = s.emb := rfl
@[simp] theorem State.raise_mem (c p a b : Nat) : (s.raise c p a b).mem = s.mem := rfl
@[simp] theorem State.raise_t0 (c p a b : Nat) : (s.raise c p a b).t0 = s.t0 := rfl
@[simp] theorem State.raise_lmem (c p a b : Nat) : (s.raise c p a b).lmem = s.lmem := rfl
@[simp] theorem State.raise_t1 (c p a b : Nat) : (s.raise c p a b).t1 = s.t1 := rfl
@[simp] theorem State.raise_t2 (c p a b : Nat) : (s.raise c p a b).t2 = s.t2 := rfl
@[simp] theorem State.raise_pkt (c p a b : Nat) : (s.raise c p a b).pkt = s.pkt := rfl
@[simp] theorem State.raise_tree (c p a b : Nat) : (s.raise c p a b).tree = s.tree := rfl
@[simp] theorem State.raise_fab (c p a b : Nat) : (s.raise c p a b).fab = s.fab := rfl
@[simp] theorem State.raise_host (c p a b : Nat) : (s.raise c p a b).host = s.host := rfl
@[simp] theorem State.raise_boot (c p a b : Nat) : (s.raise c p a b).boot = s.boot := rfl
@[simp] theorem State.raise_bank (c p a b : Nat) : (s.raise c p a b).bank = s.bank := rfl
@[simp] theorem State.raise_coll (c p a b : Nat) : (s.raise c p a b).coll = s.coll := rfl
@[simp] theorem State.raise_net (c p a b : Nat) : (s.raise c p a b).net = s.net := rfl
@[simp] theorem State.raise_health (c p a b : Nat) : (s.raise c p a b).health = s.health := rfl

/-! ### raiseDev -/

@[simp] theorem State.raiseDev_pending (c a b : Nat) : (s.raiseDev c a b).pending = s.pending := rfl
@[simp] theorem State.raiseDev_variant (c a b : Nat) : (s.raiseDev c a b).variant = s.variant := rfl
@[simp] theorem State.raiseDev_power (c a b : Nat) : (s.raiseDev c a b).power = s.power := rfl
@[simp] theorem State.raiseDev_modrec (c a b : Nat) : (s.raiseDev c a b).modrec = s.modrec := rfl
@[simp] theorem State.raiseDev_ident (c a b : Nat) : (s.raiseDev c a b).ident = s.ident := rfl
@[simp] theorem State.raiseDev_dict (c a b : Nat) : (s.raiseDev c a b).dict = s.dict := rfl
@[simp] theorem State.raiseDev_evLast (c a b : Nat) : (s.raiseDev c a b).evLast = s.evLast := rfl
@[simp] theorem State.raiseDev_out (c a b : Nat) : (s.raiseDev c a b).out = s.out := rfl
@[simp] theorem State.raiseDev_draws (c a b : Nat) : (s.raiseDev c a b).draws = s.draws := rfl
@[simp] theorem State.raiseDev_clk (c a b : Nat) : (s.raiseDev c a b).clk = s.clk := rfl
@[simp] theorem State.raiseDev_sched (c a b : Nat) : (s.raiseDev c a b).sched = s.sched := rfl
@[simp] theorem State.raiseDev_fences (c a b : Nat) : (s.raiseDev c a b).fences = s.fences := rfl
@[simp] theorem State.raiseDev_bars (c a b : Nat) : (s.raiseDev c a b).bars = s.bars := rfl
@[simp] theorem State.raiseDev_cores (c a b : Nat) : (s.raiseDev c a b).cores = s.cores := rfl
@[simp] theorem State.raiseDev_engines (c a b : Nat) : (s.raiseDev c a b).engines = s.engines := rfl
@[simp] theorem State.raiseDev_chans (c a b : Nat) : (s.raiseDev c a b).chans = s.chans := rfl
@[simp] theorem State.raiseDev_eus (c a b : Nat) : (s.raiseDev c a b).eus = s.eus := rfl
@[simp] theorem State.raiseDev_emb (c a b : Nat) : (s.raiseDev c a b).emb = s.emb := rfl
@[simp] theorem State.raiseDev_mem (c a b : Nat) : (s.raiseDev c a b).mem = s.mem := rfl
@[simp] theorem State.raiseDev_t0 (c a b : Nat) : (s.raiseDev c a b).t0 = s.t0 := rfl
@[simp] theorem State.raiseDev_lmem (c a b : Nat) : (s.raiseDev c a b).lmem = s.lmem := rfl
@[simp] theorem State.raiseDev_t1 (c a b : Nat) : (s.raiseDev c a b).t1 = s.t1 := rfl
@[simp] theorem State.raiseDev_t2 (c a b : Nat) : (s.raiseDev c a b).t2 = s.t2 := rfl
@[simp] theorem State.raiseDev_pkt (c a b : Nat) : (s.raiseDev c a b).pkt = s.pkt := rfl
@[simp] theorem State.raiseDev_tree (c a b : Nat) : (s.raiseDev c a b).tree = s.tree := rfl
@[simp] theorem State.raiseDev_fab (c a b : Nat) : (s.raiseDev c a b).fab = s.fab := rfl
@[simp] theorem State.raiseDev_host (c a b : Nat) : (s.raiseDev c a b).host = s.host := rfl
@[simp] theorem State.raiseDev_boot (c a b : Nat) : (s.raiseDev c a b).boot = s.boot := rfl
@[simp] theorem State.raiseDev_bank (c a b : Nat) : (s.raiseDev c a b).bank = s.bank := rfl
@[simp] theorem State.raiseDev_coll (c a b : Nat) : (s.raiseDev c a b).coll = s.coll := rfl
@[simp] theorem State.raiseDev_net (c a b : Nat) : (s.raiseDev c a b).net = s.net := rfl
@[simp] theorem State.raiseDev_health (c a b : Nat) : (s.raiseDev c a b).health = s.health := rfl

/-! ### dput -/

@[simp] theorem State.dput_pending (k : Nat) (b : List Byte) : (s.dput k b).pending = s.pending := rfl
@[simp] theorem State.dput_variant (k : Nat) (b : List Byte) : (s.dput k b).variant = s.variant := rfl
@[simp] theorem State.dput_power (k : Nat) (b : List Byte) : (s.dput k b).power = s.power := rfl
@[simp] theorem State.dput_modrec (k : Nat) (b : List Byte) : (s.dput k b).modrec = s.modrec := rfl
@[simp] theorem State.dput_ident (k : Nat) (b : List Byte) : (s.dput k b).ident = s.ident := rfl
@[simp] theorem State.dput_ctr (k : Nat) (b : List Byte) : (s.dput k b).ctr = s.ctr := rfl
@[simp] theorem State.dput_events (k : Nat) (b : List Byte) : (s.dput k b).events = s.events := rfl
@[simp] theorem State.dput_evLast (k : Nat) (b : List Byte) : (s.dput k b).evLast = s.evLast := rfl
@[simp] theorem State.dput_out (k : Nat) (b : List Byte) : (s.dput k b).out = s.out := rfl
@[simp] theorem State.dput_draws (k : Nat) (b : List Byte) : (s.dput k b).draws = s.draws := rfl
@[simp] theorem State.dput_clk (k : Nat) (b : List Byte) : (s.dput k b).clk = s.clk := rfl
@[simp] theorem State.dput_sched (k : Nat) (b : List Byte) : (s.dput k b).sched = s.sched := rfl
@[simp] theorem State.dput_fences (k : Nat) (b : List Byte) : (s.dput k b).fences = s.fences := rfl
@[simp] theorem State.dput_bars (k : Nat) (b : List Byte) : (s.dput k b).bars = s.bars := rfl
@[simp] theorem State.dput_cores (k : Nat) (b : List Byte) : (s.dput k b).cores = s.cores := rfl
@[simp] theorem State.dput_engines (k : Nat) (b : List Byte) : (s.dput k b).engines = s.engines := rfl
@[simp] theorem State.dput_chans (k : Nat) (b : List Byte) : (s.dput k b).chans = s.chans := rfl
@[simp] theorem State.dput_eus (k : Nat) (b : List Byte) : (s.dput k b).eus = s.eus := rfl
@[simp] theorem State.dput_emb (k : Nat) (b : List Byte) : (s.dput k b).emb = s.emb := rfl
@[simp] theorem State.dput_mem (k : Nat) (b : List Byte) : (s.dput k b).mem = s.mem := rfl
@[simp] theorem State.dput_t0 (k : Nat) (b : List Byte) : (s.dput k b).t0 = s.t0 := rfl
@[simp] theorem State.dput_lmem (k : Nat) (b : List Byte) : (s.dput k b).lmem = s.lmem := rfl
@[simp] theorem State.dput_t1 (k : Nat) (b : List Byte) : (s.dput k b).t1 = s.t1 := rfl
@[simp] theorem State.dput_t2 (k : Nat) (b : List Byte) : (s.dput k b).t2 = s.t2 := rfl
@[simp] theorem State.dput_pkt (k : Nat) (b : List Byte) : (s.dput k b).pkt = s.pkt := rfl
@[simp] theorem State.dput_tree (k : Nat) (b : List Byte) : (s.dput k b).tree = s.tree := rfl
@[simp] theorem State.dput_fab (k : Nat) (b : List Byte) : (s.dput k b).fab = s.fab := rfl
@[simp] theorem State.dput_host (k : Nat) (b : List Byte) : (s.dput k b).host = s.host := rfl
@[simp] theorem State.dput_dap (k : Nat) (b : List Byte) : (s.dput k b).dap = s.dap := rfl
@[simp] theorem State.dput_boot (k : Nat) (b : List Byte) : (s.dput k b).boot = s.boot := rfl
@[simp] theorem State.dput_bank (k : Nat) (b : List Byte) : (s.dput k b).bank = s.bank := rfl
@[simp] theorem State.dput_coll (k : Nat) (b : List Byte) : (s.dput k b).coll = s.coll := rfl
@[simp] theorem State.dput_net (k : Nat) (b : List Byte) : (s.dput k b).net = s.net := rfl
@[simp] theorem State.dput_health (k : Nat) (b : List Byte) : (s.dput k b).health = s.health := rfl

/-! ### dputNum -/

@[simp] theorem State.dputNum_pending (k l n : Nat) : (s.dputNum k l n).pending = s.pending := rfl
@[simp] theorem State.dputNum_variant (k l n : Nat) : (s.dputNum k l n).variant = s.variant := rfl
@[simp] theorem State.dputNum_power (k l n : Nat) : (s.dputNum k l n).power = s.power := rfl
@[simp] theorem State.dputNum_modrec (k l n : Nat) : (s.dputNum k l n).modrec = s.modrec := rfl
@[simp] theorem State.dputNum_ident (k l n : Nat) : (s.dputNum k l n).ident = s.ident := rfl
@[simp] theorem State.dputNum_ctr (k l n : Nat) : (s.dputNum k l n).ctr = s.ctr := rfl
@[simp] theorem State.dputNum_events (k l n : Nat) : (s.dputNum k l n).events = s.events := rfl
@[simp] theorem State.dputNum_evLast (k l n : Nat) : (s.dputNum k l n).evLast = s.evLast := rfl
@[simp] theorem State.dputNum_out (k l n : Nat) : (s.dputNum k l n).out = s.out := rfl
@[simp] theorem State.dputNum_draws (k l n : Nat) : (s.dputNum k l n).draws = s.draws := rfl
@[simp] theorem State.dputNum_clk (k l n : Nat) : (s.dputNum k l n).clk = s.clk := rfl
@[simp] theorem State.dputNum_sched (k l n : Nat) : (s.dputNum k l n).sched = s.sched := rfl
@[simp] theorem State.dputNum_fences (k l n : Nat) : (s.dputNum k l n).fences = s.fences := rfl
@[simp] theorem State.dputNum_bars (k l n : Nat) : (s.dputNum k l n).bars = s.bars := rfl
@[simp] theorem State.dputNum_cores (k l n : Nat) : (s.dputNum k l n).cores = s.cores := rfl
@[simp] theorem State.dputNum_engines (k l n : Nat) : (s.dputNum k l n).engines = s.engines := rfl
@[simp] theorem State.dputNum_chans (k l n : Nat) : (s.dputNum k l n).chans = s.chans := rfl
@[simp] theorem State.dputNum_eus (k l n : Nat) : (s.dputNum k l n).eus = s.eus := rfl
@[simp] theorem State.dputNum_emb (k l n : Nat) : (s.dputNum k l n).emb = s.emb := rfl
@[simp] theorem State.dputNum_mem (k l n : Nat) : (s.dputNum k l n).mem = s.mem := rfl
@[simp] theorem State.dputNum_t0 (k l n : Nat) : (s.dputNum k l n).t0 = s.t0 := rfl
@[simp] theorem State.dputNum_lmem (k l n : Nat) : (s.dputNum k l n).lmem = s.lmem := rfl
@[simp] theorem State.dputNum_t1 (k l n : Nat) : (s.dputNum k l n).t1 = s.t1 := rfl
@[simp] theorem State.dputNum_t2 (k l n : Nat) : (s.dputNum k l n).t2 = s.t2 := rfl
@[simp] theorem State.dputNum_pkt (k l n : Nat) : (s.dputNum k l n).pkt = s.pkt := rfl
@[simp] theorem State.dputNum_tree (k l n : Nat) : (s.dputNum k l n).tree = s.tree := rfl
@[simp] theorem State.dputNum_fab (k l n : Nat) : (s.dputNum k l n).fab = s.fab := rfl
@[simp] theorem State.dputNum_host (k l n : Nat) : (s.dputNum k l n).host = s.host := rfl
@[simp] theorem State.dputNum_dap (k l n : Nat) : (s.dputNum k l n).dap = s.dap := rfl
@[simp] theorem State.dputNum_boot (k l n : Nat) : (s.dputNum k l n).boot = s.boot := rfl
@[simp] theorem State.dputNum_bank (k l n : Nat) : (s.dputNum k l n).bank = s.bank := rfl
@[simp] theorem State.dputNum_coll (k l n : Nat) : (s.dputNum k l n).coll = s.coll := rfl
@[simp] theorem State.dputNum_net (k l n : Nat) : (s.dputNum k l n).net = s.net := rfl
@[simp] theorem State.dputNum_health (k l n : Nat) : (s.dputNum k l n).health = s.health := rfl

/-! ### setCore -/

@[simp] theorem State.setCore_pending (k : Nat) (c : Core) : (s.setCore k c).pending = s.pending := rfl
@[simp] theorem State.setCore_variant (k : Nat) (c : Core) : (s.setCore k c).variant = s.variant := rfl
@[simp] theorem State.setCore_power (k : Nat) (c : Core) : (s.setCore k c).power = s.power := rfl
@[simp] theorem State.setCore_modrec (k : Nat) (c : Core) : (s.setCore k c).modrec = s.modrec := rfl
@[simp] theorem State.setCore_ident (k : Nat) (c : Core) : (s.setCore k c).ident = s.ident := rfl
@[simp] theorem State.setCore_dict (k : Nat) (c : Core) : (s.setCore k c).dict = s.dict := rfl
@[simp] theorem State.setCore_ctr (k : Nat) (c : Core) : (s.setCore k c).ctr = s.ctr := rfl
@[simp] theorem State.setCore_events (k : Nat) (c : Core) : (s.setCore k c).events = s.events := rfl
@[simp] theorem State.setCore_evLast (k : Nat) (c : Core) : (s.setCore k c).evLast = s.evLast := rfl
@[simp] theorem State.setCore_out (k : Nat) (c : Core) : (s.setCore k c).out = s.out := rfl
@[simp] theorem State.setCore_draws (k : Nat) (c : Core) : (s.setCore k c).draws = s.draws := rfl
@[simp] theorem State.setCore_clk (k : Nat) (c : Core) : (s.setCore k c).clk = s.clk := rfl
@[simp] theorem State.setCore_sched (k : Nat) (c : Core) : (s.setCore k c).sched = s.sched := rfl
@[simp] theorem State.setCore_fences (k : Nat) (c : Core) : (s.setCore k c).fences = s.fences := rfl
@[simp] theorem State.setCore_bars (k : Nat) (c : Core) : (s.setCore k c).bars = s.bars := rfl
@[simp] theorem State.setCore_engines (k : Nat) (c : Core) : (s.setCore k c).engines = s.engines := rfl
@[simp] theorem State.setCore_chans (k : Nat) (c : Core) : (s.setCore k c).chans = s.chans := rfl
@[simp] theorem State.setCore_eus (k : Nat) (c : Core) : (s.setCore k c).eus = s.eus := rfl
@[simp] theorem State.setCore_emb (k : Nat) (c : Core) : (s.setCore k c).emb = s.emb := rfl
@[simp] theorem State.setCore_mem (k : Nat) (c : Core) : (s.setCore k c).mem = s.mem := rfl
@[simp] theorem State.setCore_t0 (k : Nat) (c : Core) : (s.setCore k c).t0 = s.t0 := rfl
@[simp] theorem State.setCore_lmem (k : Nat) (c : Core) : (s.setCore k c).lmem = s.lmem := rfl
@[simp] theorem State.setCore_t1 (k : Nat) (c : Core) : (s.setCore k c).t1 = s.t1 := rfl
@[simp] theorem State.setCore_t2 (k : Nat) (c : Core) : (s.setCore k c).t2 = s.t2 := rfl
@[simp] theorem State.setCore_pkt (k : Nat) (c : Core) : (s.setCore k c).pkt = s.pkt := rfl
@[simp] theorem State.setCore_tree (k : Nat) (c : Core) : (s.setCore k c).tree = s.tree := rfl
@[simp] theorem State.setCore_fab (k : Nat) (c : Core) : (s.setCore k c).fab = s.fab := rfl
@[simp] theorem State.setCore_host (k : Nat) (c : Core) : (s.setCore k c).host = s.host := rfl
@[simp] theorem State.setCore_dap (k : Nat) (c : Core) : (s.setCore k c).dap = s.dap := rfl
@[simp] theorem State.setCore_boot (k : Nat) (c : Core) : (s.setCore k c).boot = s.boot := rfl
@[simp] theorem State.setCore_bank (k : Nat) (c : Core) : (s.setCore k c).bank = s.bank := rfl
@[simp] theorem State.setCore_coll (k : Nat) (c : Core) : (s.setCore k c).coll = s.coll := rfl
@[simp] theorem State.setCore_net (k : Nat) (c : Core) : (s.setCore k c).net = s.net := rfl
@[simp] theorem State.setCore_health (k : Nat) (c : Core) : (s.setCore k c).health = s.health := rfl

/-! ### setBar -/

@[simp] theorem State.setBar_pending (t b : Nat) (x : Bar) : (s.setBar t b x).pending = s.pending := rfl
@[simp] theorem State.setBar_variant (t b : Nat) (x : Bar) : (s.setBar t b x).variant = s.variant := rfl
@[simp] theorem State.setBar_power (t b : Nat) (x : Bar) : (s.setBar t b x).power = s.power := rfl
@[simp] theorem State.setBar_modrec (t b : Nat) (x : Bar) : (s.setBar t b x).modrec = s.modrec := rfl
@[simp] theorem State.setBar_ident (t b : Nat) (x : Bar) : (s.setBar t b x).ident = s.ident := rfl
@[simp] theorem State.setBar_dict (t b : Nat) (x : Bar) : (s.setBar t b x).dict = s.dict := rfl
@[simp] theorem State.setBar_ctr (t b : Nat) (x : Bar) : (s.setBar t b x).ctr = s.ctr := rfl
@[simp] theorem State.setBar_events (t b : Nat) (x : Bar) : (s.setBar t b x).events = s.events := rfl
@[simp] theorem State.setBar_evLast (t b : Nat) (x : Bar) : (s.setBar t b x).evLast = s.evLast := rfl
@[simp] theorem State.setBar_out (t b : Nat) (x : Bar) : (s.setBar t b x).out = s.out := rfl
@[simp] theorem State.setBar_draws (t b : Nat) (x : Bar) : (s.setBar t b x).draws = s.draws := rfl
@[simp] theorem State.setBar_clk (t b : Nat) (x : Bar) : (s.setBar t b x).clk = s.clk := rfl
@[simp] theorem State.setBar_sched (t b : Nat) (x : Bar) : (s.setBar t b x).sched = s.sched := rfl
@[simp] theorem State.setBar_fences (t b : Nat) (x : Bar) : (s.setBar t b x).fences = s.fences := rfl
@[simp] theorem State.setBar_cores (t b : Nat) (x : Bar) : (s.setBar t b x).cores = s.cores := rfl
@[simp] theorem State.setBar_engines (t b : Nat) (x : Bar) : (s.setBar t b x).engines = s.engines := rfl
@[simp] theorem State.setBar_chans (t b : Nat) (x : Bar) : (s.setBar t b x).chans = s.chans := rfl
@[simp] theorem State.setBar_eus (t b : Nat) (x : Bar) : (s.setBar t b x).eus = s.eus := rfl
@[simp] theorem State.setBar_emb (t b : Nat) (x : Bar) : (s.setBar t b x).emb = s.emb := rfl
@[simp] theorem State.setBar_mem (t b : Nat) (x : Bar) : (s.setBar t b x).mem = s.mem := rfl
@[simp] theorem State.setBar_t0 (t b : Nat) (x : Bar) : (s.setBar t b x).t0 = s.t0 := rfl
@[simp] theorem State.setBar_lmem (t b : Nat) (x : Bar) : (s.setBar t b x).lmem = s.lmem := rfl
@[simp] theorem State.setBar_t1 (t b : Nat) (x : Bar) : (s.setBar t b x).t1 = s.t1 := rfl
@[simp] theorem State.setBar_t2 (t b : Nat) (x : Bar) : (s.setBar t b x).t2 = s.t2 := rfl
@[simp] theorem State.setBar_pkt (t b : Nat) (x : Bar) : (s.setBar t b x).pkt = s.pkt := rfl
@[simp] theorem State.setBar_tree (t b : Nat) (x : Bar) : (s.setBar t b x).tree = s.tree := rfl
@[simp] theorem State.setBar_fab (t b : Nat) (x : Bar) : (s.setBar t b x).fab = s.fab := rfl
@[simp] theorem State.setBar_host (t b : Nat) (x : Bar) : (s.setBar t b x).host = s.host := rfl
@[simp] theorem State.setBar_dap (t b : Nat) (x : Bar) : (s.setBar t b x).dap = s.dap := rfl
@[simp] theorem State.setBar_boot (t b : Nat) (x : Bar) : (s.setBar t b x).boot = s.boot := rfl
@[simp] theorem State.setBar_bank (t b : Nat) (x : Bar) : (s.setBar t b x).bank = s.bank := rfl
@[simp] theorem State.setBar_coll (t b : Nat) (x : Bar) : (s.setBar t b x).coll = s.coll := rfl
@[simp] theorem State.setBar_net (t b : Nat) (x : Bar) : (s.setBar t b x).net = s.net := rfl
@[simp] theorem State.setBar_health (t b : Nat) (x : Bar) : (s.setBar t b x).health = s.health := rfl

/-! ### setEngine -/

@[simp] theorem State.setEngine_pending (n : Nat) (e : Engine) : (s.setEngine n e).pending = s.pending := rfl
@[simp] theorem State.setEngine_variant (n : Nat) (e : Engine) : (s.setEngine n e).variant = s.variant := rfl
@[simp] theorem State.setEngine_power (n : Nat) (e : Engine) : (s.setEngine n e).power = s.power := rfl
@[simp] theorem State.setEngine_modrec (n : Nat) (e : Engine) : (s.setEngine n e).modrec = s.modrec := rfl
@[simp] theorem State.setEngine_ident (n : Nat) (e : Engine) : (s.setEngine n e).ident = s.ident := rfl
@[simp] theorem State.setEngine_dict (n : Nat) (e : Engine) : (s.setEngine n e).dict = s.dict := rfl
@[simp] theorem State.setEngine_ctr (n : Nat) (e : Engine) : (s.setEngine n e).ctr = s.ctr := rfl
@[simp] theorem State.setEngine_events (n : Nat) (e : Engine) : (s.setEngine n e).events = s.events := rfl
@[simp] theorem State.setEngine_evLast (n : Nat) (e : Engine) : (s.setEngine n e).evLast = s.evLast := rfl
@[simp] theorem State.setEngine_out (n : Nat) (e : Engine) : (s.setEngine n e).out = s.out := rfl
@[simp] theorem State.setEngine_draws (n : Nat) (e : Engine) : (s.setEngine n e).draws = s.draws := rfl
@[simp] theorem State.setEngine_clk (n : Nat) (e : Engine) : (s.setEngine n e).clk = s.clk := rfl
@[simp] theorem State.setEngine_sched (n : Nat) (e : Engine) : (s.setEngine n e).sched = s.sched := rfl
@[simp] theorem State.setEngine_fences (n : Nat) (e : Engine) : (s.setEngine n e).fences = s.fences := rfl
@[simp] theorem State.setEngine_bars (n : Nat) (e : Engine) : (s.setEngine n e).bars = s.bars := rfl
@[simp] theorem State.setEngine_cores (n : Nat) (e : Engine) : (s.setEngine n e).cores = s.cores := rfl
@[simp] theorem State.setEngine_chans (n : Nat) (e : Engine) : (s.setEngine n e).chans = s.chans := rfl
@[simp] theorem State.setEngine_eus (n : Nat) (e : Engine) : (s.setEngine n e).eus = s.eus := rfl
@[simp] theorem State.setEngine_emb (n : Nat) (e : Engine) : (s.setEngine n e).emb = s.emb := rfl
@[simp] theorem State.setEngine_mem (n : Nat) (e : Engine) : (s.setEngine n e).mem = s.mem := rfl
@[simp] theorem State.setEngine_t0 (n : Nat) (e : Engine) : (s.setEngine n e).t0 = s.t0 := rfl
@[simp] theorem State.setEngine_lmem (n : Nat) (e : Engine) : (s.setEngine n e).lmem = s.lmem := rfl
@[simp] theorem State.setEngine_t1 (n : Nat) (e : Engine) : (s.setEngine n e).t1 = s.t1 := rfl
@[simp] theorem State.setEngine_t2 (n : Nat) (e : Engine) : (s.setEngine n e).t2 = s.t2 := rfl
@[simp] theorem State.setEngine_pkt (n : Nat) (e : Engine) : (s.setEngine n e).pkt = s.pkt := rfl
@[simp] theorem State.setEngine_tree (n : Nat) (e : Engine) : (s.setEngine n e).tree = s.tree := rfl
@[simp] theorem State.setEngine_fab (n : Nat) (e : Engine) : (s.setEngine n e).fab = s.fab := rfl
@[simp] theorem State.setEngine_host (n : Nat) (e : Engine) : (s.setEngine n e).host = s.host := rfl
@[simp] theorem State.setEngine_dap (n : Nat) (e : Engine) : (s.setEngine n e).dap = s.dap := rfl
@[simp] theorem State.setEngine_boot (n : Nat) (e : Engine) : (s.setEngine n e).boot = s.boot := rfl
@[simp] theorem State.setEngine_bank (n : Nat) (e : Engine) : (s.setEngine n e).bank = s.bank := rfl
@[simp] theorem State.setEngine_coll (n : Nat) (e : Engine) : (s.setEngine n e).coll = s.coll := rfl
@[simp] theorem State.setEngine_net (n : Nat) (e : Engine) : (s.setEngine n e).net = s.net := rfl
@[simp] theorem State.setEngine_health (n : Nat) (e : Engine) : (s.setEngine n e).health = s.health := rfl

/-! ### setEu -/

@[simp] theorem State.setEu_pending (n : Nat) (e : Eu) : (s.setEu n e).pending = s.pending := rfl
@[simp] theorem State.setEu_variant (n : Nat) (e : Eu) : (s.setEu n e).variant = s.variant := rfl
@[simp] theorem State.setEu_power (n : Nat) (e : Eu) : (s.setEu n e).power = s.power := rfl
@[simp] theorem State.setEu_modrec (n : Nat) (e : Eu) : (s.setEu n e).modrec = s.modrec := rfl
@[simp] theorem State.setEu_ident (n : Nat) (e : Eu) : (s.setEu n e).ident = s.ident := rfl
@[simp] theorem State.setEu_dict (n : Nat) (e : Eu) : (s.setEu n e).dict = s.dict := rfl
@[simp] theorem State.setEu_ctr (n : Nat) (e : Eu) : (s.setEu n e).ctr = s.ctr := rfl
@[simp] theorem State.setEu_events (n : Nat) (e : Eu) : (s.setEu n e).events = s.events := rfl
@[simp] theorem State.setEu_evLast (n : Nat) (e : Eu) : (s.setEu n e).evLast = s.evLast := rfl
@[simp] theorem State.setEu_out (n : Nat) (e : Eu) : (s.setEu n e).out = s.out := rfl
@[simp] theorem State.setEu_draws (n : Nat) (e : Eu) : (s.setEu n e).draws = s.draws := rfl
@[simp] theorem State.setEu_clk (n : Nat) (e : Eu) : (s.setEu n e).clk = s.clk := rfl
@[simp] theorem State.setEu_sched (n : Nat) (e : Eu) : (s.setEu n e).sched = s.sched := rfl
@[simp] theorem State.setEu_fences (n : Nat) (e : Eu) : (s.setEu n e).fences = s.fences := rfl
@[simp] theorem State.setEu_bars (n : Nat) (e : Eu) : (s.setEu n e).bars = s.bars := rfl
@[simp] theorem State.setEu_cores (n : Nat) (e : Eu) : (s.setEu n e).cores = s.cores := rfl
@[simp] theorem State.setEu_engines (n : Nat) (e : Eu) : (s.setEu n e).engines = s.engines := rfl
@[simp] theorem State.setEu_chans (n : Nat) (e : Eu) : (s.setEu n e).chans = s.chans := rfl
@[simp] theorem State.setEu_emb (n : Nat) (e : Eu) : (s.setEu n e).emb = s.emb := rfl
@[simp] theorem State.setEu_mem (n : Nat) (e : Eu) : (s.setEu n e).mem = s.mem := rfl
@[simp] theorem State.setEu_t0 (n : Nat) (e : Eu) : (s.setEu n e).t0 = s.t0 := rfl
@[simp] theorem State.setEu_lmem (n : Nat) (e : Eu) : (s.setEu n e).lmem = s.lmem := rfl
@[simp] theorem State.setEu_t1 (n : Nat) (e : Eu) : (s.setEu n e).t1 = s.t1 := rfl
@[simp] theorem State.setEu_t2 (n : Nat) (e : Eu) : (s.setEu n e).t2 = s.t2 := rfl
@[simp] theorem State.setEu_pkt (n : Nat) (e : Eu) : (s.setEu n e).pkt = s.pkt := rfl
@[simp] theorem State.setEu_tree (n : Nat) (e : Eu) : (s.setEu n e).tree = s.tree := rfl
@[simp] theorem State.setEu_fab (n : Nat) (e : Eu) : (s.setEu n e).fab = s.fab := rfl
@[simp] theorem State.setEu_host (n : Nat) (e : Eu) : (s.setEu n e).host = s.host := rfl
@[simp] theorem State.setEu_dap (n : Nat) (e : Eu) : (s.setEu n e).dap = s.dap := rfl
@[simp] theorem State.setEu_boot (n : Nat) (e : Eu) : (s.setEu n e).boot = s.boot := rfl
@[simp] theorem State.setEu_bank (n : Nat) (e : Eu) : (s.setEu n e).bank = s.bank := rfl
@[simp] theorem State.setEu_coll (n : Nat) (e : Eu) : (s.setEu n e).coll = s.coll := rfl
@[simp] theorem State.setEu_net (n : Nat) (e : Eu) : (s.setEu n e).net = s.net := rfl
@[simp] theorem State.setEu_health (n : Nat) (e : Eu) : (s.setEu n e).health = s.health := rfl

/-! ### setChan -/

@[simp] theorem State.setChan_pending (n : Nat) (c : Chan) : (s.setChan n c).pending = s.pending := rfl
@[simp] theorem State.setChan_variant (n : Nat) (c : Chan) : (s.setChan n c).variant = s.variant := rfl
@[simp] theorem State.setChan_power (n : Nat) (c : Chan) : (s.setChan n c).power = s.power := rfl
@[simp] theorem State.setChan_modrec (n : Nat) (c : Chan) : (s.setChan n c).modrec = s.modrec := rfl
@[simp] theorem State.setChan_ident (n : Nat) (c : Chan) : (s.setChan n c).ident = s.ident := rfl
@[simp] theorem State.setChan_dict (n : Nat) (c : Chan) : (s.setChan n c).dict = s.dict := rfl
@[simp] theorem State.setChan_ctr (n : Nat) (c : Chan) : (s.setChan n c).ctr = s.ctr := rfl
@[simp] theorem State.setChan_events (n : Nat) (c : Chan) : (s.setChan n c).events = s.events := rfl
@[simp] theorem State.setChan_evLast (n : Nat) (c : Chan) : (s.setChan n c).evLast = s.evLast := rfl
@[simp] theorem State.setChan_out (n : Nat) (c : Chan) : (s.setChan n c).out = s.out := rfl
@[simp] theorem State.setChan_draws (n : Nat) (c : Chan) : (s.setChan n c).draws = s.draws := rfl
@[simp] theorem State.setChan_clk (n : Nat) (c : Chan) : (s.setChan n c).clk = s.clk := rfl
@[simp] theorem State.setChan_sched (n : Nat) (c : Chan) : (s.setChan n c).sched = s.sched := rfl
@[simp] theorem State.setChan_fences (n : Nat) (c : Chan) : (s.setChan n c).fences = s.fences := rfl
@[simp] theorem State.setChan_bars (n : Nat) (c : Chan) : (s.setChan n c).bars = s.bars := rfl
@[simp] theorem State.setChan_cores (n : Nat) (c : Chan) : (s.setChan n c).cores = s.cores := rfl
@[simp] theorem State.setChan_engines (n : Nat) (c : Chan) : (s.setChan n c).engines = s.engines := rfl
@[simp] theorem State.setChan_eus (n : Nat) (c : Chan) : (s.setChan n c).eus = s.eus := rfl
@[simp] theorem State.setChan_emb (n : Nat) (c : Chan) : (s.setChan n c).emb = s.emb := rfl
@[simp] theorem State.setChan_mem (n : Nat) (c : Chan) : (s.setChan n c).mem = s.mem := rfl
@[simp] theorem State.setChan_t0 (n : Nat) (c : Chan) : (s.setChan n c).t0 = s.t0 := rfl
@[simp] theorem State.setChan_lmem (n : Nat) (c : Chan) : (s.setChan n c).lmem = s.lmem := rfl
@[simp] theorem State.setChan_t1 (n : Nat) (c : Chan) : (s.setChan n c).t1 = s.t1 := rfl
@[simp] theorem State.setChan_t2 (n : Nat) (c : Chan) : (s.setChan n c).t2 = s.t2 := rfl
@[simp] theorem State.setChan_pkt (n : Nat) (c : Chan) : (s.setChan n c).pkt = s.pkt := rfl
@[simp] theorem State.setChan_tree (n : Nat) (c : Chan) : (s.setChan n c).tree = s.tree := rfl
@[simp] theorem State.setChan_fab (n : Nat) (c : Chan) : (s.setChan n c).fab = s.fab := rfl
@[simp] theorem State.setChan_host (n : Nat) (c : Chan) : (s.setChan n c).host = s.host := rfl
@[simp] theorem State.setChan_dap (n : Nat) (c : Chan) : (s.setChan n c).dap = s.dap := rfl
@[simp] theorem State.setChan_boot (n : Nat) (c : Chan) : (s.setChan n c).boot = s.boot := rfl
@[simp] theorem State.setChan_bank (n : Nat) (c : Chan) : (s.setChan n c).bank = s.bank := rfl
@[simp] theorem State.setChan_coll (n : Nat) (c : Chan) : (s.setChan n c).coll = s.coll := rfl
@[simp] theorem State.setChan_net (n : Nat) (c : Chan) : (s.setChan n c).net = s.net := rfl
@[simp] theorem State.setChan_health (n : Nat) (c : Chan) : (s.setChan n c).health = s.health := rfl

/-! ### setLink -/

@[simp] theorem State.setLink_pending (l : Nat) (k : Link) : (s.setLink l k).pending = s.pending := rfl
@[simp] theorem State.setLink_variant (l : Nat) (k : Link) : (s.setLink l k).variant = s.variant := rfl
@[simp] theorem State.setLink_power (l : Nat) (k : Link) : (s.setLink l k).power = s.power := rfl
@[simp] theorem State.setLink_modrec (l : Nat) (k : Link) : (s.setLink l k).modrec = s.modrec := rfl
@[simp] theorem State.setLink_ident (l : Nat) (k : Link) : (s.setLink l k).ident = s.ident := rfl
@[simp] theorem State.setLink_dict (l : Nat) (k : Link) : (s.setLink l k).dict = s.dict := rfl
@[simp] theorem State.setLink_ctr (l : Nat) (k : Link) : (s.setLink l k).ctr = s.ctr := rfl
@[simp] theorem State.setLink_events (l : Nat) (k : Link) : (s.setLink l k).events = s.events := rfl
@[simp] theorem State.setLink_evLast (l : Nat) (k : Link) : (s.setLink l k).evLast = s.evLast := rfl
@[simp] theorem State.setLink_out (l : Nat) (k : Link) : (s.setLink l k).out = s.out := rfl
@[simp] theorem State.setLink_draws (l : Nat) (k : Link) : (s.setLink l k).draws = s.draws := rfl
@[simp] theorem State.setLink_clk (l : Nat) (k : Link) : (s.setLink l k).clk = s.clk := rfl
@[simp] theorem State.setLink_sched (l : Nat) (k : Link) : (s.setLink l k).sched = s.sched := rfl
@[simp] theorem State.setLink_fences (l : Nat) (k : Link) : (s.setLink l k).fences = s.fences := rfl
@[simp] theorem State.setLink_bars (l : Nat) (k : Link) : (s.setLink l k).bars = s.bars := rfl
@[simp] theorem State.setLink_cores (l : Nat) (k : Link) : (s.setLink l k).cores = s.cores := rfl
@[simp] theorem State.setLink_engines (l : Nat) (k : Link) : (s.setLink l k).engines = s.engines := rfl
@[simp] theorem State.setLink_chans (l : Nat) (k : Link) : (s.setLink l k).chans = s.chans := rfl
@[simp] theorem State.setLink_eus (l : Nat) (k : Link) : (s.setLink l k).eus = s.eus := rfl
@[simp] theorem State.setLink_emb (l : Nat) (k : Link) : (s.setLink l k).emb = s.emb := rfl
@[simp] theorem State.setLink_mem (l : Nat) (k : Link) : (s.setLink l k).mem = s.mem := rfl
@[simp] theorem State.setLink_t0 (l : Nat) (k : Link) : (s.setLink l k).t0 = s.t0 := rfl
@[simp] theorem State.setLink_lmem (l : Nat) (k : Link) : (s.setLink l k).lmem = s.lmem := rfl
@[simp] theorem State.setLink_t1 (l : Nat) (k : Link) : (s.setLink l k).t1 = s.t1 := rfl
@[simp] theorem State.setLink_t2 (l : Nat) (k : Link) : (s.setLink l k).t2 = s.t2 := rfl
@[simp] theorem State.setLink_pkt (l : Nat) (k : Link) : (s.setLink l k).pkt = s.pkt := rfl
@[simp] theorem State.setLink_tree (l : Nat) (k : Link) : (s.setLink l k).tree = s.tree := rfl
@[simp] theorem State.setLink_host (l : Nat) (k : Link) : (s.setLink l k).host = s.host := rfl
@[simp] theorem State.setLink_dap (l : Nat) (k : Link) : (s.setLink l k).dap = s.dap := rfl
@[simp] theorem State.setLink_boot (l : Nat) (k : Link) : (s.setLink l k).boot = s.boot := rfl
@[simp] theorem State.setLink_bank (l : Nat) (k : Link) : (s.setLink l k).bank = s.bank := rfl
@[simp] theorem State.setLink_coll (l : Nat) (k : Link) : (s.setLink l k).coll = s.coll := rfl
@[simp] theorem State.setLink_net (l : Nat) (k : Link) : (s.setLink l k).net = s.net := rfl
@[simp] theorem State.setLink_health (l : Nat) (k : Link) : (s.setLink l k).health = s.health := rfl

/-! ### setMbx -/

@[simp] theorem State.setMbx_pending (w : Nat) (m : Mailbox) : (s.setMbx w m).pending = s.pending := rfl
@[simp] theorem State.setMbx_variant (w : Nat) (m : Mailbox) : (s.setMbx w m).variant = s.variant := rfl
@[simp] theorem State.setMbx_power (w : Nat) (m : Mailbox) : (s.setMbx w m).power = s.power := rfl
@[simp] theorem State.setMbx_modrec (w : Nat) (m : Mailbox) : (s.setMbx w m).modrec = s.modrec := rfl
@[simp] theorem State.setMbx_ident (w : Nat) (m : Mailbox) : (s.setMbx w m).ident = s.ident := rfl
@[simp] theorem State.setMbx_dict (w : Nat) (m : Mailbox) : (s.setMbx w m).dict = s.dict := rfl
@[simp] theorem State.setMbx_ctr (w : Nat) (m : Mailbox) : (s.setMbx w m).ctr = s.ctr := rfl
@[simp] theorem State.setMbx_events (w : Nat) (m : Mailbox) : (s.setMbx w m).events = s.events := rfl
@[simp] theorem State.setMbx_evLast (w : Nat) (m : Mailbox) : (s.setMbx w m).evLast = s.evLast := rfl
@[simp] theorem State.setMbx_out (w : Nat) (m : Mailbox) : (s.setMbx w m).out = s.out := rfl
@[simp] theorem State.setMbx_draws (w : Nat) (m : Mailbox) : (s.setMbx w m).draws = s.draws := rfl
@[simp] theorem State.setMbx_clk (w : Nat) (m : Mailbox) : (s.setMbx w m).clk = s.clk := rfl
@[simp] theorem State.setMbx_sched (w : Nat) (m : Mailbox) : (s.setMbx w m).sched = s.sched := rfl
@[simp] theorem State.setMbx_fences (w : Nat) (m : Mailbox) : (s.setMbx w m).fences = s.fences := rfl
@[simp] theorem State.setMbx_bars (w : Nat) (m : Mailbox) : (s.setMbx w m).bars = s.bars := rfl
@[simp] theorem State.setMbx_cores (w : Nat) (m : Mailbox) : (s.setMbx w m).cores = s.cores := rfl
@[simp] theorem State.setMbx_engines (w : Nat) (m : Mailbox) : (s.setMbx w m).engines = s.engines := rfl
@[simp] theorem State.setMbx_chans (w : Nat) (m : Mailbox) : (s.setMbx w m).chans = s.chans := rfl
@[simp] theorem State.setMbx_eus (w : Nat) (m : Mailbox) : (s.setMbx w m).eus = s.eus := rfl
@[simp] theorem State.setMbx_emb (w : Nat) (m : Mailbox) : (s.setMbx w m).emb = s.emb := rfl
@[simp] theorem State.setMbx_mem (w : Nat) (m : Mailbox) : (s.setMbx w m).mem = s.mem := rfl
@[simp] theorem State.setMbx_t0 (w : Nat) (m : Mailbox) : (s.setMbx w m).t0 = s.t0 := rfl
@[simp] theorem State.setMbx_lmem (w : Nat) (m : Mailbox) : (s.setMbx w m).lmem = s.lmem := rfl
@[simp] theorem State.setMbx_t1 (w : Nat) (m : Mailbox) : (s.setMbx w m).t1 = s.t1 := rfl
@[simp] theorem State.setMbx_t2 (w : Nat) (m : Mailbox) : (s.setMbx w m).t2 = s.t2 := rfl
@[simp] theorem State.setMbx_pkt (w : Nat) (m : Mailbox) : (s.setMbx w m).pkt = s.pkt := rfl
@[simp] theorem State.setMbx_tree (w : Nat) (m : Mailbox) : (s.setMbx w m).tree = s.tree := rfl
@[simp] theorem State.setMbx_fab (w : Nat) (m : Mailbox) : (s.setMbx w m).fab = s.fab := rfl
@[simp] theorem State.setMbx_dap (w : Nat) (m : Mailbox) : (s.setMbx w m).dap = s.dap := rfl
@[simp] theorem State.setMbx_boot (w : Nat) (m : Mailbox) : (s.setMbx w m).boot = s.boot := rfl
@[simp] theorem State.setMbx_bank (w : Nat) (m : Mailbox) : (s.setMbx w m).bank = s.bank := rfl
@[simp] theorem State.setMbx_coll (w : Nat) (m : Mailbox) : (s.setMbx w m).coll = s.coll := rfl
@[simp] theorem State.setMbx_net (w : Nat) (m : Mailbox) : (s.setMbx w m).net = s.net := rfl
@[simp] theorem State.setMbx_health (w : Nat) (m : Mailbox) : (s.setMbx w m).health = s.health := rfl

/-! ### setPort -/

@[simp] theorem State.setPort_pending (p : Nat) (x : EthPort) : (s.setPort p x).pending = s.pending := rfl
@[simp] theorem State.setPort_variant (p : Nat) (x : EthPort) : (s.setPort p x).variant = s.variant := rfl
@[simp] theorem State.setPort_power (p : Nat) (x : EthPort) : (s.setPort p x).power = s.power := rfl
@[simp] theorem State.setPort_modrec (p : Nat) (x : EthPort) : (s.setPort p x).modrec = s.modrec := rfl
@[simp] theorem State.setPort_ident (p : Nat) (x : EthPort) : (s.setPort p x).ident = s.ident := rfl
@[simp] theorem State.setPort_dict (p : Nat) (x : EthPort) : (s.setPort p x).dict = s.dict := rfl
@[simp] theorem State.setPort_ctr (p : Nat) (x : EthPort) : (s.setPort p x).ctr = s.ctr := rfl
@[simp] theorem State.setPort_events (p : Nat) (x : EthPort) : (s.setPort p x).events = s.events := rfl
@[simp] theorem State.setPort_evLast (p : Nat) (x : EthPort) : (s.setPort p x).evLast = s.evLast := rfl
@[simp] theorem State.setPort_out (p : Nat) (x : EthPort) : (s.setPort p x).out = s.out := rfl
@[simp] theorem State.setPort_draws (p : Nat) (x : EthPort) : (s.setPort p x).draws = s.draws := rfl
@[simp] theorem State.setPort_clk (p : Nat) (x : EthPort) : (s.setPort p x).clk = s.clk := rfl
@[simp] theorem State.setPort_sched (p : Nat) (x : EthPort) : (s.setPort p x).sched = s.sched := rfl
@[simp] theorem State.setPort_fences (p : Nat) (x : EthPort) : (s.setPort p x).fences = s.fences := rfl
@[simp] theorem State.setPort_bars (p : Nat) (x : EthPort) : (s.setPort p x).bars = s.bars := rfl
@[simp] theorem State.setPort_cores (p : Nat) (x : EthPort) : (s.setPort p x).cores = s.cores := rfl
@[simp] theorem State.setPort_engines (p : Nat) (x : EthPort) : (s.setPort p x).engines = s.engines := rfl
@[simp] theorem State.setPort_chans (p : Nat) (x : EthPort) : (s.setPort p x).chans = s.chans := rfl
@[simp] theorem State.setPort_eus (p : Nat) (x : EthPort) : (s.setPort p x).eus = s.eus := rfl
@[simp] theorem State.setPort_emb (p : Nat) (x : EthPort) : (s.setPort p x).emb = s.emb := rfl
@[simp] theorem State.setPort_mem (p : Nat) (x : EthPort) : (s.setPort p x).mem = s.mem := rfl
@[simp] theorem State.setPort_t0 (p : Nat) (x : EthPort) : (s.setPort p x).t0 = s.t0 := rfl
@[simp] theorem State.setPort_lmem (p : Nat) (x : EthPort) : (s.setPort p x).lmem = s.lmem := rfl
@[simp] theorem State.setPort_t1 (p : Nat) (x : EthPort) : (s.setPort p x).t1 = s.t1 := rfl
@[simp] theorem State.setPort_t2 (p : Nat) (x : EthPort) : (s.setPort p x).t2 = s.t2 := rfl
@[simp] theorem State.setPort_pkt (p : Nat) (x : EthPort) : (s.setPort p x).pkt = s.pkt := rfl
@[simp] theorem State.setPort_tree (p : Nat) (x : EthPort) : (s.setPort p x).tree = s.tree := rfl
@[simp] theorem State.setPort_fab (p : Nat) (x : EthPort) : (s.setPort p x).fab = s.fab := rfl
@[simp] theorem State.setPort_host (p : Nat) (x : EthPort) : (s.setPort p x).host = s.host := rfl
@[simp] theorem State.setPort_dap (p : Nat) (x : EthPort) : (s.setPort p x).dap = s.dap := rfl
@[simp] theorem State.setPort_boot (p : Nat) (x : EthPort) : (s.setPort p x).boot = s.boot := rfl
@[simp] theorem State.setPort_bank (p : Nat) (x : EthPort) : (s.setPort p x).bank = s.bank := rfl
@[simp] theorem State.setPort_coll (p : Nat) (x : EthPort) : (s.setPort p x).coll = s.coll := rfl
@[simp] theorem State.setPort_health (p : Nat) (x : EthPort) : (s.setPort p x).health = s.health := rfl

/-! ### setEgress -/

@[simp] theorem State.setEgress_pending (p tc : Nat) (l : List TxItem) : (s.setEgress p tc l).pending = s.pending := rfl
@[simp] theorem State.setEgress_variant (p tc : Nat) (l : List TxItem) : (s.setEgress p tc l).variant = s.variant := rfl
@[simp] theorem State.setEgress_power (p tc : Nat) (l : List TxItem) : (s.setEgress p tc l).power = s.power := rfl
@[simp] theorem State.setEgress_modrec (p tc : Nat) (l : List TxItem) : (s.setEgress p tc l).modrec = s.modrec := rfl
@[simp] theorem State.setEgress_ident (p tc : Nat) (l : List TxItem) : (s.setEgress p tc l).ident = s.ident := rfl
@[simp] theorem State.setEgress_dict (p tc : Nat) (l : List TxItem) : (s.setEgress p tc l).dict = s.dict := rfl
@[simp] theorem State.setEgress_ctr (p tc : Nat) (l : List TxItem) : (s.setEgress p tc l).ctr = s.ctr := rfl
@[simp] theorem State.setEgress_events (p tc : Nat) (l : List TxItem) : (s.setEgress p tc l).events = s.events := rfl
@[simp] theorem State.setEgress_evLast (p tc : Nat) (l : List TxItem) : (s.setEgress p tc l).evLast = s.evLast := rfl
@[simp] theorem State.setEgress_out (p tc : Nat) (l : List TxItem) : (s.setEgress p tc l).out = s.out := rfl
@[simp] theorem State.setEgress_draws (p tc : Nat) (l : List TxItem) : (s.setEgress p tc l).draws = s.draws := rfl
@[simp] theorem State.setEgress_clk (p tc : Nat) (l : List TxItem) : (s.setEgress p tc l).clk = s.clk := rfl
@[simp] theorem State.setEgress_sched (p tc : Nat) (l : List TxItem) : (s.setEgress p tc l).sched = s.sched := rfl
@[simp] theorem State.setEgress_fences (p tc : Nat) (l : List TxItem) : (s.setEgress p tc l).fences = s.fences := rfl
@[simp] theorem State.setEgress_bars (p tc : Nat) (l : List TxItem) : (s.setEgress p tc l).bars = s.bars := rfl
@[simp] theorem State.setEgress_cores (p tc : Nat) (l : List TxItem) : (s.setEgress p tc l).cores = s.cores := rfl
@[simp] theorem State.setEgress_engines (p tc : Nat) (l : List TxItem) : (s.setEgress p tc l).engines = s.engines := rfl
@[simp] theorem State.setEgress_chans (p tc : Nat) (l : List TxItem) : (s.setEgress p tc l).chans = s.chans := rfl
@[simp] theorem State.setEgress_eus (p tc : Nat) (l : List TxItem) : (s.setEgress p tc l).eus = s.eus := rfl
@[simp] theorem State.setEgress_emb (p tc : Nat) (l : List TxItem) : (s.setEgress p tc l).emb = s.emb := rfl
@[simp] theorem State.setEgress_mem (p tc : Nat) (l : List TxItem) : (s.setEgress p tc l).mem = s.mem := rfl
@[simp] theorem State.setEgress_t0 (p tc : Nat) (l : List TxItem) : (s.setEgress p tc l).t0 = s.t0 := rfl
@[simp] theorem State.setEgress_lmem (p tc : Nat) (l : List TxItem) : (s.setEgress p tc l).lmem = s.lmem := rfl
@[simp] theorem State.setEgress_t1 (p tc : Nat) (l : List TxItem) : (s.setEgress p tc l).t1 = s.t1 := rfl
@[simp] theorem State.setEgress_t2 (p tc : Nat) (l : List TxItem) : (s.setEgress p tc l).t2 = s.t2 := rfl
@[simp] theorem State.setEgress_pkt (p tc : Nat) (l : List TxItem) : (s.setEgress p tc l).pkt = s.pkt := rfl
@[simp] theorem State.setEgress_tree (p tc : Nat) (l : List TxItem) : (s.setEgress p tc l).tree = s.tree := rfl
@[simp] theorem State.setEgress_fab (p tc : Nat) (l : List TxItem) : (s.setEgress p tc l).fab = s.fab := rfl
@[simp] theorem State.setEgress_host (p tc : Nat) (l : List TxItem) : (s.setEgress p tc l).host = s.host := rfl
@[simp] theorem State.setEgress_dap (p tc : Nat) (l : List TxItem) : (s.setEgress p tc l).dap = s.dap := rfl
@[simp] theorem State.setEgress_boot (p tc : Nat) (l : List TxItem) : (s.setEgress p tc l).boot = s.boot := rfl
@[simp] theorem State.setEgress_bank (p tc : Nat) (l : List TxItem) : (s.setEgress p tc l).bank = s.bank := rfl
@[simp] theorem State.setEgress_coll (p tc : Nat) (l : List TxItem) : (s.setEgress p tc l).coll = s.coll := rfl
@[simp] theorem State.setEgress_health (p tc : Nat) (l : List TxItem) : (s.setEgress p tc l).health = s.health := rfl

/-! ### setQ -/

@[simp] theorem State.setQ_pending (q : Nat) (x : Option EthQ) : (s.setQ q x).pending = s.pending := rfl
@[simp] theorem State.setQ_variant (q : Nat) (x : Option EthQ) : (s.setQ q x).variant = s.variant := rfl
@[simp] theorem State.setQ_power (q : Nat) (x : Option EthQ) : (s.setQ q x).power = s.power := rfl
@[simp] theorem State.setQ_modrec (q : Nat) (x : Option EthQ) : (s.setQ q x).modrec = s.modrec := rfl
@[simp] theorem State.setQ_ident (q : Nat) (x : Option EthQ) : (s.setQ q x).ident = s.ident := rfl
@[simp] theorem State.setQ_dict (q : Nat) (x : Option EthQ) : (s.setQ q x).dict = s.dict := rfl
@[simp] theorem State.setQ_ctr (q : Nat) (x : Option EthQ) : (s.setQ q x).ctr = s.ctr := rfl
@[simp] theorem State.setQ_events (q : Nat) (x : Option EthQ) : (s.setQ q x).events = s.events := rfl
@[simp] theorem State.setQ_evLast (q : Nat) (x : Option EthQ) : (s.setQ q x).evLast = s.evLast := rfl
@[simp] theorem State.setQ_out (q : Nat) (x : Option EthQ) : (s.setQ q x).out = s.out := rfl
@[simp] theorem State.setQ_draws (q : Nat) (x : Option EthQ) : (s.setQ q x).draws = s.draws := rfl
@[simp] theorem State.setQ_clk (q : Nat) (x : Option EthQ) : (s.setQ q x).clk = s.clk := rfl
@[simp] theorem State.setQ_sched (q : Nat) (x : Option EthQ) : (s.setQ q x).sched = s.sched := rfl
@[simp] theorem State.setQ_fences (q : Nat) (x : Option EthQ) : (s.setQ q x).fences = s.fences := rfl
@[simp] theorem State.setQ_bars (q : Nat) (x : Option EthQ) : (s.setQ q x).bars = s.bars := rfl
@[simp] theorem State.setQ_cores (q : Nat) (x : Option EthQ) : (s.setQ q x).cores = s.cores := rfl
@[simp] theorem State.setQ_engines (q : Nat) (x : Option EthQ) : (s.setQ q x).engines = s.engines := rfl
@[simp] theorem State.setQ_chans (q : Nat) (x : Option EthQ) : (s.setQ q x).chans = s.chans := rfl
@[simp] theorem State.setQ_eus (q : Nat) (x : Option EthQ) : (s.setQ q x).eus = s.eus := rfl
@[simp] theorem State.setQ_emb (q : Nat) (x : Option EthQ) : (s.setQ q x).emb = s.emb := rfl
@[simp] theorem State.setQ_mem (q : Nat) (x : Option EthQ) : (s.setQ q x).mem = s.mem := rfl
@[simp] theorem State.setQ_t0 (q : Nat) (x : Option EthQ) : (s.setQ q x).t0 = s.t0 := rfl
@[simp] theorem State.setQ_lmem (q : Nat) (x : Option EthQ) : (s.setQ q x).lmem = s.lmem := rfl
@[simp] theorem State.setQ_t1 (q : Nat) (x : Option EthQ) : (s.setQ q x).t1 = s.t1 := rfl
@[simp] theorem State.setQ_t2 (q : Nat) (x : Option EthQ) : (s.setQ q x).t2 = s.t2 := rfl
@[simp] theorem State.setQ_pkt (q : Nat) (x : Option EthQ) : (s.setQ q x).pkt = s.pkt := rfl
@[simp] theorem State.setQ_tree (q : Nat) (x : Option EthQ) : (s.setQ q x).tree = s.tree := rfl
@[simp] theorem State.setQ_fab (q : Nat) (x : Option EthQ) : (s.setQ q x).fab = s.fab := rfl
@[simp] theorem State.setQ_host (q : Nat) (x : Option EthQ) : (s.setQ q x).host = s.host := rfl
@[simp] theorem State.setQ_dap (q : Nat) (x : Option EthQ) : (s.setQ q x).dap = s.dap := rfl
@[simp] theorem State.setQ_boot (q : Nat) (x : Option EthQ) : (s.setQ q x).boot = s.boot := rfl
@[simp] theorem State.setQ_bank (q : Nat) (x : Option EthQ) : (s.setQ q x).bank = s.bank := rfl
@[simp] theorem State.setQ_coll (q : Nat) (x : Option EthQ) : (s.setQ q x).coll = s.coll := rfl
@[simp] theorem State.setQ_health (q : Nat) (x : Option EthQ) : (s.setQ q x).health = s.health := rfl

/-! ### setClass2 -/

@[simp] theorem State.setClass2_pending (ct dir : Nat) (b : Class2) : (s.setClass2 ct dir b).pending = s.pending := rfl
@[simp] theorem State.setClass2_variant (ct dir : Nat) (b : Class2) : (s.setClass2 ct dir b).variant = s.variant := rfl
@[simp] theorem State.setClass2_power (ct dir : Nat) (b : Class2) : (s.setClass2 ct dir b).power = s.power := rfl
@[simp] theorem State.setClass2_modrec (ct dir : Nat) (b : Class2) : (s.setClass2 ct dir b).modrec = s.modrec := rfl
@[simp] theorem State.setClass2_ident (ct dir : Nat) (b : Class2) : (s.setClass2 ct dir b).ident = s.ident := rfl
@[simp] theorem State.setClass2_dict (ct dir : Nat) (b : Class2) : (s.setClass2 ct dir b).dict = s.dict := rfl
@[simp] theorem State.setClass2_ctr (ct dir : Nat) (b : Class2) : (s.setClass2 ct dir b).ctr = s.ctr := rfl
@[simp] theorem State.setClass2_events (ct dir : Nat) (b : Class2) : (s.setClass2 ct dir b).events = s.events := rfl
@[simp] theorem State.setClass2_evLast (ct dir : Nat) (b : Class2) : (s.setClass2 ct dir b).evLast = s.evLast := rfl
@[simp] theorem State.setClass2_out (ct dir : Nat) (b : Class2) : (s.setClass2 ct dir b).out = s.out := rfl
@[simp] theorem State.setClass2_draws (ct dir : Nat) (b : Class2) : (s.setClass2 ct dir b).draws = s.draws := rfl
@[simp] theorem State.setClass2_clk (ct dir : Nat) (b : Class2) : (s.setClass2 ct dir b).clk = s.clk := rfl
@[simp] theorem State.setClass2_sched (ct dir : Nat) (b : Class2) : (s.setClass2 ct dir b).sched = s.sched := rfl
@[simp] theorem State.setClass2_fences (ct dir : Nat) (b : Class2) : (s.setClass2 ct dir b).fences = s.fences := rfl
@[simp] theorem State.setClass2_bars (ct dir : Nat) (b : Class2) : (s.setClass2 ct dir b).bars = s.bars := rfl
@[simp] theorem State.setClass2_cores (ct dir : Nat) (b : Class2) : (s.setClass2 ct dir b).cores = s.cores := rfl
@[simp] theorem State.setClass2_engines (ct dir : Nat) (b : Class2) : (s.setClass2 ct dir b).engines = s.engines := rfl
@[simp] theorem State.setClass2_chans (ct dir : Nat) (b : Class2) : (s.setClass2 ct dir b).chans = s.chans := rfl
@[simp] theorem State.setClass2_eus (ct dir : Nat) (b : Class2) : (s.setClass2 ct dir b).eus = s.eus := rfl
@[simp] theorem State.setClass2_emb (ct dir : Nat) (b : Class2) : (s.setClass2 ct dir b).emb = s.emb := rfl
@[simp] theorem State.setClass2_mem (ct dir : Nat) (b : Class2) : (s.setClass2 ct dir b).mem = s.mem := rfl
@[simp] theorem State.setClass2_t0 (ct dir : Nat) (b : Class2) : (s.setClass2 ct dir b).t0 = s.t0 := rfl
@[simp] theorem State.setClass2_lmem (ct dir : Nat) (b : Class2) : (s.setClass2 ct dir b).lmem = s.lmem := rfl
@[simp] theorem State.setClass2_t1 (ct dir : Nat) (b : Class2) : (s.setClass2 ct dir b).t1 = s.t1 := rfl
@[simp] theorem State.setClass2_t2 (ct dir : Nat) (b : Class2) : (s.setClass2 ct dir b).t2 = s.t2 := rfl
@[simp] theorem State.setClass2_pkt (ct dir : Nat) (b : Class2) : (s.setClass2 ct dir b).pkt = s.pkt := rfl
@[simp] theorem State.setClass2_tree (ct dir : Nat) (b : Class2) : (s.setClass2 ct dir b).tree = s.tree := rfl
@[simp] theorem State.setClass2_fab (ct dir : Nat) (b : Class2) : (s.setClass2 ct dir b).fab = s.fab := rfl
@[simp] theorem State.setClass2_host (ct dir : Nat) (b : Class2) : (s.setClass2 ct dir b).host = s.host := rfl
@[simp] theorem State.setClass2_dap (ct dir : Nat) (b : Class2) : (s.setClass2 ct dir b).dap = s.dap := rfl
@[simp] theorem State.setClass2_boot (ct dir : Nat) (b : Class2) : (s.setClass2 ct dir b).boot = s.boot := rfl
@[simp] theorem State.setClass2_bank (ct dir : Nat) (b : Class2) : (s.setClass2 ct dir b).bank = s.bank := rfl
@[simp] theorem State.setClass2_coll (ct dir : Nat) (b : Class2) : (s.setClass2 ct dir b).coll = s.coll := rfl
@[simp] theorem State.setClass2_health (ct dir : Nat) (b : Class2) : (s.setClass2 ct dir b).health = s.health := rfl

/-! ### setReq -/

@[simp] theorem State.setReq_pending (r : ShotReq) : (s.setReq r).pending = s.pending := rfl
@[simp] theorem State.setReq_variant (r : ShotReq) : (s.setReq r).variant = s.variant := rfl
@[simp] theorem State.setReq_power (r : ShotReq) : (s.setReq r).power = s.power := rfl
@[simp] theorem State.setReq_modrec (r : ShotReq) : (s.setReq r).modrec = s.modrec := rfl
@[simp] theorem State.setReq_ident (r : ShotReq) : (s.setReq r).ident = s.ident := rfl
@[simp] theorem State.setReq_dict (r : ShotReq) : (s.setReq r).dict = s.dict := rfl
@[simp] theorem State.setReq_ctr (r : ShotReq) : (s.setReq r).ctr = s.ctr := rfl
@[simp] theorem State.setReq_events (r : ShotReq) : (s.setReq r).events = s.events := rfl
@[simp] theorem State.setReq_evLast (r : ShotReq) : (s.setReq r).evLast = s.evLast := rfl
@[simp] theorem State.setReq_out (r : ShotReq) : (s.setReq r).out = s.out := rfl
@[simp] theorem State.setReq_draws (r : ShotReq) : (s.setReq r).draws = s.draws := rfl
@[simp] theorem State.setReq_clk (r : ShotReq) : (s.setReq r).clk = s.clk := rfl
@[simp] theorem State.setReq_sched (r : ShotReq) : (s.setReq r).sched = s.sched := rfl
@[simp] theorem State.setReq_fences (r : ShotReq) : (s.setReq r).fences = s.fences := rfl
@[simp] theorem State.setReq_bars (r : ShotReq) : (s.setReq r).bars = s.bars := rfl
@[simp] theorem State.setReq_cores (r : ShotReq) : (s.setReq r).cores = s.cores := rfl
@[simp] theorem State.setReq_engines (r : ShotReq) : (s.setReq r).engines = s.engines := rfl
@[simp] theorem State.setReq_chans (r : ShotReq) : (s.setReq r).chans = s.chans := rfl
@[simp] theorem State.setReq_eus (r : ShotReq) : (s.setReq r).eus = s.eus := rfl
@[simp] theorem State.setReq_emb (r : ShotReq) : (s.setReq r).emb = s.emb := rfl
@[simp] theorem State.setReq_mem (r : ShotReq) : (s.setReq r).mem = s.mem := rfl
@[simp] theorem State.setReq_t0 (r : ShotReq) : (s.setReq r).t0 = s.t0 := rfl
@[simp] theorem State.setReq_lmem (r : ShotReq) : (s.setReq r).lmem = s.lmem := rfl
@[simp] theorem State.setReq_t1 (r : ShotReq) : (s.setReq r).t1 = s.t1 := rfl
@[simp] theorem State.setReq_t2 (r : ShotReq) : (s.setReq r).t2 = s.t2 := rfl
@[simp] theorem State.setReq_pkt (r : ShotReq) : (s.setReq r).pkt = s.pkt := rfl
@[simp] theorem State.setReq_tree (r : ShotReq) : (s.setReq r).tree = s.tree := rfl
@[simp] theorem State.setReq_fab (r : ShotReq) : (s.setReq r).fab = s.fab := rfl
@[simp] theorem State.setReq_host (r : ShotReq) : (s.setReq r).host = s.host := rfl
@[simp] theorem State.setReq_dap (r : ShotReq) : (s.setReq r).dap = s.dap := rfl
@[simp] theorem State.setReq_boot (r : ShotReq) : (s.setReq r).boot = s.boot := rfl
@[simp] theorem State.setReq_bank (r : ShotReq) : (s.setReq r).bank = s.bank := rfl
@[simp] theorem State.setReq_coll (r : ShotReq) : (s.setReq r).coll = s.coll := rfl
@[simp] theorem State.setReq_health (r : ShotReq) : (s.setReq r).health = s.health := rfl

/-! ### setOwn -/

@[simp] theorem State.setOwn_pending (w : Who) (r : Requestee) : (s.setOwn w r).pending = s.pending := rfl
@[simp] theorem State.setOwn_variant (w : Who) (r : Requestee) : (s.setOwn w r).variant = s.variant := rfl
@[simp] theorem State.setOwn_power (w : Who) (r : Requestee) : (s.setOwn w r).power = s.power := rfl
@[simp] theorem State.setOwn_modrec (w : Who) (r : Requestee) : (s.setOwn w r).modrec = s.modrec := rfl
@[simp] theorem State.setOwn_ident (w : Who) (r : Requestee) : (s.setOwn w r).ident = s.ident := rfl
@[simp] theorem State.setOwn_dict (w : Who) (r : Requestee) : (s.setOwn w r).dict = s.dict := rfl
@[simp] theorem State.setOwn_ctr (w : Who) (r : Requestee) : (s.setOwn w r).ctr = s.ctr := rfl
@[simp] theorem State.setOwn_events (w : Who) (r : Requestee) : (s.setOwn w r).events = s.events := rfl
@[simp] theorem State.setOwn_evLast (w : Who) (r : Requestee) : (s.setOwn w r).evLast = s.evLast := rfl
@[simp] theorem State.setOwn_out (w : Who) (r : Requestee) : (s.setOwn w r).out = s.out := rfl
@[simp] theorem State.setOwn_draws (w : Who) (r : Requestee) : (s.setOwn w r).draws = s.draws := rfl
@[simp] theorem State.setOwn_clk (w : Who) (r : Requestee) : (s.setOwn w r).clk = s.clk := rfl
@[simp] theorem State.setOwn_sched (w : Who) (r : Requestee) : (s.setOwn w r).sched = s.sched := rfl
@[simp] theorem State.setOwn_fences (w : Who) (r : Requestee) : (s.setOwn w r).fences = s.fences := rfl
@[simp] theorem State.setOwn_bars (w : Who) (r : Requestee) : (s.setOwn w r).bars = s.bars := rfl
@[simp] theorem State.setOwn_cores (w : Who) (r : Requestee) : (s.setOwn w r).cores = s.cores := rfl
@[simp] theorem State.setOwn_engines (w : Who) (r : Requestee) : (s.setOwn w r).engines = s.engines := rfl
@[simp] theorem State.setOwn_chans (w : Who) (r : Requestee) : (s.setOwn w r).chans = s.chans := rfl
@[simp] theorem State.setOwn_eus (w : Who) (r : Requestee) : (s.setOwn w r).eus = s.eus := rfl
@[simp] theorem State.setOwn_emb (w : Who) (r : Requestee) : (s.setOwn w r).emb = s.emb := rfl
@[simp] theorem State.setOwn_mem (w : Who) (r : Requestee) : (s.setOwn w r).mem = s.mem := rfl
@[simp] theorem State.setOwn_t0 (w : Who) (r : Requestee) : (s.setOwn w r).t0 = s.t0 := rfl
@[simp] theorem State.setOwn_lmem (w : Who) (r : Requestee) : (s.setOwn w r).lmem = s.lmem := rfl
@[simp] theorem State.setOwn_t1 (w : Who) (r : Requestee) : (s.setOwn w r).t1 = s.t1 := rfl
@[simp] theorem State.setOwn_t2 (w : Who) (r : Requestee) : (s.setOwn w r).t2 = s.t2 := rfl
@[simp] theorem State.setOwn_pkt (w : Who) (r : Requestee) : (s.setOwn w r).pkt = s.pkt := rfl
@[simp] theorem State.setOwn_tree (w : Who) (r : Requestee) : (s.setOwn w r).tree = s.tree := rfl
@[simp] theorem State.setOwn_fab (w : Who) (r : Requestee) : (s.setOwn w r).fab = s.fab := rfl
@[simp] theorem State.setOwn_host (w : Who) (r : Requestee) : (s.setOwn w r).host = s.host := rfl
@[simp] theorem State.setOwn_boot (w : Who) (r : Requestee) : (s.setOwn w r).boot = s.boot := rfl
@[simp] theorem State.setOwn_bank (w : Who) (r : Requestee) : (s.setOwn w r).bank = s.bank := rfl
@[simp] theorem State.setOwn_coll (w : Who) (r : Requestee) : (s.setOwn w r).coll = s.coll := rfl
@[simp] theorem State.setOwn_net (w : Who) (r : Requestee) : (s.setOwn w r).net = s.net := rfl
@[simp] theorem State.setOwn_health (w : Who) (r : Requestee) : (s.setOwn w r).health = s.health := rfl

/-! ### resumeCores -/

@[simp] theorem State.resumeCores_pending (p : Nat → Core → Bool) : (s.resumeCores p).pending = s.pending := rfl
@[simp] theorem State.resumeCores_variant (p : Nat → Core → Bool) : (s.resumeCores p).variant = s.variant := rfl
@[simp] theorem State.resumeCores_power (p : Nat → Core → Bool) : (s.resumeCores p).power = s.power := rfl
@[simp] theorem State.resumeCores_modrec (p : Nat → Core → Bool) : (s.resumeCores p).modrec = s.modrec := rfl
@[simp] theorem State.resumeCores_ident (p : Nat → Core → Bool) : (s.resumeCores p).ident = s.ident := rfl
@[simp] theorem State.resumeCores_dict (p : Nat → Core → Bool) : (s.resumeCores p).dict = s.dict := rfl
@[simp] theorem State.resumeCores_ctr (p : Nat → Core → Bool) : (s.resumeCores p).ctr = s.ctr := rfl
@[simp] theorem State.resumeCores_events (p : Nat → Core → Bool) : (s.resumeCores p).events = s.events := rfl
@[simp] theorem State.resumeCores_evLast (p : Nat → Core → Bool) : (s.resumeCores p).evLast = s.evLast := rfl
@[simp] theorem State.resumeCores_out (p : Nat → Core → Bool) : (s.resumeCores p).out = s.out := rfl
@[simp] theorem State.resumeCores_draws (p : Nat → Core → Bool) : (s.resumeCores p).draws = s.draws := rfl
@[simp] theorem State.resumeCores_clk (p : Nat → Core → Bool) : (s.resumeCores p).clk = s.clk := rfl
@[simp] theorem State.resumeCores_sched (p : Nat → Core → Bool) : (s.resumeCores p).sched = s.sched := rfl
@[simp] theorem State.resumeCores_fences (p : Nat → Core → Bool) : (s.resumeCores p).fences = s.fences := rfl
@[simp] theorem State.resumeCores_bars (p : Nat → Core → Bool) : (s.resumeCores p).bars = s.bars := rfl
@[simp] theorem State.resumeCores_engines (p : Nat → Core → Bool) : (s.resumeCores p).engines = s.engines := rfl
@[simp] theorem State.resumeCores_chans (p : Nat → Core → Bool) : (s.resumeCores p).chans = s.chans := rfl
@[simp] theorem State.resumeCores_eus (p : Nat → Core → Bool) : (s.resumeCores p).eus = s.eus := rfl
@[simp] theorem State.resumeCores_emb (p : Nat → Core → Bool) : (s.resumeCores p).emb = s.emb := rfl
@[simp] theorem State.resumeCores_mem (p : Nat → Core → Bool) : (s.resumeCores p).mem = s.mem := rfl
@[simp] theorem State.resumeCores_t0 (p : Nat → Core → Bool) : (s.resumeCores p).t0 = s.t0 := rfl
@[simp] theorem State.resumeCores_lmem (p : Nat → Core → Bool) : (s.resumeCores p).lmem = s.lmem := rfl
@[simp] theorem State.resumeCores_t1 (p : Nat → Core → Bool) : (s.resumeCores p).t1 = s.t1 := rfl
@[simp] theorem State.resumeCores_t2 (p : Nat → Core → Bool) : (s.resumeCores p).t2 = s.t2 := rfl
@[simp] theorem State.resumeCores_pkt (p : Nat → Core → Bool) : (s.resumeCores p).pkt = s.pkt := rfl
@[simp] theorem State.resumeCores_tree (p : Nat → Core → Bool) : (s.resumeCores p).tree = s.tree := rfl
@[simp] theorem State.resumeCores_fab (p : Nat → Core → Bool) : (s.resumeCores p).fab = s.fab := rfl
@[simp] theorem State.resumeCores_host (p : Nat → Core → Bool) : (s.resumeCores p).host = s.host := rfl
@[simp] theorem State.resumeCores_dap (p : Nat → Core → Bool) : (s.resumeCores p).dap = s.dap := rfl
@[simp] theorem State.resumeCores_boot (p : Nat → Core → Bool) : (s.resumeCores p).boot = s.boot := rfl
@[simp] theorem State.resumeCores_bank (p : Nat → Core → Bool) : (s.resumeCores p).bank = s.bank := rfl
@[simp] theorem State.resumeCores_coll (p : Nat → Core → Bool) : (s.resumeCores p).coll = s.coll := rfl
@[simp] theorem State.resumeCores_net (p : Nat → Core → Bool) : (s.resumeCores p).net = s.net := rfl
@[simp] theorem State.resumeCores_health (p : Nat → Core → Bool) : (s.resumeCores p).health = s.health := rfl

/-! ### countArith -/

@[simp] theorem State.countArith_pending (i : Nat) (a : ArithCnt) : (s.countArith i a).pending = s.pending := by
  simp only [State.countArith, State.count_pending]
@[simp] theorem State.countArith_variant (i : Nat) (a : ArithCnt) : (s.countArith i a).variant = s.variant := by
  simp only [State.countArith, State.count_variant]
@[simp] theorem State.countArith_power (i : Nat) (a : ArithCnt) : (s.countArith i a).power = s.power := by
  simp only [State.countArith, State.count_power]
@[simp] theorem State.countArith_modrec (i : Nat) (a : ArithCnt) : (s.countArith i a).modrec = s.modrec := by
  simp only [State.countArith, State.count_modrec]
@[simp] theorem State.countArith_ident (i : Nat) (a : ArithCnt) : (s.countArith i a).ident = s.ident := by
  simp only [State.countArith, State.count_ident]
@[simp] theorem State.countArith_dict (i : Nat) (a : ArithCnt) : (s.countArith i a).dict = s.dict := by
  simp only [State.countArith, State.count_dict]
@[simp] theorem State.countArith_events (i : Nat) (a : ArithCnt) : (s.countArith i a).events = s.events := by
  simp only [State.countArith, State.count_events]
@[simp] theorem State.countArith_evLast (i : Nat) (a : ArithCnt) : (s.countArith i a).evLast = s.evLast := by
  simp only [State.countArith, State.count_evLast]
@[simp] theorem State.countArith_out (i : Nat) (a : ArithCnt) : (s.countArith i a).out = s.out := by
  simp only [State.countArith, State.count_out]
@[simp] theorem State.countArith_draws (i : Nat) (a : ArithCnt) : (s.countArith i a).draws = s.draws := by
  simp only [State.countArith, State.count_draws]
@[simp] theorem State.countArith_clk (i : Nat) (a : ArithCnt) : (s.countArith i a).clk = s.clk := by
  simp only [State.countArith, State.count_clk]
@[simp] theorem State.countArith_sched (i : Nat) (a : ArithCnt) : (s.countArith i a).sched = s.sched := by
  simp only [State.countArith, State.count_sched]
@[simp] theorem State.countArith_fences (i : Nat) (a : ArithCnt) : (s.countArith i a).fences = s.fences := by
  simp only [State.countArith, State.count_fences]
@[simp] theorem State.countArith_bars (i : Nat) (a : ArithCnt) : (s.countArith i a).bars = s.bars := by
  simp only [State.countArith, State.count_bars]
@[simp] theorem State.countArith_cores (i : Nat) (a : ArithCnt) : (s.countArith i a).cores = s.cores := by
  simp only [State.countArith, State.count_cores]
@[simp] theorem State.countArith_engines (i : Nat) (a : ArithCnt) : (s.countArith i a).engines = s.engines := by
  simp only [State.countArith, State.count_engines]
@[simp] theorem State.countArith_chans (i : Nat) (a : ArithCnt) : (s.countArith i a).chans = s.chans := by
  simp only [State.countArith, State.count_chans]
@[simp] theorem State.countArith_eus (i : Nat) (a : ArithCnt) : (s.countArith i a).eus = s.eus := by
  simp only [State.countArith, State.count_eus]
@[simp] theorem State.countArith_emb (i : Nat) (a : ArithCnt) : (s.countArith i a).emb = s.emb := by
  simp only [State.countArith, State.count_emb]
@[simp] theorem State.countArith_mem (i : Nat) (a : ArithCnt) : (s.countArith i a).mem = s.mem := by
  simp only [State.countArith, State.count_mem]
@[simp] theorem State.countArith_t0 (i : Nat) (a : ArithCnt) : (s.countArith i a).t0 = s.t0 := by
  simp only [State.countArith, State.count_t0]
@[simp] theorem State.countArith_lmem (i : Nat) (a : ArithCnt) : (s.countArith i a).lmem = s.lmem := by
  simp only [State.countArith, State.count_lmem]
@[simp] theorem State.countArith_t1 (i : Nat) (a : ArithCnt) : (s.countArith i a).t1 = s.t1 := by
  simp only [State.countArith, State.count_t1]
@[simp] theorem State.countArith_t2 (i : Nat) (a : ArithCnt) : (s.countArith i a).t2 = s.t2 := by
  simp only [State.countArith, State.count_t2]
@[simp] theorem State.countArith_pkt (i : Nat) (a : ArithCnt) : (s.countArith i a).pkt = s.pkt := by
  simp only [State.countArith, State.count_pkt]
@[simp] theorem State.countArith_tree (i : Nat) (a : ArithCnt) : (s.countArith i a).tree = s.tree := by
  simp only [State.countArith, State.count_tree]
@[simp] theorem State.countArith_fab (i : Nat) (a : ArithCnt) : (s.countArith i a).fab = s.fab := by
  simp only [State.countArith, State.count_fab]
@[simp] theorem State.countArith_host (i : Nat) (a : ArithCnt) : (s.countArith i a).host = s.host := by
  simp only [State.countArith, State.count_host]
@[simp] theorem State.countArith_dap (i : Nat) (a : ArithCnt) : (s.countArith i a).dap = s.dap := by
  simp only [State.countArith, State.count_dap]
@[simp] theorem State.countArith_boot (i : Nat) (a : ArithCnt) : (s.countArith i a).boot = s.boot := by
  simp only [State.countArith, State.count_boot]
@[simp] theorem State.countArith_bank (i : Nat) (a : ArithCnt) : (s.countArith i a).bank = s.bank := by
  simp only [State.countArith, State.count_bank]
@[simp] theorem State.countArith_coll (i : Nat) (a : ArithCnt) : (s.countArith i a).coll = s.coll := by
  simp only [State.countArith, State.count_coll]
@[simp] theorem State.countArith_net (i : Nat) (a : ArithCnt) : (s.countArith i a).net = s.net := by
  simp only [State.countArith, State.count_net]
@[simp] theorem State.countArith_health (i : Nat) (a : ArithCnt) : (s.countArith i a).health = s.health := by
  simp only [State.countArith, State.count_health]

end Sys2Proof.Machine
end

