-- ==== Sys2Proof/Laws/Table.lean ====
section
/-! SUPPORT. Sparse tables and byte memories: what a read gives after a write, and that every operation keeps the canonical
form. -/

namespace Sys2Proof.Machine

variable {α : Type} [DecidableEq α]

/-! ### The bound of a canonical table -/

theorem Tab.above_mono {d : α} {t : Tab α} : ∀ {lo hi : Nat}, hi ≤ lo → Tab.above d lo t = true → Tab.above d hi t = true := by
  cases t with
  | nil => intros; rfl
  | cons e r => intro lo hi h hw; simp [Tab.above] at hw ⊢; exact ⟨⟨by omega, hw.1.2⟩, hw.2⟩

theorem Tab.get_below {d : α} {t : Tab α} : ∀ {lo k : Nat}, Tab.above d lo t = true → k < lo → Tab.get d t k = d := by
  cases t with
  | nil => intros; rfl
  | cons e r =>
    obtain ⟨a, x⟩ := e
    intro lo k hw hk
    simp [Tab.above] at hw
    have h1 : ¬ a = k := by omega
    have h2 : k < a := by omega
    simp [Tab.get, h1, h2]

/-! ### Reads after a write -/

theorem Tab.get_put_same_above {d : α} (v : α) (k : Nat) : ∀ (t : Tab α) {lo : Nat}, Tab.above d lo t = true →
    Tab.get d (Tab.put d t k v) k = v
  | [], _, _ => by by_cases h : v = d <;> simp [Tab.put, Tab.get, h]
  | (a, x) :: r, lo, hw => by
    simp [Tab.above] at hw
    by_cases h1 : k < a
    · have h3 : ¬ a = k := by omega
      by_cases h2 : v = d <;> simp [Tab.put, Tab.get, h1, h2, h3]
    · by_cases h2 : a = k
      · subst h2
        by_cases h3 : v = d
        · have := Tab.get_below (k := a) hw.2 (by omega)
          simp [Tab.put, h3, this]
        · simp [Tab.put, Tab.get, h3]
      · have h3 : ¬ k < a := h1
        simp [Tab.put, Tab.get, h1, h2, Tab.get_put_same_above v k r hw.2]

theorem Tab.get_put_same {d : α} {t : Tab α} (hw : Tab.wf d t = true) (k : Nat) (v : α) :
    Tab.get d (Tab.put d t k v) k = v := Tab.get_put_same_above v k t hw

/-- A value that is not the default reads back whatever the table's form. -/
theorem Tab.get_put_ne_default {d : α} {v : α} (hv : v ≠ d) (k : Nat) : ∀ t : Tab α, Tab.get d (Tab.put d t k v) k = v
  | [] => by simp [Tab.put, Tab.get, hv]
  | (a, x) :: r => by
    by_cases h1 : k < a
    · simp [Tab.put, Tab.get, h1, hv]
    · by_cases h2 : a = k
      · simp [Tab.put, Tab.get, h2, hv]
      · simp [Tab.put, Tab.get, h1, h2, Tab.get_put_ne_default hv k r]

theorem Tab.get_put_other_above {d : α} (v : α) {k q : Nat} (hq : q ≠ k) : ∀ (t : Tab α) {lo : Nat},
    Tab.above d lo t = true → Tab.get d (Tab.put d t k v) q = Tab.get d t q
  | [], _, _ => by
    by_cases h : v = d
    · simp [Tab.put, h]
    · have : ¬ k = q := fun e => hq e.symm
      simp [Tab.put, Tab.get, h, this]
  | (a, x) :: r, lo, hw => by
    simp [Tab.above] at hw
    have hkq : ¬ k = q := fun e => hq e.symm
    by_cases h1 : k < a
    · by_cases h2 : v = d
      · simp [Tab.put, h1, h2]
      · by_cases h3 : q < k
        · have h4 : ¬ a = q := by omega
          have h5 : q < a := by omega
          simp [Tab.put, Tab.get, h1, h2, hkq, h3, h4, h5]
        · simp [Tab.put, Tab.get, h1, h2, hkq, h3]
    · by_cases h2 : a = k
      · subst h2
        by_cases h3 : v = d
        · by_cases h4 : q < a
          · have := Tab.get_below (k := q) hw.2 (by omega)
            simp [Tab.put, Tab.get, h3, h4, hkq, this]
          · simp [Tab.put, Tab.get, h3, h4, hkq]
        · simp [Tab.put, Tab.get, h3, hkq]
      · have ih := Tab.get_put_other_above v hq r hw.2
        simp [Tab.put, Tab.get, h1, h2, ih]

theorem Tab.get_put_other {d : α} {t : Tab α} (hw : Tab.wf d t = true) {k q : Nat} (v : α) (hq : q ≠ k) :
    Tab.get d (Tab.put d t k v) q = Tab.get d t q := Tab.get_put_other_above v hq t hw

/-- A write of a value that is not the default leaves every other key's reading, whatever the table's form. -/
theorem Tab.get_put_other_ne_default {d : α} {v : α} (hv : v ≠ d) {k q : Nat} (hq : q ≠ k) : ∀ t : Tab α,
    Tab.get d (Tab.put d t k v) q = Tab.get d t q
  | [] => by
    have : ¬ k = q := fun e => hq e.symm
    simp [Tab.put, Tab.get, hv, this]
  | (a, x) :: r => by
    have hkq : ¬ k = q := fun e => hq e.symm
    by_cases h1 : k < a
    · by_cases h3 : q < k
      · have h4 : ¬ a = q := by omega
        have h5 : q < a := by omega
        simp [Tab.put, Tab.get, h1, hv, hkq, h3, h4, h5]
      · simp [Tab.put, Tab.get, h1, hv, hkq, h3]
    · by_cases h2 : a = k
      · subst h2; simp [Tab.put, Tab.get, hv, hkq]
      · simp [Tab.put, Tab.get, h1, h2, Tab.get_put_other_ne_default hv hq r]

/-! ### The canonical form kept -/

theorem Tab.above_put {d : α} (k : Nat) (v : α) : ∀ (t : Tab α) {lo : Nat}, lo ≤ k → Tab.above d lo t = true →
    Tab.above d lo (Tab.put d t k v) = true
  | [], lo, hk, _ => by by_cases h : v = d <;> simp [Tab.put, Tab.above, h, hk]
  | (a, x) :: r, lo, hk, hw => by
    have hw0 := hw
    simp [Tab.above] at hw
    by_cases h1 : k < a
    · by_cases h2 : v = d
      · simpa [Tab.put, h1, h2] using hw0
      · simp [Tab.put, Tab.above, h1, h2, hk, hw] <;> omega
    · by_cases h2 : a = k
      · subst h2
        by_cases h3 : v = d
        · simp [Tab.put, h3]; exact Tab.above_mono (by omega) hw.2
        · simp [Tab.put, Tab.above, h3, hw]
      · simp [Tab.put, Tab.above, h1, h2, hw]
        exact Tab.above_put k v r (by omega) hw.2

theorem Tab.wf_put {d : α} {t : Tab α} (k : Nat) (v : α) (hw : Tab.wf d t = true) : Tab.wf d (Tab.put d t k v) = true :=
  Tab.above_put k v t (Nat.zero_le _) hw

theorem Tab.above_filter {d : α} (p : Nat × α → Bool) : ∀ (t : Tab α) {lo : Nat}, Tab.above d lo t = true →
    Tab.above d lo (t.filter p) = true
  | [], _, _ => rfl
  | (a, x) :: r, lo, hw => by
    simp [Tab.above] at hw
    have ih := Tab.above_filter p r hw.2
    by_cases h : p (a, x) = true
    · simp [List.filter, h, Tab.above, hw, ih]
    · simp [List.filter, h]; exact Tab.above_mono (by omega) ih

theorem Tab.wf_filter {d : α} {t : Tab α} (p : Nat × α → Bool) (hw : Tab.wf d t = true) : Tab.wf d (t.filter p) = true :=
  Tab.above_filter p t hw

theorem Tab.wf_nil {d : α} : Tab.wf d ([] : Tab α) = true := rfl

/-! ### Byte memories -/

theorem Memory.wf_write {m : Memory} (a : Nat) (b : Byte) (h : m.wf = true) : (m.write a b).wf = true := Tab.wf_put a b h

theorem Memory.wf_writeN : ∀ (bs : List Byte) {m : Memory} (a : Nat), m.wf = true → (m.writeN a bs).wf = true
  | [], _, _, h => h
  | b :: r, _, a, h => Memory.wf_writeN r (a + 1) (Memory.wf_write a b h)

theorem Memory.wf_zeroRange {m : Memory} (a n : Nat) (h : m.wf = true) : (m.zeroRange a n).wf = true := Tab.wf_filter _ h

theorem Memory.read_write_same {m : Memory} (a : Nat) (b : Byte) (h : m.wf = true) : (m.write a b).read a = b :=
  Tab.get_put_same h a b

theorem Memory.read_write_other {m : Memory} {a x : Nat} (b : Byte) (h : m.wf = true) (hx : x ≠ a) :
    (m.write a b).read x = m.read x := Tab.get_put_other h b hx

/-- A byte outside the bytes written reads as before. -/
theorem Memory.read_writeN_outside : ∀ (bs : List Byte) {m : Memory} {a x : Nat}, m.wf = true →
    (x < a ∨ a + bs.length ≤ x) → (m.writeN a bs).read x = m.read x
  | [], _, _, _, _, _ => rfl
  | b :: r, m, a, x, h, hx => by
    simp only [List.length_cons] at hx
    have h1 : (Memory.writeN (m.write a b) (a + 1) r).read x = (m.write a b).read x :=
      Memory.read_writeN_outside r (Memory.wf_write a b h) (by omega)
    simp only [Memory.writeN, h1]
    exact Memory.read_write_other b h (by omega)

/-- A byte inside the bytes written reads as the byte written there. -/
theorem Memory.read_writeN_inside : ∀ (bs : List Byte) {m : Memory} {a i : Nat}, m.wf = true → i < bs.length →
    (m.writeN a bs).read (a + i) = bs.getD i 0#8
  | [], _, _, _, _, hi => by simp at hi
  | b :: r, m, a, 0, h, _ => by
    have h1 : (Memory.writeN (m.write a b) (a + 1) r).read a = (m.write a b).read a :=
      Memory.read_writeN_outside r (Memory.wf_write a b h) (by omega)
    simp only [Memory.writeN, Nat.add_zero, h1]
    exact Memory.read_write_same a b h
  | b :: r, m, a, i + 1, h, hi => by
    have h1 := Memory.read_writeN_inside r (a := a + 1) (i := i) (Memory.wf_write a b h) (by simpa using hi)
    have h2 : a + 1 + i = a + (i + 1) := by omega
    rw [h2] at h1
    simp only [Memory.writeN, h1, List.getD_cons_succ]

end Sys2Proof.Machine
end

