-- ==== Sys2Proof/Laws/Steward.lean ====
section
/-! SUPPORT. What the operations that every steward core instruction shares can do: when a core runs, its registers, an
exception. -/

namespace Sys2Proof.Machine

/-! ### Registers -/

theorem Core.getX_zero (c : Core) : c.getX 0#5 = 0#64 := by simp [Core.getX]

theorem Core.setX_zero (c : Core) (w : Word64) : c.setX 0#5 w = c := by simp [Core.setX]

theorem Core.getX_setX (c : Core) (r q : BitVec 5) (w : Word64) :
    (c.setX r w).getX q = if q = r ∧ r ≠ 0#5 then w else c.getX q := by
  by_cases hr : r = 0#5
  · simp [Core.setX, hr]
  · by_cases hq : q = r
    · subst hq; simp [Core.setX, Core.getX, hr]
    · have h1 : ¬ r.toNat = q.toNat := fun h => hq (BitVec.eq_of_toNat_eq h.symm)
      by_cases h0 : q = 0#5
      · simp [Core.getX, hr, h0]; intro h; exact absurd h.symm hr
      · simp [Core.setX, Core.getX, hr, hq, h0, h1]

theorem Core.getP_setP (c : Core) (r q : BitVec 3) (w : Word64) :
    (c.setP r w).getP q = if q = r ∧ r ≠ 0#3 then w else c.getP q := by
  by_cases hr : r = 0#3
  · simp [Core.setP, hr]
  · by_cases hq : q = r
    · subst hq; simp [Core.setP, Core.getP, hr]
    · have h1 : ¬ r.toNat = q.toNat := fun h => hq (BitVec.eq_of_toNat_eq h.symm)
      by_cases h0 : q = 0#3
      · simp [Core.getP, hr, h0]; intro h; exact absurd h.symm hr
      · simp [Core.setP, Core.getP, hr, hq, h0, h1]

theorem Core.getV_setV (c : Core) (r q : BitVec 5) (w : Vec) :
    (c.setV r w).getV q = if q = r then w else c.getV q := by
  by_cases hq : q = r
  · subst hq; simp [Core.setV, Core.getV]
  · have h1 : ¬ r.toNat = q.toNat := fun h => hq (BitVec.eq_of_toNat_eq h.symm)
    simp [Core.setV, Core.getV, hq, h1]

@[simp] theorem Core.setX_mode (c : Core) (r : BitVec 5) (w : Word64) : (c.setX r w).mode = c.mode := by
  unfold Core.setX; split <;> rfl

@[simp] theorem Core.setV_mode (c : Core) (r : BitVec 5) (w : Vec) : (c.setV r w).mode = c.mode := rfl

@[simp] theorem Core.setP_mode (c : Core) (r : BitVec 3) (w : Word64) : (c.setP r w).mode = c.mode := by
  unfold Core.setP; split <;> rfl

/-! ### Cores in the state -/

/-- A core put with a mode other than HALTED reads back, and no other core changes. -/
theorem State.core_setCore_live (s : State) (k : Nat) {c : Core} (h : c.mode ≠ .halted) : (s.setCore k c).core k = c :=
  Tab.get_put_ne_default (fun e => h (by rw [e])) k s.cores

theorem State.core_setCore (s : State) (k : Nat) (c : Core) (h : Tab.wf {} s.cores = true) : (s.setCore k c).core k = c :=
  Tab.get_put_same h k c

theorem State.core_setCore_other (s : State) {k j : Nat} (c : Core) (h : Tab.wf {} s.cores = true) (hj : j ≠ k) :
    (s.setCore k c).core j = s.core j := Tab.get_put_other h c hj

/-! ### What an instruction does -/

/-- On a core that runs, an instruction is issued and its effect taken on the core's registers. -/
theorem State.onCore_runs (s : State) (k : BitVec 8) (f : State → Core → State) (h : s.runs k.toNat) :
    s.onCore k f = f (s.issued k.toNat) (s.core k.toNat) := by
  obtain ⟨h1, h2⟩ := h
  have h3 : (s.coreOk k.toNat && (s.core k.toNat).mode == .running) = true := by rw [h1, h2]; rfl
  rw [State.onCore, if_pos h3]; rfl

/-- A core that does not run issues nothing. -/
theorem State.onCore_still (s : State) (k : BitVec 8) (f : State → Core → State) (h : ¬ s.runs k.toNat) : s.onCore k f = s := by
  simp only [State.onCore]
  split
  · rename_i g; simp at g; exact absurd g h
  · rfl

/-- A register instruction on a core that runs completes with its new registers, or takes its exception. -/
theorem State.onRegs_runs (s : State) (k : BitVec 8) (f : Core → Except Exc Core) (h : s.runs k.toNat) :
    s.onRegs k f = match f (s.core k.toNat) with
      | .ok c => (s.issued k.toNat).retire k.toNat c
      | .error e => (s.issued k.toNat).takeExc k.toNat e := by
  rw [State.onRegs, State.onCore_runs s k _ h]
  cases f (s.core k.toNat) <;> rfl

/-- A scalar instruction on a core that runs writes DST. -/
theorem State.aluA_runs (s : State) (o : OpA) (f : Word64 → Word64 → Word64) (h : s.runs o.core.toNat) :
    Host.Outcome.next (s.aluA o f) = s.done o.core.toNat ((s.core o.core.toNat).setX o.dst
      (f ((s.core o.core.toNat).getX o.src1) ((s.core o.core.toNat).getX o.src2))) := by
  rw [State.aluA, State.onRegs_runs s _ _ h]; rfl

/-- An immediate instruction on a core that runs writes DST. -/
theorem State.aluI_runs (s : State) (o : OpI) (f : Word64 → Half → Word64) (h : s.runs o.core.toNat) :
    Host.Outcome.next (s.aluI o f) = s.done o.core.toNat ((s.core o.core.toNat).setX o.dst
      (f ((s.core o.core.toNat).getX o.src1) o.imm)) := by
  rw [State.aluI, State.onRegs_runs s _ _ h]; rfl

end Sys2Proof.Machine
end

