-- ==== Sys2Proof/Tests/Slice0.lean ====
section
/-! SUPPORT. Tests: the spec's worked examples, a refused ill-formed term for each check of WellFormed, and for every
statement with hypotheses a state and operands that meet them together. -/

namespace Sys2Proof.Tests

open Sys2Proof Sys2Proof.Machine

set_option Elab.async false

/-! ### The spec's worked examples -/

/-- FP32 0.3 to E4M3 (the example of R62): RNE gives 0x2A, SR with r = 0x3000 gives 0x29 and with r = 0xA000 0x2A. -/
theorem test_convert_e4m3 :
    (cvtToFmt true .e4m3 .rne (unpack .fp32 0x3E99999A)).val = 0x2A ∧
      (cvtToFmt true .e4m3 (.sr 0x3000) (unpack .fp32 0x3E99999A)).val = 0x29 ∧
      (cvtToFmt true .e4m3 (.sr 0xA000) (unpack .fp32 0x3E99999A)).val = 0x2A := by decide +kernel

/-- The RQ8 row of file 02's example: scale 0x2005 and zero point −64 code 1.5 as 127, −0.5 as −128 and 0 as −64. -/
theorem test_rq8_row :
    (rq8Elem 0x2005 (-64) 0x3FC00000).val = 0x7F ∧ (rq8Elem 0x2005 (-64) 0xBF000000).val = 0x80 ∧
      (rq8Elem 0x2005 (-64) 0).val = 0xC0 ∧ rq8Dec 0x2005 (-64) 0xC0 = 0 := by decide +kernel

/-- The row's scale and zero point themselves (R51). -/
theorem test_rq8_scale :
    (rq8Bytes (rq8Encode (0xBF000000 :: 0x3FC00000 :: List.replicate 14 0)).val).take 4 = [0x05#8, 0x20#8, 0xC0#8, 0#8] := by
  decide +kernel

/-- The BS16 hop of file 02's example: 36,145 at k = 1 rounds to the even 18,072, and −22,048 becomes −11,024. -/
theorem test_bs16_hop :
    let b := (bsHopAdd ⟨130, false, false, 2, [30001, -20000] ++ List.replicate 30 0⟩
      ([some 0x40400000, some 0xBF800000] ++ List.replicate 30 (some 0))).val
    b.elems.take 2 = [18072, -11024] ∧ (bsBytes b).take 2 = [0x83#8, 0x83#8] := by decide +kernel

/-- The second escalation of file 09's example: 28,674 at E = 130 and 9.5 give 24,065 at E = 131, which decodes to
FP32 0x41BC0200. -/
theorem test_bs16_example_pod :
    (bsQuantize 129 0x40C00800).val = some 24580 ∧ (bsQuantize 129 0x40A00200).val = some 20481 ∧
      ((bsHopAdd ⟨130, false, false, 1, 28674 :: List.replicate 31 0⟩
        (some 0x41180000 :: List.replicate 31 (some 0))).val.elems.headD 0) = 24065 ∧
      bsDecode 131 24065 = 0x41BC0200 := by decide +kernel

/-- The ADAGRAD step of file 08's example: a = 0.5625; w becomes 0.99 or 1.01, in BF16 0x3F7D and 0x3F81. -/
theorem test_adagrad_step :
    let t : TblDesc := { tblDesc 0#512 with elem := 1, dim := 16, opt := 3, eps := 0x322BCC77 }
    let r := optRow t 0x3CF5C28F (List.replicate 16 0x3F800000)
      ((List.range 16).map (fun j => if j % 2 = 0 then 0x3E800000 else 0xBE800000)) { a := 0x3F000000 }
    r.2.1.a = 0x3F100000 ∧ (cvtFromF32 true .rne 1 (r.1.getD 0 0)).val = 0x3F7D ∧
      (cvtFromF32 true .rne 1 (r.1.getD 1 0)).val = 0x3F81 := by decide +kernel

/-- The record layout of file 08's example: V = 32, S = 4 and REC = 64. -/
theorem test_record_length :
    let t : TblDesc := { tblDesc 0#512 with elem := 1, dim := 16, opt := 3 }
    t.valueLen = 32 ∧ t.stateLen = 4 ∧ t.recLen = 64 := by decide +kernel

/-- A node of file 14's worked tree: test f(feat) ≤ threshold, LSTART, LWIDTH, DEFAULT_LEFT. -/
def node (feat thresh lstart lwidth left : Nat) : Nat :=
  feat + thresh * 2 ^ 12 + lstart * 2 ^ 44 + lwidth * 2 ^ 52 + left * 2 ^ 60

/-- The tree store with file 14's worked tree at node 0 and its leaves −0.75, 0.25, 1.5, −0.5 and 2.0 at leaf 0. -/
def workedTree : State :=
  let nodes := [node 0 0x40200000 0 2 0, node 1 0x41200000 0 1 1, node 2 0 2 1 0, node 0 0x40E00000 3 1 1]
  let leaves := [0xBF400000, 0x3E800000, 0x3FC00000, 0xBF000000, 0x40000000]
  let m := Memory.writeN [] 0 (nodes.flatMap (leBytes 8))
  { State.reset with tree := Memory.writeN m 33554432 (leaves.flatMap (leBytes 4)) }

/-- Features by number. -/
def feats (l : List Feature) (i : Nat) : Feature := l.getD i .missing

/-- Records A to D of file 14's worked tree leave at leaves 2, 3, 4 and 1. -/
theorem test_worked_tree :
    node 0 0x40200000 0 2 0 = 0x0020040200000000 ∧ node 0 0x40E00000 3 1 1 = 0x1010340E00000000 ∧
      workedTree.exitLeaf 0 5 (feats [.fp 0x40A00000, .fp 0x7FC00000, .fp 0x80000000]) = some 2 ∧
      workedTree.exitLeaf 0 5 (feats [.fp 0x40A00000, .fp 0x40400000, .missing]) = some 3 ∧
      workedTree.exitLeaf 0 5 (feats [.fp 0x7F800000, .fp 0x40400000, .fp 0x40400000]) = some 4 ∧
      workedTree.exitLeaf 0 5 (feats [.fp 0x40200000, .fp 0x41300000, .fp 0x40400000]) = some 1 ∧
      workedTree.leaf 2 = 0x3FC00000 := by decide +kernel

/-- LOGISTIC of 0 is 0.5, in FP16 0x3800 (file 14's worked tree). -/
theorem test_logistic_link : linkScores 1 1 0 [0] = [0x3F000000] ∧ scoreBytes true 0x3F000000 = [0x38#8, 0x00#8] := by
  decide +kernel

/-- Entry strides of file 13's example: O = 3 with F16 gives U = 12 at RB = 8 and 40 at RB = 40. -/
theorem test_entry_stride : strideOf 3 true 8 = 12 ∧ strideOf 3 true 40 = 40 := by decide +kernel

/-- The reply schedule of file 13's example: S = 472 NCLK at 200 Gbit/s with Q = 8. -/
theorem test_reply_schedule : schedLat 4 8 = 472 * 64 := by decide +kernel

/-- File 05's example word 0x00231132 spells VFMA v4, v2, v3 under p1 on FP32 lanes, and 0x00031041 ADD x1, x2, x3 (Tables
5.4 and 5.5); the zero word spells nothing (R141). -/
theorem test_core_words (e : CoreEnv) :
    decodeWord e 0x00231132#32 = some (.vfma ⟨e.core, 4, 2, 3, 0, false, 1⟩) ∧
      decodeWord e 0x00031041#32 = some (.add ⟨e.core, 1, 2, 3⟩) ∧ decodeWord e 0#32 = none := ⟨rfl, rfl, rfl⟩

/-- No row of the table gives a word bits, so no word spells a command. -/
theorem test_no_word_decodes : decodeTableWord 32 0x00231132 = none ∧ decodeTableWord 0 0 = none := by decide +kernel

/-! ### Ill-formed commands -/

/-- Each check of WellFormed refuses a command with one operand outside what the spec gives it: more phases than links, a
beacon of 31 bytes, engine 72, an access of 3 bytes, DMA tile 3, tier 3, CREMA line 262,144, unit
16, slot 2^40, rank 16,384, direction 6, a frame of 15 header bytes, port 193, the instant 102,400, queue 5,120, source 8,256, mailbox
4, reads and writes of BAR4 of no byte, endpoint 5, a rail monitor that is none, 192 readings, a reading of 32,768 and a
heartbeat of 2^48. -/
theorem test_ill_formed_refused :
    (Instr.tickEdge ⟨List.replicate 49 0⟩).wf = false ∧ (Instr.beaconReceive ⟨0, List.replicate 31 0, 0⟩).wf = false ∧
      (Instr.meGemm ⟨72, {}⟩).wf = false ∧ (Instr.registerWrite ⟨.mc, .unit 0, 0, 3, 0⟩).wf = false ∧
      (Instr.dmaBurstComplete ⟨3, 0, {}, {}⟩).wf = false ∧
      (Instr.memRepairLate ⟨3, 0⟩).wf = false ∧ (Instr.cremaCacheScrub ⟨1, some 262144⟩).wf = false ∧
      (Instr.euSync ⟨16⟩).wf = false ∧ (Instr.lookupResponse ⟨0, 0, 0, 0, 2 ^ 40, {}⟩).wf = false ∧
      (Instr.collPacketReceive ⟨16384, [], 1, {}, {}⟩).wf = false ∧
      (Instr.linkTrain ⟨0, 15, 15, true, 0, 0, 6, List.replicate 16 (0, 0)⟩).wf = false ∧
      (Instr.fabDataReceive ⟨0, List.replicate 15 1, .coll [], [], 0⟩).wf = false := by decide +kernel

theorem test_ill_formed_refused_too :
    (Instr.replyStart ⟨193, 0⟩).wf = false ∧ (Instr.replyStart ⟨0, 102400⟩).wf = false ∧
      (Instr.hostCplTimeout ⟨5120, false⟩).wf = false ∧ (Instr.msixHoldoffExpire ⟨8256⟩).wf = false ∧ (Instr.mbxGo ⟨4⟩).wf = false ∧
      (Instr.bar4Read ⟨0, 0, 0, {}⟩).wf = false ∧ (Instr.bar4Write ⟨0, 0, []⟩).wf = false ∧
      (Instr.hostReset (.endpoint 5 true)).wf = false ∧ (Instr.railTimeout ⟨112⟩).wf = false ∧
      (Instr.monitorSample ⟨List.replicate 192 0⟩).wf = false ∧
      (Instr.monitorSample ⟨List.replicate 192 0 ++ [32768]⟩).wf = false ∧
      (Instr.tileHeartbeatMiss ⟨0, 2 ^ 48⟩).wf = false := by decide +kernel

/-- A payload of 65,521 bytes. -/
theorem test_long_payload_refused (b : List Byte) (h : b.length = 65521) : (Instr.objFree ⟨0, 0, b⟩).wf = false := by
  show mbxLenOk b = false
  simp [mbxLenOk, h]

/-! ### Witnesses of the statements' hypotheses

`test_met_X` holds, clause by clause, the hypotheses of `Obligations.X` at named states and operands. -/

/-- RUN, with partition 0 enabled and owning every unit of tile 0, all fences, receive queues 0 to 255, 768 MiB of each
scratch and 1 GiB of T1 and T2. -/
def wit : State :=
  let s : State := { State.reset with
    power := .on, boot := { State.reset.boot with state := 8 }, host := { State.reset.host with pt := [(0, .enabled)] } }
  [(0x310003, leBytes 32 (2 ^ 256 - 1)), (0x310004, leBytes 9 (2 ^ 72 - 1)), (0x310005, leBytes 2 (2 ^ 16 - 1)),
    (0x310006, leBytes 8 (2 ^ 64 - 1)), (0x310007, leBytes 8 (2 ^ 64 - 1)), (0x310008, leBytes 4 (2 ^ 32 - 1)),
    (0x310009, leBytes 8 (768 * 2 ^ 16 + 768 * 2 ^ 48)), (0x31000A, leBytes 8 (1024 * 2 ^ 32)),
    (0x31000B, leBytes 8 (1024 * 2 ^ 32)), (0x31000C, leBytes 4 (1024 * 2 ^ 16)),
    (0x31000D, leBytes 4 (256 * 2 ^ 16))].foldl (fun s e => s.dput e.1 e.2) s

/-- Vectors with numbers, infinities, zeros and NaNs among their lanes. -/
def vecA : Vec :=
  0x3F8000007FC12345FF8000017F80000080000000C0490FDB40490FDB000000013F8CCCCD42C80000C2C80000800000007FFFFFFF0102030405060708#512
def vecB : Vec :=
  0x400000003F80000040400000FF800000000000004049000000490FDBFFFFFFFF3F0CCCCD42C8800042C8000000000000000000200102030405060708#512

/-- The registers of core 0: FP64 numbers, a local address 64, a stride 4, misaligned 3, 0x8000, an address past local
memory; predicates of several and of one active lane; lane offsets 8, 16, … in v8. -/
def regs : Core :=
  { ({} : Core) with
    mode := .running
    x := (Vector.replicate 32 0#64).set 5 0x3FF8000000000000#64 |>.set 6 0xFFF0000000000000#64 |>.set 8 64#64 |>.set 9 4#64
      |>.set 11 3#64 |>.set 12 0x8000#64 |>.set 13 0x40000#64
    v := (Vector.replicate 32 0#512).set 5 vecA |>.set 6 vecB |>.set 7 vecA
      |>.set 8 (ofLanes 32 ((List.range 16).map (fun i => 8 * i + 8)))
    p := (Vector.replicate 8 0#64).set 1 0x5#64 |>.set 2 0xFFFF00FF#64 |>.set 3 1#64
    pc := 0x100#18 }

/-- `wit` with core 0 RUNNING and bytes in its local memory. -/
def running : State := { wit.setCore 0 regs with lmem := [(64, 1), (65, 2), (67, 0x80), (72, 0xFF), (79, 0x40)] }

/-- The same with the cores in no partition. -/
def others : State := running.dput 0x310003 (leBytes 32 0)

/-- A 512-bit word with values at bit positions. -/
def word (fs : List (Nat × Nat)) : Vec := BitVec.ofNat 512 (fs.foldl (fun a f => a + f.2 * 2 ^ f.1) 0)

namespace Cores

def opA (d a b : BitVec 5) : OpA := { core := 0, dst := d, src1 := a, src2 := b }
def opI (d a : BitVec 5) (i : Half) : OpI := { core := 0, dst := d, src1 := a, imm := i }
def opJ : OpJ := { core := 0, dst := 4, imm := 0x123456 }
def opB : OpB := { core := 0, src1 := 5, src2 := 6, imm := 0xFFF0 }
def opL (a : BitVec 5) (i : Half) : OpL := { core := 0, dst := 4, src1 := a, imm := i, lce := 1, ecc := {} }
def opM (a : BitVec 5) : OpAmo := { core := 0, dst := 5, src1 := a, src2 := 6, lce := 1, ecc := {} }
def opCsr (n : Nat) : OpCsr := { core := 0, dst := 4, src1 := 6, num := BitVec.ofNat 12 n }
/-- Core 0 with rounding code 5, and waiting, in a handler, with mailbox words, at a barrier of n with m arrived. -/
def frm5 : State := running.setCore 0 { regs with frm := 5 }
def inTrap : State := running.setCore 0 { regs with tvec := 0x80, inh := true, epc := 0x44 }
def withTvec : State := running.setCore 0 { regs with tvec := 0x80 }
def waitsFor (w : Wait) : State := running.setCore 0 { regs with mode := .waiting, wait := some w, waitLimit := 5, waited := 5 }
def mail (n : Nat) : State := running.setCore 0 { regs with mbx := (List.range n).map (BitVec.ofNat 64) }
def atBar (n m : Nat) : State := running.setBar 0 3 ⟨n, m⟩
def faulted : State := running.setCore 0 { regs with mode := .faulted, pcInit := 5 }
def barW (r : Requester) : BarOp := { req := r, tile := 0, b := 3, value := 128 }
def opCtl (r : Requester) (v : Nat) : CoreCtlOp := ⟨r, 0, BitVec.ofNat 32 v⟩
def opReg (a : Nat) : RegWriteOp := ⟨.core 0, .unit 0, BitVec.ofNat 32 a, 4, 0xFFFFFFFF⟩
def onCore : OpK := ⟨0⟩
def illegal : OpIllegal := ⟨0, 0⟩

theorem test_met_ScalarInstructions :
    (running.coreOk 0 = true ∧ (running.core 0).mode = CoreMode.running) := by
  decide +kernel

theorem test_met_BranchesAndJumps :
    (running.coreOk 0 = true ∧ (running.core 0).mode = CoreMode.running) := by
  decide +kernel

theorem test_met_ScalarFloat :
    ((running.coreOk 0 = true ∧ (running.core 0).mode = CoreMode.running) ∧ ((running.core 0).rnd = some Rnd.rne)) ∧
    ((frm5.coreOk 0 = true ∧ (frm5.core 0).mode = CoreMode.running) ∧ (3 < (frm5.core 0).frm.toNat)) ∧
    ((2047 = 2047 ∧ 1 ≠ 0 ∨ 1023 = 2047 ∧ 2251799813685248 ≠ 0)) ∧
    ((2047 = 2047 ∧ 1 ≠ 0) ∧ (¬(1023 = 2047 ∧ 2251799813685248 ≠ 0))) ∧
    ((¬(1023 = 2047 ∧ 2251799813685248 ≠ 0)) ∧ (2047 = 2047 ∧ 2251799813685248 ≠ 0)) :=
  by and_intros <;> decide +kernel

theorem test_met_CoreLoads :
    ((running.coreOk 0 = true ∧ (running.core 0).mode = CoreMode.running) ∧ ((opL 8 0).ecc = { }) ∧
      ((running.core 0).mAddr (opL 8 0).src1 (opL 8 0).imm 1 % 1 = 0 ∧
      (running.core 0).mAddr (opL 8 0).src1 (opL 8 0).imm 1 + 1 ≤ 262144 ∧
      running.lmPoisoned (0 + (running.core 0).mAddr (opL 8 0).src1 (opL 8 0).imm 1) 1 = false)) ∧
    ((running.coreOk 0 = true ∧ (running.core 0).mode = CoreMode.running) ∧ ((opL 8 0).ecc = { }) ∧
      ((running.core 0).mAddr (opL 8 0).src1 (opL 8 0).imm 2 % 2 = 0 ∧
      (running.core 0).mAddr (opL 8 0).src1 (opL 8 0).imm 2 + 2 ≤ 262144 ∧
      running.lmPoisoned (0 + (running.core 0).mAddr (opL 8 0).src1 (opL 8 0).imm 2) 2 = false)) ∧
    ((running.coreOk 0 = true ∧ (running.core 0).mode = CoreMode.running) ∧ ((opL 8 0).ecc = { }) ∧
      ((running.core 0).mAddr (opL 8 0).src1 (opL 8 0).imm 4 % 4 = 0 ∧
      (running.core 0).mAddr (opL 8 0).src1 (opL 8 0).imm 4 + 4 ≤ 262144 ∧
      running.lmPoisoned (0 + (running.core 0).mAddr (opL 8 0).src1 (opL 8 0).imm 4) 4 = false)) ∧
    ((running.coreOk 0 = true ∧ (running.core 0).mode = CoreMode.running) ∧ ((opL 8 0).ecc = { }) ∧
      ((running.core 0).mAddr (opL 8 0).src1 (opL 8 0).imm 8 % 8 = 0 ∧
      (running.core 0).mAddr (opL 8 0).src1 (opL 8 0).imm 8 + 8 ≤ 262144 ∧
      running.lmPoisoned (0 + (running.core 0).mAddr (opL 8 0).src1 (opL 8 0).imm 8) 8 = false)) ∧
    ((running.coreOk 0 = true ∧ (running.core 0).mode = CoreMode.running) ∧ ((opL 8 0).ecc = { }) ∧
      ((running.core 0).mAddr (opL 8 0).src1 (opL 8 0).imm 64 % 64 = 0 ∧
      (running.core 0).mAddr (opL 8 0).src1 (opL 8 0).imm 64 + 64 ≤ 262144 ∧
      running.lmPoisoned (0 + (running.core 0).mAddr (opL 8 0).src1 (opL 8 0).imm 64) 64 = false)) ∧
    ((running.coreOk 0 = true ∧ (running.core 0).mode = CoreMode.running) ∧
      ((running.core 0).mAddr (opL 11 1).src1 (opL 11 1).imm 2 % 2 ≠ 0)) ∧
    ((running.coreOk 0 = true ∧ (running.core 0).mode = CoreMode.running) ∧
      ((running.core 0).mAddr (opL 11 1).src1 (opL 11 1).imm 4 % 4 ≠ 0)) ∧
    ((running.coreOk 0 = true ∧ (running.core 0).mode = CoreMode.running) ∧
      ((running.core 0).mAddr (opL 11 1).src1 (opL 11 1).imm 8 % 8 ≠ 0)) ∧
    ((running.coreOk 0 = true ∧ (running.core 0).mode = CoreMode.running) ∧
      ((running.core 0).mAddr (opL 11 1).src1 (opL 11 1).imm 64 % 64 ≠ 0)) ∧
    ((running.coreOk 0 = true ∧ (running.core 0).mode = CoreMode.running) ∧
      ((running.core 0).mAddr (opI 5 11 0).src1 (opI 5 11 0).imm 2 % 2 ≠ 0)) ∧
    ((running.coreOk 0 = true ∧ (running.core 0).mode = CoreMode.running) ∧
      ((running.core 0).mAddr (opI 5 11 0).src1 (opI 5 11 0).imm 4 % 4 ≠ 0)) ∧
    ((running.coreOk 0 = true ∧ (running.core 0).mode = CoreMode.running) ∧
      ((running.core 0).mAddr (opI 5 11 0).src1 (opI 5 11 0).imm 8 % 8 ≠ 0)) ∧
    ((running.coreOk 0 = true ∧ (running.core 0).mode = CoreMode.running) ∧
      ((running.core 0).mAddr (opI 5 11 0).src1 (opI 5 11 0).imm 64 % 64 ≠ 0)) ∧
    ((running.coreOk 0 = true ∧ (running.core 0).mode = CoreMode.running) ∧
      (BitVec.toNat ((running.core 0).getX (opM 13).src1) % 8 = 0) ∧
      (262144 ≤ BitVec.toNat ((running.core 0).getX (opM 13).src1)) ∧
      (BitVec.toNat ((running.core 0).getX (opM 13).src1) < 16777216)) :=
  by and_intros <;> decide +kernel

/-- A base register with an address of scratch; a poisoned granule there; a partition without scratch. -/
def atScratch (a : Nat) : State := running.setCore 0 { regs with x := regs.x.set 8 (BitVec.ofNat 64 a) }
def poisonedLine : State := { atScratch 0x100000040 with mem := { wit.mem with poison := [⟨⟨0, 0⟩, 3, false, false, false, false⟩] } }
def noScratch : State := (atScratch 0x100000040).dput 0x310009 (leBytes 8 0)
def oneTile : State := { atScratch 0x200000040 with variant := .s }

theorem test_met_CoreLoads_more :
    (((atScratch 4294967360).coreOk (opL 8 0).core.toNat = true ∧ ((atScratch 4294967360).core (opL 8 0).core.toNat).mode =
      CoreMode.running) ∧ ((opL 8 0).ecc.ue = []) ∧ ((atScratch 4294967360).coreOwner (opL 8 0).core.toNat = some 0) ∧
      (((atScratch 4294967360).core (opL 8 0).core.toNat).mAddr (opL 8 0).src1 (opL 8 0).imm 1 % 1 = 0) ∧ ((atScratch
      4294967360).scratchT0 (opL 8 0).core.toNat (((atScratch 4294967360).core (opL 8 0).core.toNat).mAddr (opL 8
      0).src1 (opL 8 0).imm 1) = some 64) ∧ ((atScratch 4294967360).inPart 0 0 64 1 = true) ∧ ((atScratch
      4294967360).poisoned 0 64 1 = false)) ∧
    (((atScratch 4294967360).coreOk (opL 8 0).core.toNat = true ∧ ((atScratch 4294967360).core (opL 8 0).core.toNat).mode =
      CoreMode.running) ∧ ((opL 8 0).ecc.ue = []) ∧ ((atScratch 4294967360).coreOwner (opL 8 0).core.toNat = some 0) ∧
      (((atScratch 4294967360).core (opL 8 0).core.toNat).mAddr (opL 8 0).src1 (opL 8 0).imm 2 % 2 = 0) ∧ ((atScratch
      4294967360).scratchT0 (opL 8 0).core.toNat (((atScratch 4294967360).core (opL 8 0).core.toNat).mAddr (opL 8
      0).src1 (opL 8 0).imm 2) = some 64) ∧ ((atScratch 4294967360).inPart 0 0 64 2 = true) ∧ ((atScratch
      4294967360).poisoned 0 64 2 = false)) ∧
    (((atScratch 4294967360).coreOk (opL 8 0).core.toNat = true ∧ ((atScratch 4294967360).core (opL 8 0).core.toNat).mode =
      CoreMode.running) ∧ ((opL 8 0).ecc.ue = []) ∧ ((atScratch 4294967360).coreOwner (opL 8 0).core.toNat = some 0) ∧
      (((atScratch 4294967360).core (opL 8 0).core.toNat).mAddr (opL 8 0).src1 (opL 8 0).imm 4 % 4 = 0) ∧ ((atScratch
      4294967360).scratchT0 (opL 8 0).core.toNat (((atScratch 4294967360).core (opL 8 0).core.toNat).mAddr (opL 8
      0).src1 (opL 8 0).imm 4) = some 64) ∧ ((atScratch 4294967360).inPart 0 0 64 4 = true) ∧ ((atScratch
      4294967360).poisoned 0 64 4 = false)) ∧
    (((atScratch 4294967360).coreOk (opL 8 0).core.toNat = true ∧ ((atScratch 4294967360).core (opL 8 0).core.toNat).mode =
      CoreMode.running) ∧ ((opL 8 0).ecc.ue = []) ∧ ((atScratch 4294967360).coreOwner (opL 8 0).core.toNat = some 0) ∧
      (((atScratch 4294967360).core (opL 8 0).core.toNat).mAddr (opL 8 0).src1 (opL 8 0).imm 8 % 8 = 0) ∧ ((atScratch
      4294967360).scratchT0 (opL 8 0).core.toNat (((atScratch 4294967360).core (opL 8 0).core.toNat).mAddr (opL 8
      0).src1 (opL 8 0).imm 8) = some 64) ∧ ((atScratch 4294967360).inPart 0 0 64 8 = true) ∧ ((atScratch
      4294967360).poisoned 0 64 8 = false)) ∧
    (((atScratch 4294967360).coreOk (opL 8 0).core.toNat = true ∧ ((atScratch 4294967360).core (opL 8 0).core.toNat).mode =
      CoreMode.running) ∧ ((opL 8 0).ecc.ue = []) ∧ ((atScratch 4294967360).coreOwner (opL 8 0).core.toNat = some 0) ∧
      (((atScratch 4294967360).core (opL 8 0).core.toNat).mAddr (opL 8 0).src1 (opL 8 0).imm 64 % 64 = 0) ∧ ((atScratch
      4294967360).scratchT0 (opL 8 0).core.toNat (((atScratch 4294967360).core (opL 8 0).core.toNat).mAddr (opL 8
      0).src1 (opL 8 0).imm 64) = some 64) ∧ ((atScratch 4294967360).inPart 0 0 64 64 = true) ∧ ((atScratch
      4294967360).poisoned 0 64 64 = false)) ∧
    (((atScratch 8589934656).coreOk (opL 8 0).core.toNat = true ∧ ((atScratch 8589934656).core (opL 8 0).core.toNat).mode =
      CoreMode.running) ∧ ((opL 8 0).ecc.ue = []) ∧ ((atScratch 8589934656).coreOwner (opL 8 0).core.toNat = some 0) ∧
      (((atScratch 8589934656).core (opL 8 0).core.toNat).mAddr (opL 8 0).src1 (opL 8 0).imm 64 % 64 = 0) ∧ ((atScratch
      8589934656).scratchT0 (opL 8 0).core.toNat (((atScratch 8589934656).core (opL 8 0).core.toNat).mAddr (opL 8
      0).src1 (opL 8 0).imm 64) = some 805306432) ∧ ((atScratch 8589934656).inPart 0 0 805306432 64 = true) ∧
      ((atScratch 8589934656).poisoned 0 805306432 64 = false)) ∧
    ((poisonedLine.coreOk (opL 8 0).core.toNat = true ∧ (poisonedLine.core (opL 8 0).core.toNat).mode = CoreMode.running) ∧
      ((opL 8 0).ecc.ue = []) ∧ (poisonedLine.coreOwner (opL 8 0).core.toNat = some 0) ∧ ((poisonedLine.core (opL 8
      0).core.toNat).mAddr (opL 8 0).src1 (opL 8 0).imm 1 % 1 = 0) ∧ (poisonedLine.scratchT0 (opL 8 0).core.toNat
      ((poisonedLine.core (opL 8 0).core.toNat).mAddr (opL 8 0).src1 (opL 8 0).imm 1) = some 64) ∧ (poisonedLine.inPart
      0 0 64 1 = true) ∧ (poisonedLine.poisoned 0 64 1 = true)) ∧
    ((noScratch.coreOk (opL 8 0).core.toNat = true ∧ (noScratch.core (opL 8 0).core.toNat).mode = CoreMode.running) ∧ ((opL
      8 0).ecc.ue = []) ∧ (noScratch.coreOwner (opL 8 0).core.toNat = some 0) ∧ ((noScratch.core (opL 8
      0).core.toNat).mAddr (opL 8 0).src1 (opL 8 0).imm 1 % 1 = 0) ∧ (noScratch.scratchT0 (opL 8 0).core.toNat
      ((noScratch.core (opL 8 0).core.toNat).mAddr (opL 8 0).src1 (opL 8 0).imm 1) = some 64) ∧ (noScratch.inPart 0 0 64
      1 = false)) ∧
    ((oneTile.coreOk (opL 8 0).core.toNat = true ∧ (oneTile.core (opL 8 0).core.toNat).mode = CoreMode.running) ∧
      (oneTile.variant.tiles ≠ 2) ∧ ((oneTile.core (opL 8 0).core.toNat).mAddr (opL 8 0).src1 (opL 8 0).imm 1 % 1 = 0) ∧
      (8589934592 ≤ (oneTile.core (opL 8 0).core.toNat).mAddr (opL 8 0).src1 (opL 8 0).imm 1) ∧ ((oneTile.core (opL 8
      0).core.toNat).mAddr (opL 8 0).src1 (opL 8 0).imm 1 < 8589934592 + scratchSize)) :=
  by and_intros <;> decide +kernel

theorem test_met_StoreLocal :
    ((running.coreOk 0 = true ∧ (running.core 0).mode = CoreMode.running) ∧ (running.memOk = true) ∧
      ((running.core 0).mAddr (opI 5 8 65535).src1 (opI 5 8 65535).imm 1 % 1 = 0 ∧
      (running.core 0).mAddr (opI 5 8 65535).src1 (opI 5 8 65535).imm 1 + 1 ≤ 262144)) ∧
    ((running.coreOk 0 = true ∧ (running.core 0).mode = CoreMode.running) ∧ (running.memOk = true) ∧
      ((running.core 0).mAddr (opI 5 8 65535).src1 (opI 5 8 65535).imm 2 % 2 = 0 ∧
      (running.core 0).mAddr (opI 5 8 65535).src1 (opI 5 8 65535).imm 2 + 2 ≤ 262144)) ∧
    ((running.coreOk 0 = true ∧ (running.core 0).mode = CoreMode.running) ∧ (running.memOk = true) ∧
      ((running.core 0).mAddr (opI 5 8 65535).src1 (opI 5 8 65535).imm 4 % 4 = 0 ∧
      (running.core 0).mAddr (opI 5 8 65535).src1 (opI 5 8 65535).imm 4 + 4 ≤ 262144)) ∧
    ((running.coreOk 0 = true ∧ (running.core 0).mode = CoreMode.running) ∧ (running.memOk = true) ∧
      ((running.core 0).mAddr (opI 5 8 65535).src1 (opI 5 8 65535).imm 8 % 8 = 0 ∧
      (running.core 0).mAddr (opI 5 8 65535).src1 (opI 5 8 65535).imm 8 + 8 ≤ 262144)) ∧
    ((running.coreOk 0 = true ∧ (running.core 0).mode = CoreMode.running) ∧ (running.memOk = true) ∧
      ((running.core 0).mAddr (opI 5 8 65535).src1 (opI 5 8 65535).imm 64 % 64 = 0 ∧
      (running.core 0).mAddr (opI 5 8 65535).src1 (opI 5 8 65535).imm 64 + 64 ≤ 262144)) :=
  by and_intros <;> decide +kernel

/-- A base register with the address of a register of core 1's block, or of a push register of engine 3 and EU 2; engine 3
mapped out; the cores in no partition, the tile's units in none. -/
def atCore1 : State := atScratch 0x1000048
def pushMe : State := atScratch 0x2003000
def pushEu : State := atScratch 0x2052000
def noUnit : State := pushMe.dput 0x810002 (leBytes 9 8)
def otherPart : State := pushMe.dput 0x310004 (leBytes 9 0)
/-- Stride 4, and the byte offsets 0, 4, ..., 60; every lane active. -/
def laneRegs (a : Nat) : State := running.setCore 0 { regs with
  x := (regs.x.set 8 (BitVec.ofNat 64 a)).set 9 4#64, v := regs.v.set 9 (word ((List.range 16).map (fun i => (32 * i, 4 * i)))) }
def lanes : OpV := { core := 0, dst := 7, src1 := 8, src2 := 9, et := 0, zm := false, pred := 0 }

theorem test_met_StoreLocal_more :
    (((atScratch 4294967360).coreOk (opI 5 8 0).core.toNat = true ∧ ((atScratch 4294967360).core (opI 5 8
      0).core.toNat).mode = CoreMode.running) ∧ ((atScratch 4294967360).memOk = true) ∧ ((atScratch
      4294967360).coreOwner (opI 5 8 0).core.toNat = some 0) ∧ (((atScratch 4294967360).core (opI 5 8
      0).core.toNat).mAddr (opI 5 8 0).src1 (opI 5 8 0).imm 1 % 1 = 0) ∧ ((atScratch 4294967360).scratchT0 (opI 5 8
      0).core.toNat (((atScratch 4294967360).core (opI 5 8 0).core.toNat).mAddr (opI 5 8 0).src1 (opI 5 8 0).imm 1) =
      some 64) ∧ ((atScratch 4294967360).inPart 0 0 64 1 = true) ∧ ((atScratch 4294967360).poisonAt 0 (granBase 0 64) =
      none)) ∧
    ((poisonedLine.coreOk (opI 5 8 0).core.toNat = true ∧ (poisonedLine.core (opI 5 8 0).core.toNat).mode =
      CoreMode.running) ∧ (poisonedLine.memOk = true) ∧ (poisonedLine.coreOwner (opI 5 8 0).core.toNat = some 0) ∧
      ((poisonedLine.core (opI 5 8 0).core.toNat).mAddr (opI 5 8 0).src1 (opI 5 8 0).imm 1 % 1 = 0) ∧
      (poisonedLine.scratchT0 (opI 5 8 0).core.toNat ((poisonedLine.core (opI 5 8 0).core.toNat).mAddr (opI 5 8 0).src1
      (opI 5 8 0).imm 1) = some 64) ∧ (poisonedLine.inPart 0 0 64 1 = true) ∧ (poisonedLine.poisonAt 0 (granBase 0 64) ≠
      none)) ∧
    ((noScratch.coreOk (opI 5 8 0).core.toNat = true ∧ (noScratch.core (opI 5 8 0).core.toNat).mode = CoreMode.running) ∧
      (noScratch.memOk = true) ∧ (noScratch.coreOwner (opI 5 8 0).core.toNat = some 0) ∧ ((noScratch.core (opI 5 8
      0).core.toNat).mAddr (opI 5 8 0).src1 (opI 5 8 0).imm 1 % 1 = 0) ∧ (noScratch.scratchT0 (opI 5 8 0).core.toNat
      ((noScratch.core (opI 5 8 0).core.toNat).mAddr (opI 5 8 0).src1 (opI 5 8 0).imm 1) = some 64) ∧ (noScratch.inPart
      0 0 64 1 = false)) ∧
    ((atCore1.coreOk (opI 5 8 0).core.toNat = true ∧ (atCore1.core (opI 5 8 0).core.toNat).mode = CoreMode.running) ∧
      ((atCore1.core (opI 5 8 0).core.toNat).mAddr (opI 5 8 0).src1 (opI 5 8 0).imm 8 % 8 = 0) ∧ (atCore1.place (opI 5 8
      0).core.toNat ((atCore1.core (opI 5 8 0).core.toNat).mAddr (opI 5 8 0).src1 (opI 5 8 0).imm 8) = Place.unit
      (MUnit.core 1 8)) ∧ (atCore1.unitOk ((opI 5 8 0).core.toNat / 128) (MUnit.core 1 8) = true) ∧ (atCore1.coreForeign
      (opI 5 8 0).core.toNat (MUnit.core 1 8) = false) ∧ ((MUnit.core 1 8).isPush = false) ∧ (unitAccepts (MUnit.core 1
      8) 8 = true)) ∧
    ((atCore1.coreOk (opI 5 8 0).core.toNat = true ∧ (atCore1.core (opI 5 8 0).core.toNat).mode = CoreMode.running) ∧
      ((atCore1.core (opI 5 8 0).core.toNat).mAddr (opI 5 8 0).src1 (opI 5 8 0).imm 1 % 1 = 0) ∧ (atCore1.place (opI 5 8
      0).core.toNat ((atCore1.core (opI 5 8 0).core.toNat).mAddr (opI 5 8 0).src1 (opI 5 8 0).imm 1) = Place.unit
      (MUnit.core 1 8)) ∧ (atCore1.unitOk ((opI 5 8 0).core.toNat / 128) (MUnit.core 1 8) = true) ∧ (atCore1.coreForeign
      (opI 5 8 0).core.toNat (MUnit.core 1 8) = false) ∧ ((MUnit.core 1 8).isPush = false) ∧ (unitAccepts (MUnit.core 1
      8) 1 = false)) ∧
    ((pushMe.coreOk (opI 5 8 0).core.toNat = true ∧ (pushMe.core (opI 5 8 0).core.toNat).mode = CoreMode.running) ∧
      ((pushMe.core (opI 5 8 0).core.toNat).mAddr (opI 5 8 0).src1 (opI 5 8 0).imm 64 % 64 = 0) ∧ (pushMe.place (opI 5 8
      0).core.toNat ((pushMe.core (opI 5 8 0).core.toNat).mAddr (opI 5 8 0).src1 (opI 5 8 0).imm 64) = Place.unit
      (MUnit.me 3 0)) ∧ (pushMe.unitOk ((opI 5 8 0).core.toNat / 128) (MUnit.me 3 0) = true) ∧ (pushMe.coreForeign (opI
      5 8 0).core.toNat (MUnit.me 3 0) = false) ∧ (MUnit.me 3 0 = MUnit.me 3 0) ∧ (64 = 64)) ∧
    ((pushEu.coreOk (opI 5 8 0).core.toNat = true ∧ (pushEu.core (opI 5 8 0).core.toNat).mode = CoreMode.running) ∧
      ((pushEu.core (opI 5 8 0).core.toNat).mAddr (opI 5 8 0).src1 (opI 5 8 0).imm 64 % 64 = 0) ∧ (pushEu.place (opI 5 8
      0).core.toNat ((pushEu.core (opI 5 8 0).core.toNat).mAddr (opI 5 8 0).src1 (opI 5 8 0).imm 64) = Place.unit
      (MUnit.eu 2 0)) ∧ (pushEu.unitOk ((opI 5 8 0).core.toNat / 128) (MUnit.eu 2 0) = true) ∧ (pushEu.coreForeign (opI
      5 8 0).core.toNat (MUnit.eu 2 0) = false) ∧ (MUnit.eu 2 0 = MUnit.eu 2 0) ∧ (64 = 64)) ∧
    ((pushMe.coreOk (opI 5 8 0).core.toNat = true ∧ (pushMe.core (opI 5 8 0).core.toNat).mode = CoreMode.running) ∧
      ((pushMe.core (opI 5 8 0).core.toNat).mAddr (opI 5 8 0).src1 (opI 5 8 0).imm 4 % 4 = 0) ∧ (pushMe.place (opI 5 8
      0).core.toNat ((pushMe.core (opI 5 8 0).core.toNat).mAddr (opI 5 8 0).src1 (opI 5 8 0).imm 4) = Place.unit
      (MUnit.me 3 0)) ∧ (pushMe.unitOk ((opI 5 8 0).core.toNat / 128) (MUnit.me 3 0) = true) ∧ (pushMe.coreForeign (opI
      5 8 0).core.toNat (MUnit.me 3 0) = false) ∧ ((MUnit.me 3 0).isPush = true) ∧ (4 ≠ 64)) ∧
    ((otherPart.coreOk (opI 5 8 0).core.toNat = true ∧ (otherPart.core (opI 5 8 0).core.toNat).mode = CoreMode.running) ∧
      ((otherPart.core (opI 5 8 0).core.toNat).mAddr (opI 5 8 0).src1 (opI 5 8 0).imm 4 % 4 = 0) ∧ (otherPart.place (opI
      5 8 0).core.toNat ((otherPart.core (opI 5 8 0).core.toNat).mAddr (opI 5 8 0).src1 (opI 5 8 0).imm 4) = Place.unit
      (MUnit.me 3 0)) ∧ (otherPart.unitOk ((opI 5 8 0).core.toNat / 128) (MUnit.me 3 0) = true) ∧ (otherPart.coreForeign
      (opI 5 8 0).core.toNat (MUnit.me 3 0) = true) ∧ (otherPart.coreOwner (opI 5 8 0).core.toNat = some 0)) ∧
    ((noUnit.coreOk (opI 5 8 0).core.toNat = true ∧ (noUnit.core (opI 5 8 0).core.toNat).mode = CoreMode.running) ∧
      ((noUnit.core (opI 5 8 0).core.toNat).mAddr (opI 5 8 0).src1 (opI 5 8 0).imm 4 % 4 = 0) ∧ (noUnit.place (opI 5 8
      0).core.toNat ((noUnit.core (opI 5 8 0).core.toNat).mAddr (opI 5 8 0).src1 (opI 5 8 0).imm 4) = Place.unit
      (MUnit.me 3 0)) ∧ (noUnit.unitOk ((opI 5 8 0).core.toNat / 128) (MUnit.me 3 0) = false)) ∧
    (((laneRegs 33566720).coreOk lanes.core.toNat = true ∧ ((laneRegs 33566720).core lanes.core.toNat).mode =
      CoreMode.running) ∧ (true = true) ∧ (33566720 % 64 = 0) ∧ ((laneRegs 33566720).place lanes.core.toNat 33566720 =
      Place.unit (MUnit.me 3 0)) ∧ ((laneRegs 33566720).unitOk (lanes.core.toNat / 128) (MUnit.me 3 0) = true) ∧
      ((laneRegs 33566720).coreForeign lanes.core.toNat (MUnit.me 3 0) = false) ∧ (∀ (l : Nat), l < etLanes lanes.et →
      laneOn (((laneRegs 33566720).core lanes.core.toNat).getP lanes.pred) l = true ∧ strideAt ((laneRegs 33566720).core
      0) 8 9 l % 2 ^ 64 = 33566720 + l * (etWidth lanes.et / 8)) ∧ (MUnit.me 3 0 = MUnit.me 3 0)) ∧
    (((laneRegs 33890304).coreOk lanes.core.toNat = true ∧ ((laneRegs 33890304).core lanes.core.toNat).mode =
      CoreMode.running) ∧ (true = true) ∧ (33890304 % 64 = 0) ∧ ((laneRegs 33890304).place lanes.core.toNat 33890304 =
      Place.unit (MUnit.eu 2 0)) ∧ ((laneRegs 33890304).unitOk (lanes.core.toNat / 128) (MUnit.eu 2 0) = true) ∧
      ((laneRegs 33890304).coreForeign lanes.core.toNat (MUnit.eu 2 0) = false) ∧ (∀ (l : Nat), l < etLanes lanes.et →
      laneOn (((laneRegs 33890304).core lanes.core.toNat).getP lanes.pred) l = true ∧ strideAt ((laneRegs 33890304).core
      0) 8 9 l % 2 ^ 64 = 33890304 + l * (etWidth lanes.et / 8)) ∧ (MUnit.eu 2 0 = MUnit.eu 2 0)) ∧
    (((laneRegs 33566720).coreOk lanes.core.toNat = true ∧ ((laneRegs 33566720).core lanes.core.toNat).mode =
      CoreMode.running) ∧ (true = true) ∧ (33566720 % 64 = 0) ∧ ((laneRegs 33566720).place lanes.core.toNat 33566720 =
      Place.unit (MUnit.me 3 0)) ∧ ((laneRegs 33566720).unitOk (lanes.core.toNat / 128) (MUnit.me 3 0) = true) ∧
      ((laneRegs 33566720).coreForeign lanes.core.toNat (MUnit.me 3 0) = false) ∧ (∀ (l : Nat), l < etLanes lanes.et →
      laneOn (((laneRegs 33566720).core lanes.core.toNat).getP lanes.pred) l = true ∧ gatherAt ((laneRegs 33566720).core
      0) 8 9 l % 2 ^ 64 = 33566720 + l * (etWidth lanes.et / 8)) ∧ (MUnit.me 3 0 = MUnit.me 3 0)) ∧
    (((laneRegs 33890304).coreOk lanes.core.toNat = true ∧ ((laneRegs 33890304).core lanes.core.toNat).mode =
      CoreMode.running) ∧ (true = true) ∧ (33890304 % 64 = 0) ∧ ((laneRegs 33890304).place lanes.core.toNat 33890304 =
      Place.unit (MUnit.eu 2 0)) ∧ ((laneRegs 33890304).unitOk (lanes.core.toNat / 128) (MUnit.eu 2 0) = true) ∧
      ((laneRegs 33890304).coreForeign lanes.core.toNat (MUnit.eu 2 0) = false) ∧ (∀ (l : Nat), l < etLanes lanes.et →
      laneOn (((laneRegs 33890304).core lanes.core.toNat).getP lanes.pred) l = true ∧ gatherAt ((laneRegs 33890304).core
      0) 8 9 l % 2 ^ 64 = 33890304 + l * (etWidth lanes.et / 8)) ∧ (MUnit.eu 2 0 = MUnit.eu 2 0)) :=
  by and_intros <;> decide +kernel

theorem test_met_AtomicLocal :
    (running.coreOk 0 = true ∧ (running.core 0).mode = CoreMode.running) ∧ (running.memOk = true) ∧ ((opM 8).ecc = { }) ∧
      (BitVec.toNat ((running.core 0).getX (opM 8).src1) % 8 = 0) ∧
      (BitVec.toNat ((running.core 0).getX (opM 8).src1) + 8 ≤ 262144) ∧
      (running.lmPoisoned (0 + BitVec.toNat ((running.core 0).getX (opM 8).src1)) 8 = false) := by
  decide +kernel

theorem test_met_AtomicLocal_more :
    (((atScratch 4294967360).coreOk (opM 8).core.toNat = true ∧ ((atScratch 4294967360).core (opM 8).core.toNat).mode =
      CoreMode.running) ∧ ((atScratch 4294967360).memOk = true) ∧ ((opM 8).ecc.ue = []) ∧ ((atScratch
      4294967360).coreOwner (opM 8).core.toNat = some 0) ∧ (BitVec.toNat (((atScratch 4294967360).core (opM
      8).core.toNat).getX (opM 8).src1) % 8 = 0) ∧ ((atScratch 4294967360).scratchT0 (opM 8).core.toNat (BitVec.toNat
      (((atScratch 4294967360).core (opM 8).core.toNat).getX (opM 8).src1)) = some 64) ∧ (BitVec.toNat (((atScratch
      4294967360).core (opM 8).core.toNat).getX (opM 8).src1) < 8589934592) ∧ ((atScratch 4294967360).inPart 0 0 64 8 =
      true) ∧ ((atScratch 4294967360).poisoned 0 64 8 = false)) ∧
    (((atScratch 8589934656).coreOk (opM 8).core.toNat = true ∧ ((atScratch 8589934656).core (opM 8).core.toNat).mode =
      CoreMode.running) ∧ ((atScratch 8589934656).memOk = true) ∧ ((opM 8).ecc.ue = []) ∧ ((atScratch
      8589934656).coreOwner (opM 8).core.toNat = some 0) ∧ (BitVec.toNat (((atScratch 8589934656).core (opM
      8).core.toNat).getX (opM 8).src1) % 8 = 0) ∧ ((atScratch 8589934656).scratchT0 (opM 8).core.toNat (BitVec.toNat
      (((atScratch 8589934656).core (opM 8).core.toNat).getX (opM 8).src1)) = some 805306432) ∧ (8589934592 ≤
      BitVec.toNat (((atScratch 8589934656).core (opM 8).core.toNat).getX (opM 8).src1))) :=
  by and_intros <;> decide +kernel

theorem test_met_WaitsAndBarriers :
    ((others.coreOk 0 = true ∧ (others.core 0).mode = CoreMode.running) ∧
      (others.fenceOwner (BitVec.toNat ((others.core 0).getX (opA 1 0 0).src1)) = some 0) ∧ (others.coreOwner 0 ≠ some 0)) ∧
    ((running.coreOk 0 = true ∧ (running.core 0).mode = CoreMode.running) ∧
      (1023 < BitVec.toNat ((running.core 0).getX (opA 1 12 0).src1))) ∧
    ((running.coreOk 0 = true ∧ (running.core 0).mode = CoreMode.running) ∧
      (BitVec.toNat ((running.core 0).getX (opA 1 0 0).src1) ≤ 1023) ∧
      (running.fenceOwner (BitVec.toNat ((running.core 0).getX (opA 1 0 0).src1)) = none ∨ running.fenceOwner (BitVec.toNat
      ((running.core 0).getX (opA 1 0 0).src1)) = running.coreOwner 0) ∧
      ((BitVec.ofNat 32 (running.fenceVal 0 (BitVec.toNat ((running.core 0).getX (opA 1 0 0).src1))) - BitVec.truncate 32
      ((running.core 0).getX (opA 1 0 0).src2)).toNat < 2147483648)) ∧
    ((running.coreOk 0 = true ∧ (running.core 0).mode = CoreMode.running) ∧
      (BitVec.toNat ((running.core 0).getX (opA 1 9 8).src1) ≤ 1023) ∧
      (running.fenceOwner (BitVec.toNat ((running.core 0).getX (opA 1 9 8).src1)) = none ∨ running.fenceOwner (BitVec.toNat
      ((running.core 0).getX (opA 1 9 8).src1)) = running.coreOwner 0) ∧
      (2147483648 ≤ (BitVec.ofNat 32 (running.fenceVal 0 (BitVec.toNat ((running.core 0).getX (opA 1 9 8).src1))) -
      BitVec.truncate 32 ((running.core 0).getX (opA 1 9 8).src2)).toNat)) ∧
    ((running.coreOk 0 = true ∧ (running.core 0).mode = CoreMode.running) ∧
      (BitVec.toNat ((running.core 0).getX (opA 1 0 0).src1) ≤ 63) ∧
      (running.coreOwner 0 = some (BitVec.toNat ((running.core 0).getX (opA 1 0 0).src1) / 16)) ∧
      ((running.bar 0 (BitVec.toNat ((running.core 0).getX (opA 1 0 0).src1))).count = 0)) ∧
    (((atBar 3 1).coreOk 0 = true ∧ ((atBar 3 1).core 0).mode = CoreMode.running) ∧
      (BitVec.toNat (((atBar 3 1).core 0).getX (opA 1 11 0).src1) ≤ 63) ∧
      ((atBar 3 1).coreOwner 0 = some (BitVec.toNat (((atBar 3 1).core 0).getX (opA 1 11 0).src1) / 16)) ∧
      (((atBar 3 1).bar 0 (BitVec.toNat (((atBar 3 1).core 0).getX (opA 1 11 0).src1))).arrived + 1 < ((atBar 3 1).bar 0
      (BitVec.toNat (((atBar 3 1).core 0).getX (opA 1 11 0).src1))).count)) ∧
    (((atBar 2 1).coreOk 0 = true ∧ ((atBar 2 1).core 0).mode = CoreMode.running) ∧
      (BitVec.toNat (((atBar 2 1).core 0).getX (opA 1 11 0).src1) ≤ 63) ∧
      ((atBar 2 1).coreOwner 0 = some (BitVec.toNat (((atBar 2 1).core 0).getX (opA 1 11 0).src1) / 16)) ∧
      (((atBar 2 1).bar 0 (BitVec.toNat (((atBar 2 1).core 0).getX (opA 1 11 0).src1))).count ≠ 0) ∧
      (((atBar 2 1).bar 0 (BitVec.toNat (((atBar 2 1).core 0).getX (opA 1 11 0).src1))).count ≤ ((atBar 2 1).bar 0
      (BitVec.toNat (((atBar 2 1).core 0).getX (opA 1 11 0).src1))).arrived + 1)) ∧
    ((True) ∧ (0 < running.variant.tiles) ∧ ((running.bar 0 3).arrived = 0)) ∧
    ((True) ∧ (0 < (atBar 3 1).variant.tiles) ∧ (((atBar 3 1).bar 0 3).arrived ≠ 0)) :=
  by and_intros <;> decide +kernel

theorem test_met_Mailboxes :
    (((mail 2).coreOk 0 = true ∧ ((mail 2).core 0).mode = CoreMode.running) ∧ (((mail 2).core 0).mbx = [0#64, 1#64])) ∧
    ((running.coreOk 0 = true ∧ (running.core 0).mode = CoreMode.running) ∧ ((running.core 0).mbx = [])) ∧
    (((mail 2).coreOk 0 = true ∧ ((mail 2).core 0).mode = CoreMode.running) ∧
      (BitVec.toNat (((mail 2).core 0).getX (opA 4 0 8).src1) ≤ 255) ∧
      ((mail 2).coreOk (BitVec.toNat (((mail 2).core 0).getX (opA 4 0 8).src1)) = true) ∧
      ((mail 2).coreOwner (BitVec.toNat (((mail 2).core 0).getX (opA 4 0 8).src1)) = (mail 2).coreOwner 0) ∧
      (((mail 2).core (BitVec.toNat (((mail 2).core 0).getX (opA 4 0 8).src1))).mbx.length < 64)) ∧
    (((mail 64).coreOk 0 = true ∧ ((mail 64).core 0).mode = CoreMode.running) ∧
      (BitVec.toNat (((mail 64).core 0).getX (opA 4 0 8).src1) ≤ 255) ∧
      ((mail 64).coreOk (BitVec.toNat (((mail 64).core 0).getX (opA 4 0 8).src1)) = true) ∧
      ((mail 64).coreOwner (BitVec.toNat (((mail 64).core 0).getX (opA 4 0 8).src1)) = (mail 64).coreOwner 0) ∧
      (64 ≤ ((mail 64).core (BitVec.toNat (((mail 64).core 0).getX (opA 4 0 8).src1))).mbx.length)) ∧
    (((mail 2).coreOk 0 = true ∧ ((mail 2).core 0).mode = CoreMode.running) ∧
      (255 < BitVec.toNat (((mail 2).core 0).getX (opA 4 12 8).src1) ∨ (mail 2).coreOk (BitVec.toNat (((mail 2).core 0).getX
      (opA 4 12 8).src1)) = false ∨ (mail 2).coreOwner (BitVec.toNat (((mail 2).core 0).getX (opA 4 12 8).src1)) ≠ (mail
      2).coreOwner 0)) ∧
    ((((mail 2).core 0).mode = CoreMode.waiting → ∀ (d : BitVec 5), ((mail 2).core 0).wait ≠ some (Wait.recv d)) ∧ (((mail 2).core 0).mbx.length < 64)) ∧
    (((faulted.core 0).mode = CoreMode.waiting → ∀ (d : BitVec 5), (faulted.core 0).wait ≠ some (Wait.recv d)) ∧ ((faulted.core 0).mbx.length < 64)) ∧
    ((((waitsFor .edge).core 0).mode = CoreMode.waiting → ∀ (d : BitVec 5), ((waitsFor .edge).core 0).wait ≠ some (Wait.recv d)) ∧
      (((waitsFor .edge).core 0).mbx.length < 64)) ∧
    ((((mail 64).core 0).mode = CoreMode.waiting → ∀ (d : BitVec 5), ((mail 64).core 0).wait ≠ some (Wait.recv d)) ∧ (64 ≤ ((mail 64).core 0).mbx.length)) :=
  by and_intros <;> decide +kernel

theorem test_met_Mailboxes_more :
    ((((waitsFor (Wait.recv 4)).core 0).mode = CoreMode.waiting) ∧ (((waitsFor (Wait.recv 4)).core 0).wait = some (Wait.recv
      4)) ∧ (7 < 8) ∧ (255 < 256) ∧ (2 ^ 32 - 1 < 2 ^ 32)) :=
  by decide +kernel

theorem test_met_ControlRegisters :
    (running.coreOk 0 = true ∧ (running.core 0).mode = CoreMode.running) ∧ (6 < 7 ∧ 7 < 16 ∨ 20 < 7 ∧ 7 < 32 ∨ 33 < 7) := by
  decide +kernel

theorem test_met_ControlRegisters_more :
    ((running.coreOk (opCsr 0).core.toNat = true ∧ (running.core (opCsr 0).core.toNat).mode = CoreMode.running) ∧ ((opCsr
      0).num.toNat = 0)) ∧
    ((running.coreOk (opCsr 17).core.toNat = true ∧ (running.core (opCsr 17).core.toNat).mode = CoreMode.running) ∧ ((opCsr
      17).num.toNat = 17) ∧ (Tab.wf { } running.health.clk = true)) ∧
    ((running.coreOk (opCsr 19).core.toNat = true ∧ (running.core (opCsr 19).core.toNat).mode = CoreMode.running) ∧ ((opCsr
      19).num.toNat = 19)) ∧
    ((running.coreOk (opCsr 20).core.toNat = true ∧ (running.core (opCsr 20).core.toNat).mode = CoreMode.running) ∧ ((opCsr
      20).num.toNat = 20)) ∧
    ((running.coreOk (opCsr 33).core.toNat = true ∧ (running.core (opCsr 33).core.toNat).mode = CoreMode.running) ∧ ((opCsr
      33).num.toNat = 33)) ∧
    ((running.coreOk (opCsr 1).core.toNat = true ∧ (running.core (opCsr 1).core.toNat).mode = CoreMode.running) ∧ ((opCsr
      1).num.toNat = 1)) ∧
    ((running.coreOk (opCsr 2).core.toNat = true ∧ (running.core (opCsr 2).core.toNat).mode = CoreMode.running) ∧ ((opCsr
      2).num.toNat = 2)) ∧
    ((running.coreOk (opCsr 3).core.toNat = true ∧ (running.core (opCsr 3).core.toNat).mode = CoreMode.running) ∧ ((opCsr
      3).num.toNat = 3)) ∧
    ((running.coreOk (opCsr 4).core.toNat = true ∧ (running.core (opCsr 4).core.toNat).mode = CoreMode.running) ∧ ((opCsr
      4).num.toNat = 4)) ∧
    ((running.coreOk (opCsr 5).core.toNat = true ∧ (running.core (opCsr 5).core.toNat).mode = CoreMode.running) ∧ ((opCsr
      5).num.toNat = 5)) ∧
    ((running.coreOk (opCsr 6).core.toNat = true ∧ (running.core (opCsr 6).core.toNat).mode = CoreMode.running) ∧ ((opCsr
      6).num.toNat = 6)) ∧
    ((running.coreOk (opCsr 16).core.toNat = true ∧ (running.core (opCsr 16).core.toNat).mode = CoreMode.running) ∧ ((opCsr
      16).num.toNat = 16)) ∧
    ((running.coreOk (opCsr 18).core.toNat = true ∧ (running.core (opCsr 18).core.toNat).mode = CoreMode.running) ∧ ((opCsr
      18).num.toNat = 18)) ∧
    ((running.coreOk (opCsr 32).core.toNat = true ∧ (running.core (opCsr 32).core.toNat).mode = CoreMode.running) ∧ ((opCsr
      32).num.toNat = 32)) ∧
    ((running.coreOk (opCsr 4095).core.toNat = true ∧ (running.core (opCsr 4095).core.toNat).mode = CoreMode.running) ∧ (33
      < (opCsr 4095).num.toNat)) :=
  by and_intros <;> decide +kernel

def word (n : Nat) : OpIllegal := ⟨0, BitVec.ofNat 32 n⟩
def put (a n v : Nat) : RegWriteOp := ⟨.core 0, .unit 0, BitVec.ofNat 32 a, n, BitVec.ofNat 512 v⟩
def hostPut (sp : RegSpace) (a n : Nat) : RegWriteOp := ⟨.host 0, sp, BitVec.ofNat 32 a, n, 5⟩

theorem test_met_Exceptions :
    ((withTvec.coreOk onCore.core.toNat = true ∧ (withTvec.core onCore.core.toNat).mode = CoreMode.running) ∧
      ((withTvec.core onCore.core.toNat).tvec ≠ 0#18) ∧ ((withTvec.core onCore.core.toNat).inh = false)) ∧
    ((running.coreOk onCore.core.toNat = true ∧ (running.core onCore.core.toNat).mode = CoreMode.running) ∧ ((running.core
      onCore.core.toNat).tvec = 0#18 ∨ (running.core onCore.core.toNat).inh = true)) ∧
    ((inTrap.coreOk onCore.core.toNat = true ∧ (inTrap.core onCore.core.toNat).mode = CoreMode.running) ∧ ((inTrap.core
      onCore.core.toNat).inh = true)) ∧
    ((running.coreOk onCore.core.toNat = true ∧ (running.core onCore.core.toNat).mode = CoreMode.running) ∧ ((running.core
      onCore.core.toNat).inh = false)) ∧
    ((running.coreOk illegal.core.toNat = true ∧ (running.core illegal.core.toNat).mode = CoreMode.running) ∧ (decodeWord
      { core := illegal.core, ecc := { } } illegal.word = none)) ∧
    ((running.coreOk illegal.core.toNat = true ∧ (running.core illegal.core.toNat).mode = CoreMode.running) ∧ (illegal.word
      = 0#32 ∨ illegal.word &&& 63#32 ∈ [10#32, 23#32, 29#32, 46#32, 56#32, 58#32, 59#32] ∨ illegal.word &&& 63#32 =
      6#32 ∧ illegal.word &&& 12582912#32 = 12582912#32)) ∧
    ((running.coreOk (word 4294967291).core.toNat = true ∧ (running.core (word 4294967291).core.toNat).mode =
      CoreMode.running) ∧ ((word 4294967291).word = 0#32 ∨ (word 4294967291).word &&& 63#32 ∈ [10#32, 23#32, 29#32,
      46#32, 56#32, 58#32, 59#32] ∨ (word 4294967291).word &&& 63#32 = 6#32 ∧ (word 4294967291).word &&& 12582912#32 =
      12582912#32)) ∧
    ((running.coreOk (word 12582918).core.toNat = true ∧ (running.core (word 12582918).core.toNat).mode = CoreMode.running)
      ∧ ((word 12582918).word = 0#32 ∨ (word 12582918).word &&& 63#32 ∈ [10#32, 23#32, 29#32, 46#32, 56#32, 58#32,
      59#32] ∨ (word 12582918).word &&& 63#32 = 6#32 ∧ (word 12582918).word &&& 12582912#32 = 12582912#32)) ∧
    (((waitsFor (Wait.recv 4)).coreOk onCore.core.toNat = true) ∧ (((waitsFor (Wait.recv 4)).core onCore.core.toNat).mode =
      CoreMode.waiting ∧ ((waitsFor (Wait.recv 4)).core onCore.core.toNat).waitLimit ≠ 0#64 ∧ BitVec.toNat ((waitsFor
      (Wait.recv 4)).core onCore.core.toNat).waitLimit ≤ ((waitsFor (Wait.recv 4)).core onCore.core.toNat).waited) ∧
      (((waitsFor (Wait.recv 4)).core onCore.core.toNat).wait = some (Wait.recv 4))) ∧
    (((waitsFor (Wait.bar 3)).coreOk onCore.core.toNat = true) ∧ (((waitsFor (Wait.bar 3)).core onCore.core.toNat).mode =
      CoreMode.waiting ∧ ((waitsFor (Wait.bar 3)).core onCore.core.toNat).waitLimit ≠ 0#64 ∧ BitVec.toNat ((waitsFor
      (Wait.bar 3)).core onCore.core.toNat).waitLimit ≤ ((waitsFor (Wait.bar 3)).core onCore.core.toNat).waited) ∧
      (((waitsFor (Wait.bar 3)).core onCore.core.toNat).wait = some (Wait.bar 3))) ∧
    (((waitsFor Wait.edge).coreOk onCore.core.toNat = true) ∧ (¬(((waitsFor Wait.edge).core onCore.core.toNat).mode =
      CoreMode.waiting ∧ ((waitsFor Wait.edge).core onCore.core.toNat).waitLimit ≠ 0#64 ∧ BitVec.toNat ((waitsFor
      Wait.edge).core onCore.core.toNat).waitLimit ≤ ((waitsFor Wait.edge).core onCore.core.toNat).waited) ∨ ((waitsFor
      Wait.edge).core onCore.core.toNat).wait = some Wait.edge)) ∧
    ((running.coreOk onCore.core.toNat = true) ∧ (¬((running.core onCore.core.toNat).mode = CoreMode.waiting ∧ (running.core
      onCore.core.toNat).waitLimit ≠ 0#64 ∧ BitVec.toNat (running.core onCore.core.toNat).waitLimit ≤ (running.core
      onCore.core.toNat).waited) ∨ (running.core onCore.core.toNat).wait = some Wait.edge)) :=
  by and_intros <;> decide +kernel

/-- In RECOVERY, with endpoint P0a up; a write of its BAR2. -/
def inRecovery : State := { wit with boot := { wit.boot with state := 10 }, host := { wit.host with endpts := [(1, { up := true })] } }
def holdPut (a n : Nat) : RegWriteOp := ⟨.host 0, .hold 1, BitVec.ofNat 32 a, n, 5⟩

theorem test_met_RegisterWrites :
    ((1 / 128 = (opCtl (Requester.core 1) 17).core.toNat / 128 ∧ faulted.coreOwner (1) = faulted.coreOwner (opCtl
      (Requester.core 1) 17).core.toNat) ∧ (faulted.coreOk (opCtl (Requester.core 1) 17).core.toNat = true) ∧
      (BitVec.getLsbD (opCtl (Requester.core 1) 17).value 1 = false) ∧ ((faulted.coreOwner (opCtl (Requester.core 1)
      17).core.toNat).isSome = true ∧ ((faulted.core (opCtl (Requester.core 1) 17).core.toNat).mode = CoreMode.halted ∨
      (faulted.core (opCtl (Requester.core 1) 17).core.toNat).mode = CoreMode.faulted))) ∧
    ((1 / 128 = (opCtl (Requester.core 1) 17).core.toNat / 128 ∧ running.coreOwner (1) = running.coreOwner (opCtl
      (Requester.core 1) 17).core.toNat) ∧ (running.coreOk (opCtl (Requester.core 1) 17).core.toNat = true) ∧
      (BitVec.getLsbD (opCtl (Requester.core 1) 17).value 1 = false) ∧ (¬((running.coreOwner (opCtl (Requester.core 1)
      17).core.toNat).isSome = true ∧ ((running.core (opCtl (Requester.core 1) 17).core.toNat).mode = CoreMode.halted ∨
      (running.core (opCtl (Requester.core 1) 17).core.toNat).mode = CoreMode.faulted)))) ∧
    ((running.ptEnabled (0) = true ∧ running.coreOwner (opCtl (Requester.host 0) 3).core.toNat = some (0)) ∧ (running.coreOk
      (opCtl (Requester.host 0) 3).core.toNat = true) ∧ (BitVec.getLsbD (opCtl (Requester.host 0) 3).value 1 = true)) ∧
    (((put 33816576 4 4294967295).space = RegSpace.unit 0) ∧ (1 ≤ (put 33816576 4 4294967295).size) ∧ ((put 33816576 4
      4294967295).size ≤ 64) ∧ (mmioUnit (0) (BitVec.toNat (put 33816576 4 4294967295).addr) = some (MUnit.fence 0 0)) ∧
      (running.unitOk (0) (MUnit.fence 0 0) = true) ∧ (unitAccepts (MUnit.fence 0 0) (put 33816576 4 4294967295).size =
      true) ∧ (BitVec.toNat (put 33816576 4 4294967295).addr % (put 33816576 4 4294967295).size = 0) ∧ (0 / 128 = 0 ∧
      running.coreOwner (0) = running.unitOwner (MUnit.fence 0 0))) ∧
    (((put 33824764 4 4294967295).space = RegSpace.unit 0) ∧ (1 ≤ (put 33824764 4 4294967295).size) ∧ ((put 33824764 4
      4294967295).size ≤ 64) ∧ (mmioUnit (0) (BitVec.toNat (put 33824764 4 4294967295).addr) = some (MUnit.fence 1023
      4)) ∧ (running.unitOk (0) (MUnit.fence 1023 4) = true) ∧ (unitAccepts (MUnit.fence 1023 4) (put 33824764 4
      4294967295).size = true) ∧ (BitVec.toNat (put 33824764 4 4294967295).addr % (put 33824764 4 4294967295).size = 0)
      ∧ (0 / 128 = 0 ∧ running.coreOwner (0) = running.unitOwner (MUnit.fence 1023 4))) ∧
    (((put 16777288 4 4294967295).space = RegSpace.unit 0) ∧ (1 ≤ (put 16777288 4 4294967295).size) ∧ ((put 16777288 4
      4294967295).size ≤ 64) ∧ (mmioUnit (0) (BitVec.toNat (put 16777288 4 4294967295).addr) = some (MUnit.core 1 8)) ∧
      (running.unitOk (0) (MUnit.core 1 8) = true) ∧ (unitAccepts (MUnit.core 1 8) (put 16777288 4 4294967295).size =
      true) ∧ (BitVec.toNat (put 16777288 4 4294967295).addr % (put 16777288 4 4294967295).size = 0) ∧ (0 / 128 = 0 ∧
      running.coreOwner (0) = running.unitOwner (MUnit.core 1 8)) ∧ ((put 16777288 4 4294967295).size = 4)) ∧
    (((put 34013184 4 128).space = RegSpace.unit 0) ∧ (1 ≤ (put 34013184 4 128).size) ∧ ((put 34013184 4 128).size ≤ 64) ∧
      (mmioUnit (0) (BitVec.toNat (put 34013184 4 128).addr) = some (MUnit.bar 0 0)) ∧ (running.unitOk (0) (MUnit.bar 0
      0) = true) ∧ (unitAccepts (MUnit.bar 0 0) (put 34013184 4 128).size = true) ∧ (BitVec.toNat (put 34013184 4
      128).addr % (put 34013184 4 128).size = 0) ∧ (0 / 128 = 0 ∧ running.coreOwner (0) = running.unitOwner (MUnit.bar 0
      0)) ∧ ((running.bar (0) 0).arrived = 0) ∧ (BitVec.toNat (put 34013184 4 128).value % 2 ^ (8 * (put 34013184 4
      128).size) % 256 ≤ 128)) ∧
    (((put 33697856 4 2048).space = RegSpace.unit 0) ∧ (1 ≤ (put 33697856 4 2048).size) ∧ ((put 33697856 4 2048).size ≤ 64)
      ∧ (mmioUnit (0) (BitVec.toNat (put 33697856 4 2048).addr) = some (MUnit.me 35 64)) ∧ (running.unitOk (0) (MUnit.me
      35 64) = true) ∧ (unitAccepts (MUnit.me 35 64) (put 33697856 4 2048).size = true) ∧ (BitVec.toNat (put 33697856 4
      2048).addr % (put 33697856 4 2048).size = 0) ∧ (0 / 128 = 0 ∧ running.coreOwner (0) = running.unitOwner (MUnit.me
      35 64))) ∧
    (((put 33910848 4 256).space = RegSpace.unit 0) ∧ (1 ≤ (put 33910848 4 256).size) ∧ ((put 33910848 4 256).size ≤ 64) ∧
      (mmioUnit (0) (BitVec.toNat (put 33910848 4 256).addr) = some (MUnit.eu 7 64)) ∧ (running.unitOk (0) (MUnit.eu 7
      64) = true) ∧ (unitAccepts (MUnit.eu 7 64) (put 33910848 4 256).size = true) ∧ (BitVec.toNat (put 33910848 4
      256).addr % (put 33910848 4 256).size = 0) ∧ (0 / 128 = 0 ∧ running.coreOwner (0) = running.unitOwner (MUnit.eu 7
      64))) ∧
    (((hostPut RegSpace.bar0 0 1).req = Requester.host 0) ∧ (running.ptEnabled (0) = true) ∧ (1 ≤ (hostPut RegSpace.bar0 0
      1).size) ∧ ((hostPut RegSpace.bar0 0 1).size ≤ 64) ∧ ((hostPut RegSpace.bar0 0 1).space = RegSpace.bar0)) ∧
    (((hostPut RegSpace.bar2 131072 64).req = Requester.host 0) ∧ (running.ptEnabled (0) = true) ∧ (1 ≤ (hostPut
      RegSpace.bar2 131072 64).size) ∧ ((hostPut RegSpace.bar2 131072 64).size ≤ 64) ∧ ((hostPut RegSpace.bar2 131072
      64).space = RegSpace.bar2) ∧ (131072 ≤ BitVec.toNat (hostPut RegSpace.bar2 131072 64).addr) ∧ (BitVec.toNat
      (hostPut RegSpace.bar2 131072 64).addr < 196608)) ∧
    (((hostPut RegSpace.bar2 16777215 4).req = Requester.host 0) ∧ (running.ptEnabled (0) = true) ∧ (1 ≤ (hostPut
      RegSpace.bar2 16777215 4).size) ∧ ((hostPut RegSpace.bar2 16777215 4).size ≤ 64) ∧ ((hostPut RegSpace.bar2
      16777215 4).space = RegSpace.bar2) ∧ (BitVec.toNat (hostPut RegSpace.bar2 16777215 4).addr < 131072 ∨ 196608 ≤
      BitVec.toNat (hostPut RegSpace.bar2 16777215 4).addr ∧ BitVec.toNat (hostPut RegSpace.bar2 16777215 4).addr <
      16777216)) ∧
    (((hostPut RegSpace.bar2 16777216 4).req = Requester.host 0) ∧ (running.ptEnabled (0) = true) ∧ (1 ≤ (hostPut
      RegSpace.bar2 16777216 4).size) ∧ ((hostPut RegSpace.bar2 16777216 4).size ≤ 64) ∧ ((hostPut RegSpace.bar2
      16777216 4).space = RegSpace.bar2) ∧ (16777216 ≤ BitVec.toNat (hostPut RegSpace.bar2 16777216 4).addr) ∧
      (BitVec.toNat (hostPut RegSpace.bar2 16777216 4).addr < 34014208)) ∧
    (((hostPut RegSpace.bar2 67568636 4).req = Requester.host 0) ∧ (running.ptEnabled (0) = true) ∧ (1 ≤ (hostPut
      RegSpace.bar2 67568636 4).size) ∧ ((hostPut RegSpace.bar2 67568636 4).size ≤ 64) ∧ ((hostPut RegSpace.bar2
      67568636 4).space = RegSpace.bar2) ∧ (50331648 ≤ BitVec.toNat (hostPut RegSpace.bar2 67568636 4).addr) ∧
      (BitVec.toNat (hostPut RegSpace.bar2 67568636 4).addr < 67568640)) ∧
    (((hostPut RegSpace.bar2 83894264 8).req = Requester.host 0) ∧ (running.ptEnabled (0) = true) ∧ (1 ≤ (hostPut
      RegSpace.bar2 83894264 8).size) ∧ ((hostPut RegSpace.bar2 83894264 8).size ≤ 64) ∧ ((hostPut RegSpace.bar2
      83894264 8).space = RegSpace.bar2) ∧ (83886080 ≤ BitVec.toNat (hostPut RegSpace.bar2 83894264 8).addr) ∧
      (BitVec.toNat (hostPut RegSpace.bar2 83894264 8).addr < 83894272)) ∧
    (((holdPut 196544 64).req = Requester.host 0) ∧ ((holdPut 196544 64).space = RegSpace.hold 1) ∧ (1 ≤ 1) ∧ (1 ≤ 4) ∧ (1 ≤
      (holdPut 196544 64).size) ∧ ((holdPut 196544 64).size ≤ 64) ∧ ((Tab.get { } inRecovery.host.endpts (1)).up = true
      ∧ inRecovery.endpointOk (1) = true ∧ (inRecovery.boot.state = 6 ∧ inRecovery.dnum 10485765 = 1 ∨
      inRecovery.boot.state = 9 ∨ inRecovery.boot.state = 10)) ∧ (131072 ≤ BitVec.toNat (holdPut 196544 64).addr) ∧
      (BitVec.toNat (holdPut 196544 64).addr < 196608)) ∧
    (((holdPut 4096 4).req = Requester.host 0) ∧ ((holdPut 4096 4).space = RegSpace.hold 1) ∧ (1 ≤ 1) ∧ (1 ≤ 4) ∧ (1 ≤
      (holdPut 4096 4).size) ∧ ((holdPut 4096 4).size ≤ 64) ∧ ((Tab.get { } inRecovery.host.endpts (1)).up = true ∧
      inRecovery.endpointOk (1) = true ∧ (inRecovery.boot.state = 6 ∧ inRecovery.dnum 10485765 = 1 ∨
      inRecovery.boot.state = 9 ∨ inRecovery.boot.state = 10)) ∧ (4096 ≤ BitVec.toNat (holdPut 4096 4).addr) ∧
      (BitVec.toNat (holdPut 4096 4).addr < 8192) ∧ (BitVec.toNat (holdPut 4096 4).addr % 4 = 0) ∧ ((holdPut 4096
      4).size = 4)) ∧
    (((holdPut 4096 4).req = Requester.host 0) ∧ ((holdPut 4096 4).space = RegSpace.hold 1) ∧ (1 ≤ 1) ∧ (1 ≤ 4) ∧ (1 ≤
      (holdPut 4096 4).size) ∧ ((holdPut 4096 4).size ≤ 64) ∧ (¬((Tab.get { } running.host.endpts (1)).up = true ∧
      running.endpointOk (1) = true ∧ (running.boot.state = 6 ∧ running.dnum 10485765 = 1 ∨ running.boot.state = 9 ∨
      running.boot.state = 10)))) ∧
    (((holdPut 131068 4).req = Requester.host 0) ∧ ((holdPut 131068 4).space = RegSpace.hold 1) ∧ (1 ≤ 1) ∧ (1 ≤ 4) ∧ (1 ≤
      (holdPut 131068 4).size) ∧ ((holdPut 131068 4).size ≤ 64) ∧ (8192 ≤ BitVec.toNat (holdPut 131068 4).addr ∧
      BitVec.toNat (holdPut 131068 4).addr < 131072 ∧ BitVec.toNat (holdPut 131068 4).addr + (holdPut 131068 4).size ≤
      131072)) ∧
    ((1 ≤ 4) ∧ (4 ≤ 64) ∧ (running.ptEnabled (1) = false)) ∧
    ((1 ≤ 4) ∧ (4 ≤ 64) ∧ (running.ptEnabled (0) = true) ∧ (mmioUnit (0) 33824764 = some (MUnit.fence 1023 4)) ∧
      (running.unitOk (0) (MUnit.fence 1023 4) = true) ∧ (running.unitOwner (MUnit.fence 1023 4) = some (0)) ∧ (33824764
      % 4 = 0)) ∧
    ((1 ≤ 4) ∧ (4 ≤ 64) ∧ (others.ptEnabled (0) = true) ∧ (mmioUnit (0) 16777288 = some (MUnit.core 1 8)) ∧ (others.unitOk
      (0) (MUnit.core 1 8) = true) ∧ (others.unitOwner (MUnit.core 1 8) ≠ some (0))) :=
  by and_intros <;> decide +kernel

end Cores

namespace Vectors

def opV (et : BitVec 3) (zm : Bool) (p : BitVec 3) (d a b : BitVec 5) : OpV :=
  { core := 0, dst := d, src1 := a, src2 := b, et := et, zm := zm, pred := p }
def opVL (et : BitVec 3) (b : BitVec 5) : OpVL :=
  { core := 0, dst := 7, src1 := 8, src2 := b, et := et, zm := true, pred := 2, lce := 0, ecc := {} }
def opC (d a f t : BitVec 5) (r p : BitVec 3) : OpC :=
  { core := 0, dst := d, src1 := a, from_ := f, to_ := t, rnd := r, part := p }
def opA (d a b : BitVec 5) : OpA := { core := 0, dst := d, src1 := a, src2 := b }
def frm5 : State := running.setCore 0 { regs with frm := 5 }

theorem test_met_LanesUnderPredicate :
    (5#3 ≠ 7#3) := by
  decide +kernel

theorem test_met_VectorMemory :
    ((running.coreOk 0 = true ∧ (running.core 0).mode = CoreMode.running) ∧ ((opVL 0 9).ecc = { }) ∧ ((opVL 0 9).et ≠ 7#3) ∧
      (∀ (i : Nat),
      i < 16 → BitVec.getLsbD ((running.core 0).getP (opVL 0 9).pred) i = true → (BitVec.toNat ((running.core 0).getX (opVL 0
      9).src1) + i * BitVec.toNat ((running.core 0).getX (opVL 0 9).src2)) % 18446744073709551616 % 4 = 0 ∧
      (BitVec.toNat ((running.core 0).getX (opVL 0 9).src1) + i * BitVec.toNat ((running.core 0).getX (opVL 0 9).src2)) %
      18446744073709551616 + 4 ≤ 262144 ∧
      running.lmPoisoned ((BitVec.toNat ((running.core 0).getX (opVL 0 9).src1) + i * BitVec.toNat ((running.core 0).getX (opVL
      0 9).src2)) % 18446744073709551616) 4 = false)) ∧
    ((running.coreOk 0 = true ∧ (running.core 0).mode = CoreMode.running) ∧ ((opVL 7 9).ecc = { }) ∧ ((opVL 7 9).et = 7#3)) ∧
    ((running.coreOk 0 = true ∧ (running.core 0).mode = CoreMode.running) ∧ ((opVL 0 9).ecc = { }) ∧
      ((opVL 0 9).et = 0#3 ∨ (opVL 0 9).et = 3#3 ∨ (opVL 0 9).et = 6#3) ∧ (∀ (i : Nat),
      i < 16 → BitVec.getLsbD ((running.core 0).getP (opVL 0 9).pred) i = true → BitVec.toNat ((running.core 0).getX (opVL 0
      9).src1 + BitVec.signExtend 64 (BitVec.extractLsb' (32 * i) 32 ((running.core 0).getV (opVL 0 9).src2))) % 4 = 0 ∧
      BitVec.toNat ((running.core 0).getX (opVL 0 9).src1 + BitVec.signExtend 64 (BitVec.extractLsb' (32 * i) 32 ((running.core
      0).getV (opVL 0 9).src2))) + 4 ≤ 262144 ∧
      running.lmPoisoned (BitVec.toNat ((running.core 0).getX (opVL 0 9).src1 + BitVec.signExtend 64 (BitVec.extractLsb' (32 *
      i) 32 ((running.core 0).getV (opVL 0 9).src2)))) 4 = false)) ∧
    ((running.coreOk 0 = true ∧ (running.core 0).mode = CoreMode.running) ∧ ((opVL 7 9).ecc = { }) ∧
      (¬((opVL 7 9).et = 0#3 ∨ (opVL 7 9).et = 3#3 ∨ (opVL 7 9).et = 6#3))) ∧
    ((running.coreOk 0 = true ∧ (running.core 0).mode = CoreMode.running) ∧ (running.memOk = true) ∧ (∀ (i : Nat),
      i < 16 → (BitVec.getLsbD ((running.core 0).getP (opV 0 true 3 6 8 9).pred) i = true ↔ i = 0)) ∧
      ((opV 0 true 3 6 8 9).et ≠ 7#3) ∧
      ((BitVec.toNat ((running.core 0).getX (opV 0 true 3 6 8 9).src1) + 0 * BitVec.toNat ((running.core 0).getX (opV 0 true 3
      6 8 9).src2)) % 18446744073709551616 % 4 = 0 ∧
      (BitVec.toNat ((running.core 0).getX (opV 0 true 3 6 8 9).src1) + 0 * BitVec.toNat ((running.core 0).getX (opV 0 true 3 6
      8 9).src2)) % 18446744073709551616 + 4 ≤ 262144)) ∧
    ((running.coreOk 0 = true ∧ (running.core 0).mode = CoreMode.running) ∧ (running.memOk = true) ∧ (∀ (i : Nat),
      i < 8 → (BitVec.getLsbD ((running.core 0).getP (opV 7 true 3 6 8 9).pred) i = true ↔ i = 0)) ∧
      ((opV 7 true 3 6 8 9).et = 7#3)) ∧
    ((running.coreOk 0 = true ∧ (running.core 0).mode = CoreMode.running) ∧ (running.memOk = true) ∧ (∀ (i : Nat),
      i < 16 → (BitVec.getLsbD ((running.core 0).getP (opV 0 true 3 6 8 9).pred) i = true ↔ i = 0)) ∧
      ((opV 0 true 3 6 8 9).et = 0#3 ∨ (opV 0 true 3 6 8 9).et = 3#3 ∨ (opV 0 true 3 6 8 9).et = 6#3) ∧
      (BitVec.toNat ((running.core 0).getX (opV 0 true 3 6 8 9).src1 + BitVec.signExtend 64 (BitVec.extractLsb' 0 32
      ((running.core 0).getV (opV 0 true 3 6 8 9).src2))) % 4 = 0 ∧
      BitVec.toNat ((running.core 0).getX (opV 0 true 3 6 8 9).src1 + BitVec.signExtend 64 (BitVec.extractLsb' 0 32
      ((running.core 0).getV (opV 0 true 3 6 8 9).src2))) + 4 ≤ 262144)) ∧
    ((running.coreOk 0 = true ∧ (running.core 0).mode = CoreMode.running) ∧ (running.memOk = true) ∧ (∀ (i : Nat),
      i < 8 → (BitVec.getLsbD ((running.core 0).getP (opV 7 true 3 6 8 9).pred) i = true ↔ i = 0)) ∧
      (¬((opV 7 true 3 6 8 9).et = 0#3 ∨ (opV 7 true 3 6 8 9).et = 3#3 ∨ (opV 7 true 3 6 8 9).et = 6#3))) :=
  by and_intros <;> decide +kernel

theorem test_met_VectorInteger :
    ((running.coreOk 0 = true ∧ (running.core 0).mode = CoreMode.running) ∧
      ((opV 3 true 1 6 5 8).et = 3#3 ∨ (opV 3 true 1 6 5 8).et = 4#3 ∨ (opV 3 true 1 6 5 8).et = 5#3 ∨ (opV 3 true 1 6 5 8).et
      = 6#3)) ∧
    ((running.coreOk 0 = true ∧ (running.core 0).mode = CoreMode.running) ∧
      (¬((opV 0 true 0 7 5 6).et = 3#3 ∨ (opV 0 true 0 7 5 6).et = 4#3 ∨ (opV 0 true 0 7 5 6).et = 5#3 ∨ (opV 0 true 0 7 5
      6).et = 6#3))) ∧
    ((running.coreOk 0 = true ∧ (running.core 0).mode = CoreMode.running) ∧ ((opV 3 true 1 6 5 8).et = 3#3)) ∧
    ((running.coreOk 0 = true ∧ (running.core 0).mode = CoreMode.running) ∧ ((opV 0 true 0 7 5 6).et ≠ 3#3)) :=
  by and_intros <;> decide +kernel

theorem test_met_VectorFloat :
    ((running.coreOk 0 = true ∧ (running.core 0).mode = CoreMode.running) ∧ ((running.core 0).rnd = some Rnd.rne)) ∧
    ((frm5.coreOk 0 = true ∧ (frm5.core 0).mode = CoreMode.running) ∧ (3 < (frm5.core 0).frm.toNat)) :=
  by and_intros <;> decide +kernel

theorem test_met_Reductions :
    ((running.coreOk 0 = true ∧ (running.core 0).mode = CoreMode.running) ∧
      ((opV 3 true 0 7 5 6).et = 3#3 ∨ (opV 3 true 0 7 5 6).et = 4#3 ∨ (opV 3 true 0 7 5 6).et = 5#3 ∨ (opV 3 true 0 7 5 6).et
      = 6#3)) ∧
    ((running.coreOk 0 = true ∧ (running.core 0).mode = CoreMode.running) ∧ ((running.core 0).rnd = some Rnd.rne)) ∧
    ((frm5.coreOk 0 = true ∧ (frm5.core 0).mode = CoreMode.running) ∧ (3 < (frm5.core 0).frm.toNat)) ∧
    ((running.coreOk 0 = true ∧ (running.core 0).mode = CoreMode.running) ∧ ((opV 7 true 0 7 5 6).et = 7#3)) :=
  by and_intros <;> decide +kernel

theorem test_met_PermutationsAndPredicates :
    ((running.coreOk 0 = true ∧ (running.core 0).mode = CoreMode.running) ∧ ((opV 0 true 1 6 5 11).et ≠ 7#3) ∧
      (BitVec.toNat ((running.core 0).getX (opV 0 true 1 6 5 11).src2) < 16)) ∧
    ((running.coreOk 0 = true ∧ (running.core 0).mode = CoreMode.running) ∧ ((opV 7 true 0 7 5 6).et = 7#3)) ∧
    ((running.coreOk 0 = true ∧ (running.core 0).mode = CoreMode.running) ∧ (8 ≤ 8 ∨ 8 ≤ 1 ∨ 8 ≤ 2)) :=
  by and_intros <;> decide +kernel

theorem test_met_Conversions :
    ((running.coreOk (opC 4 5 0 31 0 0).core.toNat = true ∧ (running.core (opC 4 5 0 31 0 0).core.toNat).mode =
      CoreMode.running) ∧ (vcvtCheck (opC 4 5 0 31 0 0).from_.toNat (opC 4 5 0 31 0 0).to_.toNat (opC 4 5 0 31 0
      0).rnd.toNat (opC 4 5 0 31 0 0).part.toNat = some excIllegal)) ∧
    ((running.coreOk (opC 4 5 0 1 4 1).core.toNat = true ∧ (running.core (opC 4 5 0 1 4 1).core.toNat).mode =
      CoreMode.running) ∧ (vcvtCheck (opC 4 5 0 1 4 1).from_.toNat (opC 4 5 0 1 4 1).to_.toNat (opC 4 5 0 1 4
      1).rnd.toNat (opC 4 5 0 1 4 1).part.toNat = none)) ∧
    ((running.coreOk (opC 7 5 0 31 0 0).core.toNat = true ∧ (running.core (opC 7 5 0 31 0 0).core.toNat).mode =
      CoreMode.running) ∧ (vcvtbCheck (opC 7 5 0 31 0 0).to_.toNat (opC 7 5 0 31 0 0).part.toNat ((opC 7 5 0 31 0
      0).rnd.getLsbD 0) ((opC 7 5 0 31 0 0).src1.getLsbD 0) ((opC 7 5 0 31 0 0).dst.getLsbD 0) = some excIllegal)) ∧
    ((running.coreOk (opC 6 5 9 16 1 0).core.toNat = true ∧ (running.core (opC 6 5 9 16 1 0).core.toNat).mode =
      CoreMode.running) ∧ (vcvtbCheck (opC 6 5 9 16 1 0).to_.toNat (opC 6 5 9 16 1 0).part.toNat ((opC 6 5 9 16 1
      0).rnd.getLsbD 0) ((opC 6 5 9 16 1 0).src1.getLsbD 0) ((opC 6 5 9 16 1 0).dst.getLsbD 0) = none) ∧ ((opC 6 5 9 16
      1 0).rnd.getLsbD 0 = true) ∧ ((opC 6 5 9 16 1 0).to_.toNat = 16)) ∧
    ((running.coreOk (opC 6 5 12 17 1 2).core.toNat = true ∧ (running.core (opC 6 5 12 17 1 2).core.toNat).mode =
      CoreMode.running) ∧ (vcvtbCheck (opC 6 5 12 17 1 2).to_.toNat (opC 6 5 12 17 1 2).part.toNat ((opC 6 5 12 17 1
      2).rnd.getLsbD 0) ((opC 6 5 12 17 1 2).src1.getLsbD 0) ((opC 6 5 12 17 1 2).dst.getLsbD 0) = none) ∧ ((opC 6 5 12
      17 1 2).rnd.getLsbD 0 = true) ∧ ((opC 6 5 12 17 1 2).to_.toNat = 17)) ∧
    ((running.coreOk (opC 6 5 9 10 1 0).core.toNat = true ∧ (running.core (opC 6 5 9 10 1 0).core.toNat).mode =
      CoreMode.running) ∧ (vcvtbCheck (opC 6 5 9 10 1 0).to_.toNat (opC 6 5 9 10 1 0).part.toNat ((opC 6 5 9 10 1
      0).rnd.getLsbD 0) ((opC 6 5 9 10 1 0).src1.getLsbD 0) ((opC 6 5 9 10 1 0).dst.getLsbD 0) = none) ∧ ((opC 6 5 9 10
      1 0).rnd.getLsbD 0 = true) ∧ (5 ≤ (opC 6 5 9 10 1 0).to_.toNat) ∧ ((opC 6 5 9 10 1 0).to_.toNat ≤ 10)) ∧
    ((running.coreOk (opC 7 6 9 16 0 0).core.toNat = true ∧ (running.core (opC 7 6 9 16 0 0).core.toNat).mode =
      CoreMode.running) ∧ (vcvtbCheck (opC 7 6 9 16 0 0).to_.toNat (opC 7 6 9 16 0 0).part.toNat ((opC 7 6 9 16 0
      0).rnd.getLsbD 0) ((opC 7 6 9 16 0 0).src1.getLsbD 0) ((opC 7 6 9 16 0 0).dst.getLsbD 0) = none) ∧ ((opC 7 6 9 16
      0 0).rnd.getLsbD 0 = false) ∧ ((opC 7 6 9 16 0 0).to_.toNat = 16)) ∧
    ((running.coreOk (opC 7 6 12 17 0 2).core.toNat = true ∧ (running.core (opC 7 6 12 17 0 2).core.toNat).mode =
      CoreMode.running) ∧ (vcvtbCheck (opC 7 6 12 17 0 2).to_.toNat (opC 7 6 12 17 0 2).part.toNat ((opC 7 6 12 17 0
      2).rnd.getLsbD 0) ((opC 7 6 12 17 0 2).src1.getLsbD 0) ((opC 7 6 12 17 0 2).dst.getLsbD 0) = none) ∧ ((opC 7 6 12
      17 0 2).rnd.getLsbD 0 = false) ∧ ((opC 7 6 12 17 0 2).to_.toNat = 17)) ∧
    ((running.coreOk (opC 7 6 9 5 0 0).core.toNat = true ∧ (running.core (opC 7 6 9 5 0 0).core.toNat).mode =
      CoreMode.running) ∧ (vcvtbCheck (opC 7 6 9 5 0 0).to_.toNat (opC 7 6 9 5 0 0).part.toNat ((opC 7 6 9 5 0
      0).rnd.getLsbD 0) ((opC 7 6 9 5 0 0).src1.getLsbD 0) ((opC 7 6 9 5 0 0).dst.getLsbD 0) = none) ∧ ((opC 7 6 9 5 0
      0).rnd.getLsbD 0 = false) ∧ (5 ≤ (opC 7 6 9 5 0 0).to_.toNat) ∧ ((opC 7 6 9 5 0 0).to_.toNat ≤ 10)) :=
  by and_intros <;> decide +kernel

theorem test_met_VectorCompares :
    ((running.coreOk (opV 0 true 1 7 5 6).core.toNat = true ∧ (running.core (opV 0 true 1 7 5 6).core.toNat).mode =
      CoreMode.running) ∧ ((opV 0 true 1 7 5 6).dst.toNat < 8) ∧ ((opV 0 true 1 7 5 6).et ≠ 7#3) ∧ (decide ((opV 0 true
      1 7 5 6).et.toNat ≤ 2) = true)) ∧
    ((running.coreOk (opV 3 true 1 7 5 6).core.toNat = true ∧ (running.core (opV 3 true 1 7 5 6).core.toNat).mode =
      CoreMode.running) ∧ ((opV 3 true 1 7 5 6).dst.toNat < 8) ∧ ((opV 3 true 1 7 5 6).et ≠ 7#3)) ∧
    ((running.coreOk (opV 0 true 1 8 5 6).core.toNat = true ∧ (running.core (opV 0 true 1 8 5 6).core.toNat).mode =
      CoreMode.running) ∧ (8 ≤ (opV 0 true 1 8 5 6).dst.toNat)) ∧
    ((running.coreOk (opV 7 true 0 7 5 6).core.toNat = true ∧ (running.core (opV 7 true 0 7 5 6).core.toNat).mode =
      CoreMode.running) ∧ ((opV 7 true 0 7 5 6).et = 7#3)) :=
  by and_intros <;> decide +kernel

end Vectors

namespace Engines

/-- A GEMM of INT8 2 × 4 by 4 × 2 to INT32, a REDUCE_PARTIALS of 2 × 2, a SYNC, and a descriptor of an unlisted format
pair. -/
def gemm : Vec := word [(0, 1), (4, 11), (8, 11), (12, 13), (25, 1), (29, 1), (42, 5), (52, 9), (64, 2), (80, 2), (96, 4),
  (112, 1), (128, 0x40), (152, 0x80), (176, 1), (192, 0xC0), (240, 1)]
def reduce : Vec := word [(0, 2), (52, 9), (64, 2), (80, 2), (96, 2), (192, 0xC0), (216, 0x100), (240, 1), (304, 1)]
def sync : Vec := word [(0, 3), (25, 1), (52, 9)]
def badPair : Vec := word [(0, 1), (4, 11), (52, 9)]
def item (w : Vec) : Queued := ⟨w, 0⟩
def heads (w : Vec) : State := wit.setEngine 0 { ({} : Engine) with queue := [item w] }
def runs (w : Vec) : State := wit.setEngine 0 { ({} : Engine) with run := some ⟨item w, 0⟩ }
def unit0 : UnitStartOp := ⟨0, {}⟩
def unitOp : UnitOp := ⟨0⟩
def push (r : Requester) : PushOp := ⟨r, 0, vecA⟩
def flush (r : Requester) : FlushOp := ⟨r, 0⟩
def waiting (n m : Nat) : State :=
  (wit.setEngine 0 { ({} : Engine) with queue := List.replicate n (item vecB) }).setEu 0
    { ({} : Eu) with queue := List.replicate m (item vecB) }
def fenceOp : FenceOp := ⟨.core 0, 0, 1023, 0xFFFFFFFF⟩
def dot128 : MeDesc := { meDesc gemm with k := 128, accI := false }
def bytes0 : Scratch := fun a n => (List.range n).map (fun i => BitVec.ofNat 8 (a + i))
def rne0 : MeRound := ⟨true, fun _ _ => .rne⟩
def current : Running := ⟨item gemm, 0⟩

theorem test_met_UnitQueues :
    (((waiting 63 31).meOk 0 = true) ∧ (((waiting 63 31).meOwner 0).isSome = true) ∧ (0 = 0 ∧
      (waiting 63 31).coreOwner 3 = (waiting 63 31).meOwner 0) ∧
      ((flush (Requester.core 3)).unit = (push (Requester.core 3)).unit) ∧
      ((flush (Requester.core 3)).req = (push (Requester.core 3)).req) ∧ (((waiting 63 31).engine 0).queue.length < 64)) ∧
    (((waiting 64 32).meOk 0 = true) ∧ (((waiting 64 32).meOwner 0).isSome = true) ∧ (0 = 0 ∧
      (waiting 64 32).coreOwner 3 = (waiting 64 32).meOwner 0) ∧
      ((flush (Requester.core 3)).unit = (push (Requester.core 3)).unit) ∧
      ((flush (Requester.core 3)).req = (push (Requester.core 3)).req) ∧ (64 ≤ ((waiting 64 32).engine 0).queue.length)) ∧
    (((waiting 63 31).euOk 0 = true) ∧ (((waiting 63 31).euOwner 0).isSome = true) ∧ (0 = 0 ∧
      (waiting 63 31).coreOwner 3 = (waiting 63 31).euOwner 0) ∧
      ((flush (Requester.core 3)).unit = (push (Requester.core 3)).unit) ∧
      ((flush (Requester.core 3)).req = (push (Requester.core 3)).req) ∧ (((waiting 63 31).eu 0).queue.length < 32)) ∧
    (((waiting 64 32).euOk 0 = true) ∧ (((waiting 64 32).euOwner 0).isSome = true) ∧ (0 = 0 ∧
      (waiting 64 32).coreOwner 3 = (waiting 64 32).euOwner 0) ∧
      ((flush (Requester.core 3)).unit = (push (Requester.core 3)).unit) ∧
      ((flush (Requester.core 3)).req = (push (Requester.core 3)).req) ∧ (32 ≤ ((waiting 64 32).eu 0).queue.length)) ∧
    ((Tab.wf 0 (waiting 64 32).fences = true) ∧ (0 < (waiting 64 32).variant.tiles) ∧ (0 = 0 ∧
      (waiting 64 32).coreOwner 0 = (waiting 64 32).fenceOwner 1023)) :=
  by and_intros <;> decide +kernel

/-- A descriptor of INT8 by INT8 to INT32 with K = 16. -/
theorem test_met_EngineIntegerDot : ∃ d : MeDesc, d.op = 1 ∧ d.fa = 11 ∧ d.fb = 11 ∧ d.fc = 13 ∧ d.accI = false ∧ 1 ≤ d.k ∧
    d.k ≤ 128 := ⟨{ meDesc gemm with k := 16 }, by decide +kernel⟩

def noOp : Vec := word [(0, 0), (52, 9), (240, 1)]
def behind : State := wit.setEngine 0 { ({} : Engine) with queue := [item gemm], run := some current }
/-- Partition 1 holds all scratch. -/
def without (w : Vec) : State :=
  let s := ((heads w).dput 0x310009 (leBytes 8 0)).dput 0x320009 (leBytes 8 (768 * 2 ^ 16 + 768 * 2 ^ 48))
  { s with host := { s.host with pt := [(0, .enabled), (1, .enabled)] } }

/-- One GEMM writes and the next has begun; a reduction waits behind a GEMM. -/
def both : State := wit.setEngine 0 { ({} : Engine) with queue := [item gemm], run := some current, ahead := some current }
/-- A GEMM whose first tile is loaded, with another that streams ahead of it or not; a reserved opcode behind it. -/
def loaded (ahead : Option Running) : State :=
  wit.setEngine 0 { ({} : Engine) with run := some current, ahead := ahead, next := some (item gemm) }
def thenBad : State := wit.setEngine 0 { ({} : Engine) with run := some current, next := some (item gemm), queue := [item noOp] }
def waitsReduce : State := wit.setEngine 0 { ({} : Engine) with queue := [item reduce], run := some current }

theorem test_met_EngineRuns :
    ((unitOp.unit = unit0.unit) ∧ ((heads gemm).meOk unit0.unit.toNat = true) ∧ (((heads gemm).engine unit0.unit.toNat).next
      = none) ∧ (((heads gemm).engine unit0.unit.toNat).queue = [item gemm]) ∧ ((heads gemm).meReady unit0.unit.toNat
      (meDesc (item gemm).word) = true) ∧ (((heads gemm).engine unit0.unit.toNat).run = none) ∧ ((meDesc (item
      gemm).word).check = 0) ∧ ((heads gemm).meForeign (unit0.unit.toNat / 36) ((heads gemm).byPart (item gemm).by_)
      (meDesc (item gemm).word) = false) ∧ ((meDesc (item gemm).word).op = 1) ∧ (((heads gemm).engine
      unit0.unit.toNat).ahead = none)) ∧
    ((unitOp.unit = unit0.unit) ∧ (behind.meOk unit0.unit.toNat = true) ∧ ((behind.engine unit0.unit.toNat).next = none) ∧
      ((behind.engine unit0.unit.toNat).queue = [item gemm]) ∧ (behind.meReady unit0.unit.toNat (meDesc (item
      gemm).word) = true) ∧ ((behind.engine unit0.unit.toNat).run = some current) ∧ ((meDesc ((behind.engine
      unit0.unit.toNat).ahead.getD current).item.word).op = 1) ∧ ((meDesc (item gemm).word).check = 0) ∧
      (behind.meForeign (unit0.unit.toNat / 36) (behind.byPart (item gemm).by_) (meDesc (item gemm).word) = false) ∧
      ((meDesc (item gemm).word).op = 1) ∧ ((behind.engine unit0.unit.toNat).ahead = none)) ∧
    ((unitOp.unit = unit0.unit) ∧ ((heads reduce).meOk unit0.unit.toNat = true) ∧ (((heads reduce).engine
      unit0.unit.toNat).next = none) ∧ (((heads reduce).engine unit0.unit.toNat).queue = [item reduce]) ∧ ((heads
      reduce).meReady unit0.unit.toNat (meDesc (item reduce).word) = true) ∧ (((heads reduce).engine
      unit0.unit.toNat).run = none) ∧ ((meDesc (item reduce).word).check = 0) ∧ ((heads reduce).meForeign
      (unit0.unit.toNat / 36) ((heads reduce).byPart (item reduce).by_) (meDesc (item reduce).word) = false) ∧ ((meDesc
      (item reduce).word).op = 2) ∧ (((heads reduce).engine unit0.unit.toNat).ahead = none)) ∧
    ((unitOp.unit = unit0.unit) ∧ ((heads sync).meOk unit0.unit.toNat = true) ∧ (((heads sync).engine unit0.unit.toNat).next
      = none) ∧ (((heads sync).engine unit0.unit.toNat).queue = [item sync]) ∧ ((heads sync).meReady unit0.unit.toNat
      (meDesc (item sync).word) = true) ∧ (((heads sync).engine unit0.unit.toNat).run = none) ∧ ((meDesc (item
      sync).word).check = 0) ∧ ((heads sync).meForeign (unit0.unit.toNat / 36) ((heads sync).byPart (item sync).by_)
      (meDesc (item sync).word) = false) ∧ ((meDesc (item sync).word).op = 3) ∧ (((heads sync).engine
      unit0.unit.toNat).ahead = none)) ∧
    ((unitOp.unit = unit0.unit) ∧ (both.meOk unit0.unit.toNat = true) ∧ ((both.engine unit0.unit.toNat).next = none) ∧
      ((both.engine unit0.unit.toNat).queue = [item gemm]) ∧ (both.meReady unit0.unit.toNat (meDesc (item gemm).word) =
      true) ∧ ((both.engine unit0.unit.toNat).run = some current) ∧ ((meDesc ((both.engine unit0.unit.toNat).ahead.getD
      current).item.word).op = 1) ∧ ((meDesc (item gemm).word).check = 0) ∧ (both.meForeign (unit0.unit.toNat / 36)
      (both.byPart (item gemm).by_) (meDesc (item gemm).word) = false) ∧ ((meDesc (item gemm).word).op = 1) ∧
      ((both.engine unit0.unit.toNat).run ≠ none) ∧ ((both.engine unit0.unit.toNat).ahead ≠ none)) ∧
    ((unitOp.unit = unit0.unit) ∧ (waitsReduce.meOk unit0.unit.toNat = true) ∧ ((waitsReduce.engine unit0.unit.toNat).next =
      none) ∧ ((waitsReduce.engine unit0.unit.toNat).queue = [item reduce]) ∧ (waitsReduce.meReady unit0.unit.toNat
      (meDesc (item reduce).word) = true) ∧ ((waitsReduce.engine unit0.unit.toNat).run = some current) ∧ ((meDesc
      ((waitsReduce.engine unit0.unit.toNat).ahead.getD current).item.word).op = 1) ∧ ((meDesc (item reduce).word).check
      = 0) ∧ (waitsReduce.meForeign (unit0.unit.toNat / 36) (waitsReduce.byPart (item reduce).by_) (meDesc (item
      reduce).word) = false) ∧ ((waitsReduce.engine unit0.unit.toNat).run ≠ none) ∧ ((meDesc (item reduce).word).op ≠ 1)
      ∧ ((if (meDesc (item reduce).word).op = 1 then some (Instr.meGemm unit0) else if (meDesc (item reduce).word).op =
      2 then some (Instr.meReducePartials unit0) else if (meDesc (item reduce).word).op = 3 then some (Instr.meSync
      unitOp) else none) = some (Instr.meReducePartials unit0))) ∧
    ((unitOp.unit = unit0.unit) ∧ ((heads badPair).meOk unit0.unit.toNat = true) ∧ (((heads badPair).engine
      unit0.unit.toNat).next = none) ∧ (((heads badPair).engine unit0.unit.toNat).queue = [item badPair]) ∧ ((heads
      badPair).meReady unit0.unit.toNat (meDesc (item badPair).word) = true) ∧ (((heads badPair).engine
      unit0.unit.toNat).run = none) ∧ ((if (meDesc (item badPair).word).op = 1 then some (Instr.meGemm unit0) else if
      (meDesc (item badPair).word).op = 2 then some (Instr.meReducePartials unit0) else if (meDesc (item
      badPair).word).op = 3 then some (Instr.meSync unitOp) else none) = some (Instr.meGemm unit0)) ∧ ((meDesc (item
      badPair).word).check ≠ 0)) ∧
    ((unitOp.unit = unit0.unit) ∧ ((without gemm).meOk unit0.unit.toNat = true) ∧ (((without gemm).engine
      unit0.unit.toNat).next = none) ∧ (((without gemm).engine unit0.unit.toNat).queue = [item gemm]) ∧ ((without
      gemm).meReady unit0.unit.toNat (meDesc (item gemm).word) = true) ∧ (((without gemm).engine unit0.unit.toNat).run =
      none) ∧ ((if (meDesc (item gemm).word).op = 1 then some (Instr.meGemm unit0) else if (meDesc (item gemm).word).op
      = 2 then some (Instr.meReducePartials unit0) else if (meDesc (item gemm).word).op = 3 then some (Instr.meSync
      unitOp) else none) = some (Instr.meGemm unit0)) ∧ ((meDesc (item gemm).word).check = 0) ∧ ((without
      gemm).meForeign (unit0.unit.toNat / 36) ((without gemm).byPart (item gemm).by_) (meDesc (item gemm).word) = true))
      ∧
    ((unitOp.unit = unit0.unit) ∧ ((heads noOp).meOk unit0.unit.toNat = true) ∧ (((heads noOp).engine unit0.unit.toNat).next
      = none) ∧ (((heads noOp).engine unit0.unit.toNat).queue = [item noOp]) ∧ ((heads noOp).meReady unit0.unit.toNat
      (meDesc (item noOp).word) = true) ∧ (((heads noOp).engine unit0.unit.toNat).run = none) ∧ ((meDesc (item
      noOp).word).check = 1)) ∧
    ((unitOp.unit = unit0.unit) ∧ ((loaded none).meOk unit0.unit.toNat = true) ∧ (((loaded none).engine
      unit0.unit.toNat).next = some (item gemm)) ∧ (((loaded none).engine unit0.unit.toNat).ahead = none)) ∧
    ((unitOp.unit = unit0.unit) ∧ ((loaded (some current)).meOk unit0.unit.toNat = true) ∧ (((loaded (some current)).engine
      unit0.unit.toNat).next = some (item gemm)) ∧ (((loaded (some current)).engine unit0.unit.toNat).ahead ≠ none)) ∧
    ((unitOp.unit = unit0.unit) ∧ (((runs gemm).engine unit0.unit.toNat).run = some current) ∧ (((runs gemm).engine
      unit0.unit.toNat).queue = [])) ∧
    ((unitOp.unit = unit0.unit) ∧ ((behind.engine unit0.unit.toNat).run = some current) ∧ ((behind.engine
      unit0.unit.toNat).queue = [item gemm]) ∧ ((meDesc (item gemm).word).check ≠ 1)) ∧
    ((unitOp.unit = unit0.unit) ∧ ((thenBad.engine unit0.unit.toNat).run = some current) ∧ ((thenBad.engine
      unit0.unit.toNat).queue = [item noOp]) ∧ ((thenBad.engine unit0.unit.toNat).next ≠ none)) :=
  by and_intros <;> decide +kernel

end Engines

namespace Tables

/-- Objects 0 to 2 in T1: rows, stage and exchange of table 0, and the table: BF16, 16 elements, 8 rows of rank 0. -/
def rowsObj : Vec := word [(0, 1), (5, 1), (64, 512), (192, 0x1000)]
def stageObj : Vec := word [(0, 1), (16, 1), (64, 512), (192, 0x2000)]
def exchObj : Vec := word [(0, 1), (16, 2), (64, 1024), (192, 0x3000)]
def table0 : Vec := word [(0, 1), (5, 1), (128, 1), (192, 8), (272, 0xFFFF), (288, 1), (304, 2)]
def tables : State := { wit with
  mem := { wit.mem with objects := [(0, some rowsObj), (1, some stageObj), (2, some exchObj)] }
  emb := { wit.emb with tables := [(0, some table0)] }
  t0 := [(0x2004, 1)]
  t1 := [(0x1008, 0x80), (0x1009, 0x3F), (0x100A, 0x40), (0x100B, 0xC0)] }
def command (op : Nat) : Queued :=
  ⟨word [(0, op), (25, 1), (29, 1), (42, 6), (52, 9), (80, 1), (88, 1), (112, 1), (128, 0x40), (152, 0x80), (192, 0x100),
    (216, 0xC0), (320, 0x3F800000)], 0⟩
def heads (op : Nat) : State := tables.setEu 0 { ({} : Eu) with queue := [command op] }
def applying : State := { heads 4 with sched := { wit.sched with state := 7, active := true } }
def doneRun : EuRun := { item := command 1, code := 3, ready := true }
def finished : State := tables.setEu 0 { ({} : Eu) with run := some doneRun }
def row7 : Nat × Nat × Nat := (1, 0x11C0, 1)
def unitN : BitVec 7 := 0
def unitOp : UnitOp := ⟨0⟩
/-- A row asked for from another module at tick 10, and now at tick 74 or not; a step with one exchange entry of room. -/
def rowOp : RowOp := ⟨0, 0, 0, 3, 5, {}, {}, []⟩
def rowKey (n : Nat) : RowKey := ⟨0, 0, 0, n⟩
def awaits : EuRun := { item := command 1, code := 0, need := [(rowKey 3, 10), (rowKey 4, 20)] }
def waits (t : Nat) : State :=
  { tables.setEu 0 { ({} : Eu) with run := some awaits } with clk := { wit.clk with edges := t } }
def row3 : Nat × Nat × Nat := (1, 0x10C0, 1)
def reply3 : RowReplyOp := ⟨0, 0, 0, 3, some [1]⟩
def late3 : RowTimeoutOp := ⟨0, 0, 0, 0, 3⟩
def entry (n : Nat) : ExchEnt := ⟨0, n, 1, []⟩
def smallExch : State := { tables with mem := { tables.mem with
  objects := [(0, some rowsObj), (1, some stageObj), (2, some (word [(0, 1), (16, 2), (64, 256), (192, 0x3000)]))] } }
def fullHalf : State := smallExch.setStep 0 0 { recv := [entry 1], ends := [(3, 0)] }
def exchOp : ExchOp := ⟨0, 0, 0, 3, 2, List.replicate 16 0x3F800000⟩
def endOp (src : Nat) : ExchEndOp := ⟨0, 0, src, 1⟩
/-- Table 0 with a mirror object 3 at this module's buddy, and replicas. -/
def mirrorObj : Vec := word [(0, 1), (3, 1), (16, 3), (64, 512), (192, 0x5000)]
def tableM : Vec := word [(0, 1), (5, 1), (17, 1), (128, 1), (192, 8), (272, 3), (288, 1), (304, 2), (320, 4), (336, 2)]
def mirrored : State := { tables with
  emb := { tables.emb with tables := [(0, some tableM)] }
  mem := { tables.mem with objects := tables.mem.objects ++
    [(3, some mirrorObj), (4, some (word [(0, 1), (16, 4), (64, 512), (192, 0x6000)]))] } }
def mirrorOp (obj : BitVec 16) : MirrorOp := ⟨0, obj, 0, 2, 1, List.replicate 64 7⟩
def replicaOp : ReplicaOp := ⟨0, 0, 0, 2, 1, List.replicate 32 7⟩
def ackRun : EuRun := { item := command 4, code := 0, acks := [(3, rowKey 2)], discard := [(0, 3)] }
def acking : State := tables.setEu 1 { ({} : Eu) with run := some ackRun }
def taken (n : Nat) (s : State) : Eu := { s.eu 0 with run := some { item := command n, code := 0 }, headTag := 9 }

theorem test_met_Pooling :
    ([1065353216, 1073741824] ≠ []) ∧ (∀ (x : Nat), x ∈ [1065353216, 1073741824] → f32Nan x = false) := by
  decide +kernel

theorem test_met_Pooling_more :
    ((2143289345 ∈ [1065353216, 2143289345]) ∧ (f32Nan 2143289345 = true)) ∧
    ([1065353216, 0].length = [1065353216, 1073741824].length) :=
  by and_intros <;> decide +kernel

/-- No unit but one that the table lists runs. -/
theorem eu_idle {s : State} {k : Nat} {x : Eu} (h : s.eus = [(k, x)]) : ∀ m : Nat, m ≠ k → (s.eu m).run = none := by
  intro m hm
  have h2 : ¬ k = m := fun e => hm e.symm
  simp only [State.eu, h, Tab.get, h2, if_false]
  split <;> rfl

def startOp : EuStartOp := ⟨0, {}, {}, {}, []⟩
/-- What a start makes of the state: error correction has reported; the head has begun; the rows of other modules are asked for. -/
def noted (s : State) : State :=
  (((s.noteEcc 0 startOp.ecc false).noteEcc 1 startOp.t1 false).noteEcc 2 startOp.t2 false).rcBad startOp.bad
def began (s : State) (op : Nat) : State :=
  (noted s).setEu startOp.unit.toNat { (noted s).eu startOp.unit.toNat with
    queue := [], run := some { item := command op, code := 0 }, headTag := (euCmd (command op).word).tag }
def keysOf (s : State) (t : TblDesc) : List RowKey :=
  (began s 1).euKeys startOp.unit.toNat (s.byPart (command 1).by_) (euCmd (command 1).word) t
def farOf (s : State) (t : TblDesc) : List RowKey := (keysOf s t).filter (fun k => !(began s 1).servedHere t k.shard)
def asked (s : State) (t : TblDesc) : State := (farOf s t).foldl (fun x k => x.sendMsg (x.serves (t.shardRank k.shard)) 3
  (.rowReq (s.byPart (command 1).by_) (euCmd (command 1).word).table k.shard k.slot x.rank)) (began s 1)
def waitsFor (s : State) (t : TblDesc) : State := (asked s t).setEu startOp.unit.toNat { (asked s t).eu startOp.unit.toNat with
  run := some { item := command 1, code := 0, need := (farOf s t).map (fun k => (k, (asked s t).clk.edges)) } }
/-- The rows of table 0 at another module; under repair here; and the partition without scratch. -/
def table1 : Vec := word [(0, 1), (5, 1), (128, 1), (144, 1), (192, 8), (272, 0xFFFF), (288, 1), (304, 2)]
def far : State := { heads 1 with emb := { tables.emb with tables := [(0, some table1)] } }
def repairs : List Poison := [⟨⟨1, 0x1000⟩, 3, false, true, false, false⟩, ⟨⟨1, 0x1100⟩, 3, false, true, false, false⟩]
def mending (s : State) : State := { s.dput 0x700001 [1#8] with mem := { s.mem with poison := repairs } }
def graded : State := applying.setStep 0 0 { recv := [entry 7] }
def bare : State := (heads 1).dput 0x310009 (leBytes 8 0)
def done4 : EuRun := { item := command 4, code := 0, ready := true }
def applied : State := tables.setEu 0 { ({} : Eu) with run := some done4 }
def waitsAck : State := tables.setEu 0 { ({} : Eu) with run := some { done4 with acks := [(3, rowKey 2)] } }
/-- Phase EXCHANGE, with room, with a full receive half, and REDUCE after its deadline. -/
def inPhase (n : Nat) (s : State) : State := { s with sched := { s.sched with state := n, active := true } }
def noTables : State := { tables with emb := { tables.emb with tables := [] } }
/-- A step in which the table's updates have been dropped. -/
def droppedStep : State := mirrored.setStep 0 0 { dropped := true }
def bigMirror : MirrorOp := { mirrorOp 3 with record := List.replicate 512 7 }
def smallStage : State := { mirrored with mem := { mirrored.mem with
  objects := (1, some (word [(0, 1), (16, 1), (64, 64), (192, 0x2000)])) :: mirrored.mem.objects } }

theorem test_met_EuRuns :
    ((far.euOk startOp.unit.toNat = true) ∧ ((far.eu startOp.unit.toNat).run = none) ∧ ((far.eu startOp.unit.toNat).queue =
      [command 1]) ∧ (far.euReady startOp.unit.toNat (euCmd (command 1).word) = true) ∧ (((noted far).euCheck
      startOp.unit.toNat (far.byPart (command 1).by_) (euCmd (command 1).word)).fst = 0) ∧ ((noted far).tbl (far.byPart
      (command 1).by_) (euCmd (command 1).word).table = some (tblDesc table1)) ∧ ((euCmd (command 1).word).op = 1) ∧
      (farOf far (tblDesc table1) ≠ [])) ∧
    (((heads 1).euOk startOp.unit.toNat = true) ∧ (((heads 1).eu startOp.unit.toNat).run = none) ∧ (((heads 1).eu
      startOp.unit.toNat).queue = [command 1]) ∧ ((heads 1).euReady startOp.unit.toNat (euCmd (command 1).word) = true)
      ∧ (((noted (heads 1)).euCheck startOp.unit.toNat ((heads 1).byPart (command 1).by_) (euCmd (command 1).word)).fst
      = 0) ∧ ((noted (heads 1)).tbl ((heads 1).byPart (command 1).by_) (euCmd (command 1).word).table = some (tblDesc
      table0)) ∧ ((euCmd (command 1).word).op = 1) ∧ (farOf (heads 1) (tblDesc table0) = []) ∧ ((waitsFor (heads 1)
      (tblDesc table0)).gatherWaits (tblDesc table0) (keysOf (heads 1) (tblDesc table0)) = [])) ∧
    (((mending (heads 1)).euOk startOp.unit.toNat = true) ∧ (((mending (heads 1)).eu startOp.unit.toNat).run = none) ∧
      (((mending (heads 1)).eu startOp.unit.toNat).queue = [command 1]) ∧ ((mending (heads 1)).euReady
      startOp.unit.toNat (euCmd (command 1).word) = true) ∧ (((noted (mending (heads 1))).euCheck startOp.unit.toNat
      ((mending (heads 1)).byPart (command 1).by_) (euCmd (command 1).word)).fst = 0) ∧ ((noted (mending (heads 1))).tbl
      ((mending (heads 1)).byPart (command 1).by_) (euCmd (command 1).word).table = some (tblDesc table0)) ∧ ((euCmd
      (command 1).word).op = 1) ∧ (farOf (mending (heads 1)) (tblDesc table0) = []) ∧ ((waitsFor (mending (heads 1))
      (tblDesc table0)).gatherWaits (tblDesc table0) (keysOf (mending (heads 1)) (tblDesc table0)) ≠ [])) ∧
    (((heads 2).euOk startOp.unit.toNat = true) ∧ (((heads 2).eu startOp.unit.toNat).run = none) ∧ (((heads 2).eu
      startOp.unit.toNat).queue = [command 2]) ∧ ((heads 2).euReady startOp.unit.toNat (euCmd (command 2).word) = true)
      ∧ (((noted (heads 2)).euCheck startOp.unit.toNat ((heads 2).byPart (command 2).by_) (euCmd (command 2).word)).fst
      = 0) ∧ ((noted (heads 2)).tbl ((heads 2).byPart (command 2).by_) (euCmd (command 2).word).table = some (tblDesc
      table0)) ∧ ((euCmd (command 2).word).op = 2)) ∧
    (((heads 3).euOk startOp.unit.toNat = true) ∧ (((heads 3).eu startOp.unit.toNat).run = none) ∧ (((heads 3).eu
      startOp.unit.toNat).queue = [command 3]) ∧ ((heads 3).euReady startOp.unit.toNat (euCmd (command 3).word) = true)
      ∧ (((noted (heads 3)).euCheck startOp.unit.toNat ((heads 3).byPart (command 3).by_) (euCmd (command 3).word)).fst
      = 0) ∧ ((noted (heads 3)).tbl ((heads 3).byPart (command 3).by_) (euCmd (command 3).word).table = some (tblDesc
      table0)) ∧ ((euCmd (command 3).word).op = 3)) ∧
    ((applying.euOk startOp.unit.toNat = true) ∧ ((applying.eu startOp.unit.toNat).run = none) ∧ ((applying.eu
      startOp.unit.toNat).queue = [command 4]) ∧ (applying.euReady startOp.unit.toNat (euCmd (command 4).word) = true) ∧
      (((noted applying).euCheck startOp.unit.toNat (applying.byPart (command 4).by_) (euCmd (command 4).word)).fst = 0)
      ∧ ((noted applying).tbl (applying.byPart (command 4).by_) (euCmd (command 4).word).table = some (tblDesc table0))
      ∧ ((euCmd (command 4).word).op = 4) ∧ (applying.applyDue = true) ∧ ((began applying 4).applyWaits (applying.byPart
      (command 4).by_) (euCmd (command 4).word) = false)) ∧
    (((mending graded).euOk startOp.unit.toNat = true) ∧ (((mending graded).eu startOp.unit.toNat).run = none) ∧ (((mending
      graded).eu startOp.unit.toNat).queue = [command 4]) ∧ ((mending graded).euReady startOp.unit.toNat (euCmd (command
      4).word) = true) ∧ (((noted (mending graded)).euCheck startOp.unit.toNat ((mending graded).byPart (command 4).by_)
      (euCmd (command 4).word)).fst = 0) ∧ ((noted (mending graded)).tbl ((mending graded).byPart (command 4).by_)
      (euCmd (command 4).word).table = some (tblDesc table0)) ∧ ((euCmd (command 4).word).op = 4) ∧ ((mending
      graded).applyDue = true) ∧ ((began (mending graded) 4).applyWaits ((mending graded).byPart (command 4).by_) (euCmd
      (command 4).word) = true)) ∧
    (((heads 4).euOk startOp.unit.toNat = true) ∧ (((heads 4).eu startOp.unit.toNat).run = none) ∧ (((heads 4).eu
      startOp.unit.toNat).queue = [command 4]) ∧ ((heads 4).euReady startOp.unit.toNat (euCmd (command 4).word) = true)
      ∧ (((noted (heads 4)).euCheck startOp.unit.toNat ((heads 4).byPart (command 4).by_) (euCmd (command 4).word)).fst
      = 0) ∧ ((noted (heads 4)).tbl ((heads 4).byPart (command 4).by_) (euCmd (command 4).word).table = some (tblDesc
      table0)) ∧ ((euCmd (command 4).word).op = 4) ∧ ((heads 4).applyDue = false)) ∧
    ((bare.euOk startOp.unit.toNat = true) ∧ ((bare.eu startOp.unit.toNat).run = none) ∧ ((bare.eu startOp.unit.toNat).queue
      = [command 1]) ∧ (bare.euReady startOp.unit.toNat (euCmd (command 1).word) = true) ∧ (((euCmd (command
      1).word).op, Instr.euGather startOp) ∈ [(1, Instr.euGather startOp), (2, Instr.euScatterAdd startOp), (3,
      Instr.euPrefetch startOp), (4, Instr.euApply startOp)]) ∧ ((noted bare).euCheck startOp.unit.toNat (bare.byPart
      (command 1).by_) (euCmd (command 1).word) = (4, some 8192)) ∧ (4 ≠ 0)) ∧
    (((heads 5).euOk unitOp.unit.toNat = true) ∧ (((heads 5).eu unitOp.unit.toNat).run = none) ∧ (((heads 5).eu
      unitOp.unit.toNat).queue = [command 5]) ∧ ((heads 5).euReady unitOp.unit.toNat (euCmd (command 5).word) = true) ∧
      ((euCmd (command 5).word).op = 5)) ∧
    (((((finished.gatherTry unitOp.unit.toNat).applyTry unitOp.unit.toNat).eu unitOp.unit.toNat).run = some doneRun) ∧
      (doneRun.ready = true) ∧ (doneRun.acks = []) ∧ (doneRun.discard = [])) ∧
    (((((applied.gatherTry unitOp.unit.toNat).applyTry unitOp.unit.toNat).eu unitOp.unit.toNat).run = some done4) ∧
      (done4.ready = true) ∧ (done4.acks = []) ∧ (done4.discard = [])) ∧
    (((((waitsAck.gatherTry unitOp.unit.toNat).applyTry unitOp.unit.toNat).eu unitOp.unit.toNat).run = some
      { done4 with acks := [(3, rowKey 2)] }) ∧ (¬(done4.ready = true ∧ [(3, rowKey 2)] = [] ∧ done4.discard = []))) ∧
    ((((heads 7).eu unitOp.unit.toNat).run = none) ∧ (((heads 7).eu unitOp.unit.toNat).queue = [command 7]) ∧ ((heads
      7).euOk unitOp.unit.toNat = true) ∧ ((heads 7).euReady unitOp.unit.toNat (euCmd (command 7).word) = true) ∧
      (((heads 7).euCheck unitOp.unit.toNat ((heads 7).byPart (command 7).by_) (euCmd (command 7).word)).fst = 1)) :=
  by and_intros <;> decide +kernel

theorem test_met_RowsBetweenModules :
    ((((((mending tables).noteEcc 1 rowOp.t1 false).noteEcc 2 rowOp.t2 false).rcBad rowOp.bad).tbl rowOp.part.toNat
      rowOp.table.toNat = some (tblDesc table0)) ∧ (((((mending tables).noteEcc 1 rowOp.t1 false).noteEcc 2 rowOp.t2
      false).rcBad rowOp.bad).recordAt rowOp.part.toNat (tblDesc table0) rowOp.shard rowOp.slot = some row3) ∧
      ((((((mending tables).noteEcc 1 rowOp.t1 false).noteEcc 2 rowOp.t2 false).rcBad rowOp.bad).touchLines (row3.fst,
      row3.snd.fst, (tblDesc table0).recLen, row3.snd.snd) false).rowBad
      { part := rowOp.part.toNat, table := rowOp.table.toNat, shard := rowOp.shard, slot := rowOp.slot } = true)) ∧
    (((((tables.noteEcc 1 rowOp.t1 false).noteEcc 2 rowOp.t2 false).rcBad rowOp.bad).tbl rowOp.part.toNat rowOp.table.toNat
      = some (tblDesc table0)) ∧ ((((tables.noteEcc 1 rowOp.t1 false).noteEcc 2 rowOp.t2 false).rcBad
      rowOp.bad).recordAt rowOp.part.toNat (tblDesc table0) rowOp.shard rowOp.slot = some row3) ∧ (((((tables.noteEcc 1
      rowOp.t1 false).noteEcc 2 rowOp.t2 false).rcBad rowOp.bad).touchLines (row3.fst, row3.snd.fst, (tblDesc
      table0).recLen, row3.snd.snd) false).rowBad
      { part := rowOp.part.toNat, table := rowOp.table.toNat, shard := rowOp.shard, slot := rowOp.slot } = false)) ∧
    (∀ (t : TblDesc), (((noTables.noteEcc 1 rowOp.t1 false).noteEcc 2 rowOp.t2 false).rcBad rowOp.bad).tbl rowOp.part.toNat
      rowOp.table.toNat = some t → (((noTables.noteEcc 1 rowOp.t1 false).noteEcc 2 rowOp.t2 false).rcBad
      rowOp.bad).recordAt rowOp.part.toNat t rowOp.shard rowOp.slot = none) ∧
    ((late3.unit.toNat < 16) ∧ (((waits 74).eu late3.unit.toNat).run = some awaits) ∧ (∃ y, y ∈ awaits.need ∧ y.fst =
      { part := late3.part.toNat, table := late3.table.toNat, shard := late3.shard, slot := late3.slot } ∧ y.snd + 64 ≤ (waits
      74).clk.edges)) ∧
    ((late3.unit.toNat < 16) ∧ (((waits 73).eu late3.unit.toNat).run = some awaits) ∧ (¬∃ y, y ∈ awaits.need ∧ y.fst =
      { part := late3.part.toNat, table := late3.table.toNat, shard := late3.shard, slot := late3.slot } ∧ y.snd + 64 ≤ (waits
      73).clk.edges)) ∧
    ((tables.eu late3.unit.toNat).run = none) ∧
    (((inPhase 5 tables).tbl exchOp.part.toNat exchOp.table.toNat = some (tblDesc table0)) ∧ ((inPhase 5 tables).exchOpen =
      true) ∧ (((inPhase 5 tables).step_ exchOp.part.toNat exchOp.table.toNat).recv.length < (inPhase 5 tables).halfCap
      exchOp.part.toNat (tblDesc table0))) ∧
    (((inPhase 5 fullHalf).tbl exchOp.part.toNat exchOp.table.toNat = some (tblDesc table0)) ∧ ((inPhase 5
      fullHalf).exchOpen = true) ∧ ((inPhase 5 fullHalf).halfCap exchOp.part.toNat (tblDesc table0) ≤ ((inPhase 5
      fullHalf).step_ exchOp.part.toNat exchOp.table.toNat).recv.length)) ∧
    (((inPhase 7 tables).tbl exchOp.part.toNat exchOp.table.toNat = some (tblDesc table0)) ∧ ((inPhase 7 tables).exchOpen =
      false)) ∧
    (noTables.tbl exchOp.part.toNat exchOp.table.toNat = none) ∧
    (((inPhase 5 fullHalf).exchOpen = true) ∧ (∀ (e : Nat × Nat), e ∈ ((inPhase 5 fullHalf).step_ (endOp 2).part.toNat
      (endOp 2).table.toNat).ends → e.fst ≠ (endOp 2).src)) ∧
    (((inPhase 5 fullHalf).exchOpen = true) ∧ (∃ e, e ∈ ((inPhase 5 fullHalf).step_ (endOp 3).part.toNat (endOp
      3).table.toNat).ends ∧ e.fst = (endOp 3).src)) ∧
    ((inPhase 7 tables).exchOpen = false) ∧
    (tables.mirrorTable (mirrorOp 3).part.toNat (mirrorOp 3).obj.toNat = none) ∧
    ((mirrored.mirrorTable (mirrorOp 3).part.toNat (mirrorOp 3).obj.toNat = some (0, tblDesc tableM)) ∧ (mirrored.stageFits
      (mirrorOp 3).part.toNat (tblDesc tableM) ((Option.map (fun m => m.home.fst == 2) (mirrored.obj (mirrorOp
      3).part.toNat (tblDesc tableM).mirror)).getD false) (mirrorOp 3).record.length = true)) ∧
    ((mirrored.mirrorTable bigMirror.part.toNat bigMirror.obj.toNat = some (0, tblDesc tableM)) ∧ (mirrored.stageFits
      bigMirror.part.toNat (tblDesc tableM) ((Option.map (fun m => m.home.fst == 2) (mirrored.obj bigMirror.part.toNat
      (tblDesc tableM).mirror)).getD false) bigMirror.record.length = false)) ∧
    (noTables.tbl replicaOp.part.toNat replicaOp.table.toNat = none) ∧
    ((droppedStep.step_ replicaOp.part.toNat replicaOp.table.toNat).dropped = true) ∧
    (((mirrored.step_ replicaOp.part.toNat replicaOp.table.toNat).dropped = false) ∧ (mirrored.tbl replicaOp.part.toNat replicaOp.table.toNat = some (tblDesc tableM)) ∧ (mirrored.stageFits
      replicaOp.part.toNat (tblDesc tableM) false (tblDesc tableM).rrecLen = true)) ∧
    (((smallStage.step_ replicaOp.part.toNat replicaOp.table.toNat).dropped = false) ∧ (smallStage.tbl replicaOp.part.toNat replicaOp.table.toNat = some (tblDesc tableM)) ∧ (smallStage.stageFits
      replicaOp.part.toNat (tblDesc tableM) false (tblDesc tableM).rrecLen = false)) :=
  by and_intros <;> decide +kernel

end Tables

namespace Memory

def act (op mode : Nat) : DmaSet :=
  { src := 0x0100000000000000, dst := 0x0100000000000100, len := 200, burst := 2, mode := BitVec.ofNat 32 mode,
    op := BitVec.ofNat 32 op, fill := 0x0102030405060708 }
def idle : State := wit.setChan 0 { ({} : Chan) with act := act 1 0 }
def atWork (op mode next : Nat) (armed : Bool) : State :=
  wit.setChan 0 { ({} : Chan) with act := act op mode, mode := .running, next := next, armed := armed, pend := 2 }
def moving (op : Nat) : State :=
  { wit.setChan 0 { ({} : Chan) with act := act op 0, mode := .running, next := 2, outst := [1] } with t0 := [(0x80, 5)] }
def dmaW (reg v : Nat) (edge : Bool) : DmaWriteOp := ⟨.core 1, 0, 0, BitVec.ofNat 3 reg, BitVec.ofNat 64 v, edge⟩
def dmaC (edge : Bool) : DmaCtrlOp := ⟨.core 1, 0, 0, edge⟩
def issue (a : Nat) : DmaIssueOp := ⟨0, 0, a⟩
def setOp : DmaSetOp := ⟨0, 0⟩
def burst : DmaBurstOp := ⟨0, 0, {}, {}⟩
def object (i a : Nat) : Vec := word [(0, 1), (16, i), (64, 512), (192, a)]
def withObjects (l : List (Nat × Option Vec)) : State := { wit with mem := { wit.mem with objects := l } }
def objects : State := withObjects [(0, some (object 0 0x1000)), (1, some (object 1 0x2000))]
def badGranule : Poison := ⟨⟨1, 0x1000⟩, 3, false, true, false, false⟩
def poisoned : State := { objects with mem := { objects.mem with poison := [badGranule] } }
def cached : State := { wit with emb := { wit.emb with crema := [(3, some ⟨⟨0, 0, 0, 0⟩, 1, [], 0⟩)] } }
def repair : RepairReqOp := ⟨0, 1, 256, 256, 3, {}⟩
def granule : GranuleOp := ⟨1, 0x10FF⟩
def mended : List Byte := List.replicate 256 7
def mend : RepairDoneOp := ⟨1, 0x10FF, some mended, 5⟩
/-- Mailbox commands of partition 0. -/
def cmd (b : List Byte) : MbxCmdOp := ⟨0, 7, b⟩
def newObj : Vec := word [(0, 1), (64, 256), (192, 0x3000)]
def dropping : State := { wit with host := { wit.host with mbx := [(0, { discard := true })] } }
def tbl : Vec := word [(0, 1), (5, 1), (128, 1), (192, 8), (272, 0xFFFF), (288, 1), (304, 2)]
def rowsObj : Vec := word [(0, 1), (5, 1), (64, 512), (192, 0x1000)]
def exch : Vec := word [(0, 1), (16, 2), (64, 1024), (192, 0x3000)]
def tblReady : State := withObjects [(0, some rowsObj), (1, some (object 1 0x2000)), (2, some exch)]
def tblHeld : State := { tblReady with emb := { wit.emb with tables := [(0, some tbl)] } }
def tblArmed : State := tblHeld.dput 0x600008 [1#8]
def coll : Vec := word [(0, 1), (8, 1), (16, 16), (64, 128)]
def collReady : State := objects
def collHeld : State := { objects with coll := { wit.coll with defs := [(0, some coll)] } }
def scrub : ScrubOp := ⟨{}⟩
def lmScrub : LmScrubOp := ⟨5, 3, []⟩
def pktScrub : PktScrubOp := ⟨5, false, 0⟩
def treeScrub : TreeScrubOp := ⟨5, 1, none⟩
def cremaScrub : CremaScrubOp := ⟨1, some 3⟩
def cxl : CxlOp := ⟨2, 8⟩
def hbm : HbmOp := ⟨3⟩
def cxlEvent (b : Bool) (a : Nat) : CxlEventOp := ⟨b, a⟩

/-- The descriptor of a definition; a channel's set once it is complete. -/
def descOf (o : MbxCmdOp) : Vec := BitVec.ofNat 512 (leNat (padTo 64 o.payload))
def setDone (s : State) : State :=
  let ch := 64 * setOp.tile.toNat + setOp.c.toNat
  let c := s.chan ch
  let d := c.act
  let x := if c.stop = 4 then s.count cDmaPoison ch 1 else if c.stop = 5 then s.count cDmaAbort ch 1 else s
  let r0 := if d.kind = 2 then { c with
    count := BitVec.ofNat 64 c.mism, first := (c.mismFirst.map (BitVec.ofNat 64)).getD (BitVec.allOnes 64),
    mismatch := c.mismatch || decide (0 < c.mism) } else c
  let r1 := if c.stop = 4 then { r0 with first := (c.badAt.map (BitVec.ofNat 64)).getD r0.first } else r0
  let y := x.setChan ch { r1 with code := c.stop, outst := [], stop := 0 }
  let z := if d.mode.getLsbD 4 = true ∧ c.fenceBad = false then
    y.fenceAdd (if ch / 64 = 2 then (if d.mode.getLsbD 16 then 1 else 0) else ch / 64) (d.mode.extractLsb' 6 10).toNat 1 else y
  (if d.mode.getLsbD 5 = true then z.dmaPost ch c c.stop else z).count cDmaDone ch 1
def startBad : State := wit.setChan 0 { ({} : Chan) with act := { act 1 0 with len := 0 }, shw := { act 1 0 with len := 0 } }
def shadowGood : State := wit.setChan 0 { ({} : Chan) with shw := act 1 0 }
/-- A set handed over, and a request taken, on the edge that goes on. -/
def handed (mode : Nat) : State :=
  wit.setChan 0 { ({} : Chan) with act := act 1 mode, mode := .running, crossed := true, reqd := true, pend := 4094 }
def full : State := wit.setChan 0 { ({} : Chan) with act := act 1 4, mode := .running, pend := 4095 }
def noNt : State := wit.dput 0x310008 (leBytes 4 0)
def ntC : DmaCtrlOp := ⟨.mc, 2, 0, false⟩
def badScratch (op : Nat) : State := { moving op with
  mem := { wit.mem with poison := [⟨⟨0, 0x80⟩, 3, false, false, false, false⟩] } }
/-- A COPY out of T1 whose burst 1 reads a granule under repair. -/
def fromT1 : State :=
  let s := (wit.dput 0x700001 [1#8]).setChan 0 { ({} : Chan) with
    act := { act 0 0 with src := 0x0400000000000000 }, mode := .running, next := 2, outst := [1] }
  { s with mem := { wit.mem with poison := [⟨⟨1, 0⟩, 3, false, true, false, false⟩] } }
def far : RepairReqOp := { repair with offset := 512, len := 1 }
def lost : RepairDoneOp := ⟨1, 0x10FF, none, 5⟩
def lateGranule : State :=
  { objects with mem := { objects.mem with poison := [{ badGranule with late := true }] } }
def small : State := { wit with variant := .s }
def early : State := { wit with boot := { wit.boot with state := 3 } }
/-- Full tables of objects, of embedding tables and of collectives. -/
def many (n : Nat) (v : Vec) : Tab (Option Vec) := (List.range n).map (fun i => (i, some v))
theorem get_many (v : Vec) : ∀ (n k j : Nat), j < n →
    Tab.get none ((List.range' k n).map (fun i => (i, some v))) (k + j) = some v
  | n + 1, k, 0, _ => by simp [List.range', Tab.get]
  | n + 1, k, j + 1, h => by
    have e := get_many v n (k + 1) j (by omega)
    rw [show k + 1 + j = k + (j + 1) by omega] at e
    have a : ¬ k = k + (j + 1) := by omega
    have b : ¬ k + (j + 1) < k := by omega
    simp only [List.range', List.map_cons, Tab.get, a, b, if_false, e]

theorem many_full (v : Vec) (n i : Nat) (h : i < n) : (Tab.get none (many n v) i).isSome = true := by
  have e := get_many v n 0 i h
  rw [Nat.zero_add, ← List.range_eq_range'] at e
  simp only [many, e, Option.isSome_some]

def fullObjects : State := withObjects (many 65536 newObj)
def fullTables : State := { wit with emb := { wit.emb with tables := many 4096 tbl } }
def fullColls : State := { wit with coll := { wit.coll with defs := many 256 coll } }
/-- A descriptor's fields with some set further. -/
def payloadOf (l : List (Nat × Nat)) : MbxCmdOp := cmd (leBytes 64 (word l).toNat)
def tblWith (l : List (Nat × Nat)) : MbxCmdOp :=
  payloadOf ([(0, 1), (5, 1), (128, 1), (192, 8), (272, 0xFFFF), (288, 1), (304, 2)] ++ l)
def collWith (l : List (Nat × Nat)) : MbxCmdOp := payloadOf ([(0, 1), (8, 1), (16, 16), (64, 128)] ++ l)
def objWith (l : List (Nat × Nat)) : MbxCmdOp := payloadOf ([(0, 1), (64, 256)] ++ l)
/-- The status of the definition of an object at a free index. -/
def objStatus (s : State) (o : MbxCmdOp) : Nat :=
  let p := o.part.toNat
  let d := BitVec.ofNat 512 (leNat (padTo 64 o.payload))
  let f := objDesc d
  let h := f.home
  let bud := leAt (s.dget 0x730004) (2 * s.rank) 2
  let aligned := if f.policy = 0 then f.size % 64 = 0 else f.size % 256 = 0 ∧ h.2 % 256 = 0
  let outside := (f.policy = 0 ∧ 805306368 ≤ 64 * f.t0Unit) ∨ s.inPart p h.1 h.2 f.size = false
  let clash := s.mem.objects.any (fun e => match e.2 with
    | some q => decide (e.1 / 65536 = p) && (let w := (objDesc q).home
        decide (w.1 = h.1) && (decide (w.1 ≠ 0) || decide (w.2 / 805306368 = h.2 / 805306368)) &&
        overlaps w.2 (objDesc q).size h.2 f.size)
    | none => false)
  let l := [
    (decide (4 ≤ f.policy ∨ f.size = 0 ∨ (f.policy = 0 ∧ (f.mirrored = true ∨ f.rows = true)) ∨
      (f.mirrored = true ∧ (bud = 0xFFFF ∨ f.buddy ≠ s.coordOf bud))), 0x09),
    (decide (¬aligned ∨ outside ∨ (h.1 = 1 ∧ s.rowCacheBase < h.2 + f.size)), 0x24), (clash, 0x23)]
  ((l.find? (·.1)).map (·.2)).getD 0
def objOf (l : List (Nat × Nat)) : ObjDesc := objDesc (descOf (objWith l))
def tblOf (l : List (Nat × Nat)) : TblDesc := tblDesc (descOf (tblWith l))
def collOf (l : List (Nat × Nat)) : CollDesc := collDesc (descOf (collWith l))
def given (s : State) (o : MbxCmdOp) : State :=
  let d := BitVec.ofNat 512 (keepBits collFields (BitVec.ofNat 512 (leNat (padTo 64 o.payload))).toNat + 0 * 2 ^ 32)
  { s with coll := { s.coll with defs := Tab.put none s.coll.defs (256 * o.part.toNat + 0) (some d) } }
def variantT : State := { tblReady with variant := .t }
def collArmed : State := collHeld.dput 0x600008 [1#8]
/-- In a re-map whose budgets are 0. -/
def inRemap : State := { (collReady.dput 0x610005 [0#8, 0#8, 0#8, 0#8]).dput 0x610007 [0#8, 0#8, 0#8, 0#8] with
  sched := { wit.sched with state := 13 } }
def irqBox : State := { wit with host := { wit.host with mbx := [(0, { irqEn := true })] } }

theorem test_met_DmaChannels :
    ((idle.chanOk (64 * (dmaW 0 (8 * 2 ^ 56 - 1) false).tile.toNat + (dmaW 0 (8 * 2 ^ 56 - 1) false).c.toNat) = true ∧ (64 *
      (dmaW 0 (8 * 2 ^ 56 - 1) false).tile.toNat + (dmaW 0 (8 * 2 ^ 56 - 1) false).c.toNat) / 64 < 2 ∧ 1 / 128 = (64 *
      (dmaW 0 (8 * 2 ^ 56 - 1) false).tile.toNat + (dmaW 0 (8 * 2 ^ 56 - 1) false).c.toNat) / 64 ∧ idle.coreOwner (1) =
      idle.chanOwner (64 * (dmaW 0 (8 * 2 ^ 56 - 1) false).tile.toNat + (dmaW 0 (8 * 2 ^ 56 - 1) false).c.toNat)) ∧
      ((idle.chanOwner (64 * (dmaW 0 (8 * 2 ^ 56 - 1) false).tile.toNat + (dmaW 0 (8 * 2 ^ 56 - 1)
      false).c.toNat)).isSome = true) ∧ ((idle.chan (64 * (dmaW 0 (8 * 2 ^ 56 - 1) false).tile.toNat + (dmaW 0 (8 * 2 ^
      56 - 1) false).c.toNat)).mode = ChanMode.idle)) ∧
    (((atWork 1 0 0 false).chanOk (64 * (dmaW 4 64 false).tile.toNat + (dmaW 4 64 false).c.toNat) = true ∧ (64 * (dmaW 4 64
      false).tile.toNat + (dmaW 4 64 false).c.toNat) / 64 < 2 ∧ 1 / 128 = (64 * (dmaW 4 64 false).tile.toNat + (dmaW 4
      64 false).c.toNat) / 64 ∧ (atWork 1 0 0 false).coreOwner (1) = (atWork 1 0 0 false).chanOwner (64 * (dmaW 4 64
      false).tile.toNat + (dmaW 4 64 false).c.toNat)) ∧ (((atWork 1 0 0 false).chanOwner (64 * (dmaW 4 64
      false).tile.toNat + (dmaW 4 64 false).c.toNat)).isSome = true) ∧ (((atWork 1 0 0 false).chan (64 * (dmaW 4 64
      false).tile.toNat + (dmaW 4 64 false).c.toNat)).mode ≠ ChanMode.idle)) ∧
    ((idle.chanOk (64 * (dmaW 6 3 false).tile.toNat + (dmaW 6 3 false).c.toNat) = true ∧ (64 * (dmaW 6 3 false).tile.toNat +
      (dmaW 6 3 false).c.toNat) / 64 < 2 ∧ 1 / 128 = (64 * (dmaW 6 3 false).tile.toNat + (dmaW 6 3 false).c.toNat) / 64
      ∧ idle.coreOwner (1) = idle.chanOwner (64 * (dmaW 6 3 false).tile.toNat + (dmaW 6 3 false).c.toNat)) ∧
      ((idle.chanOwner (64 * (dmaW 6 3 false).tile.toNat + (dmaW 6 3 false).c.toNat)).isSome = true) ∧ ((idle.chan (64 *
      (dmaW 6 3 false).tile.toNat + (dmaW 6 3 false).c.toNat)).armed = false) ∧ (¬((dmaW 6 3 false).sameEdge = true ∧
      (idle.chan (64 * (dmaW 6 3 false).tile.toNat + (dmaW 6 3 false).c.toNat)).crossed = true ∧ ¬1 ∈ (idle.chan (64 *
      (dmaW 6 3 false).tile.toNat + (dmaW 6 3 false).c.toNat)).seen))) ∧
    (((handed 4).chanOk (64 * (dmaW 2 0 true).tile.toNat + (dmaW 2 0 true).c.toNat) = true ∧ (64 * (dmaW 2 0
      true).tile.toNat + (dmaW 2 0 true).c.toNat) / 64 < 2 ∧ 1 / 128 = (64 * (dmaW 2 0 true).tile.toNat + (dmaW 2 0
      true).c.toNat) / 64 ∧ (handed 4).coreOwner (1) = (handed 4).chanOwner (64 * (dmaW 2 0 true).tile.toNat + (dmaW 2 0
      true).c.toNat)) ∧ (((handed 4).chanOwner (64 * (dmaW 2 0 true).tile.toNat + (dmaW 2 0 true).c.toNat)).isSome =
      true) ∧ (((handed 4).chan (64 * (dmaW 2 0 true).tile.toNat + (dmaW 2 0 true).c.toNat)).armed = false) ∧ ((dmaW 2 0
      true).sameEdge = true ∧ ((handed 4).chan (64 * (dmaW 2 0 true).tile.toNat + (dmaW 2 0 true).c.toNat)).crossed =
      true ∧ ¬1 ∈ ((handed 4).chan (64 * (dmaW 2 0 true).tile.toNat + (dmaW 2 0 true).c.toNat)).seen)) ∧
    (((atWork 1 4 0 true).chanOk (64 * (dmaW 7 9 false).tile.toNat + (dmaW 7 9 false).c.toNat) = true ∧ (64 * (dmaW 7 9
      false).tile.toNat + (dmaW 7 9 false).c.toNat) / 64 < 2 ∧ 1 / 128 = (64 * (dmaW 7 9 false).tile.toNat + (dmaW 7 9
      false).c.toNat) / 64 ∧ (atWork 1 4 0 true).coreOwner (1) = (atWork 1 4 0 true).chanOwner (64 * (dmaW 7 9
      false).tile.toNat + (dmaW 7 9 false).c.toNat)) ∧ (((atWork 1 4 0 true).chanOwner (64 * (dmaW 7 9 false).tile.toNat
      + (dmaW 7 9 false).c.toNat)).isSome = true) ∧ (((atWork 1 4 0 true).chan (64 * (dmaW 7 9 false).tile.toNat + (dmaW
      7 9 false).c.toNat)).armed = true)) ∧
    ((Tab.wf { } noNt.chans = true) ∧ (noNt.chanOk (64 * ntC.tile.toNat + ntC.c.toNat) = true ∧ (64 * ntC.tile.toNat +
      ntC.c.toNat) / 64 = 2 ∧ noNt.power = Power.on) ∧ (noNt.chanOwner (64 * ntC.tile.toNat + ntC.c.toNat) = none) ∧
      (ntC.req = Requester.mc) ∧ ((noNt.chan (64 * ntC.tile.toNat + ntC.c.toNat)).armed = false)) ∧
    ((Tab.wf { } idle.chans = true) ∧ (idle.chanOk (64 * (dmaC false).tile.toNat + (dmaC false).c.toNat) = true ∧ (64 *
      (dmaC false).tile.toNat + (dmaC false).c.toNat) / 64 < 2 ∧ 1 / 128 = (64 * (dmaC false).tile.toNat + (dmaC
      false).c.toNat) / 64 ∧ idle.coreOwner (1) = idle.chanOwner (64 * (dmaC false).tile.toNat + (dmaC false).c.toNat))
      ∧ (idle.chanOwner (64 * (dmaC false).tile.toNat + (dmaC false).c.toNat) = some 0) ∧ ((idle.chan (64 * (dmaC
      false).tile.toNat + (dmaC false).c.toNat)).mode = ChanMode.idle) ∧ ((idle.dmaCheck ((64 * (dmaC false).tile.toNat
      + (dmaC false).c.toNat) / 64) 0 5 (idle.chan (64 * (dmaC false).tile.toNat + (dmaC false).c.toNat)).act).fst = 0))
      ∧
    ((Tab.wf { } startBad.chans = true) ∧ (startBad.chanOk (64 * (dmaC false).tile.toNat + (dmaC false).c.toNat) = true ∧
      (64 * (dmaC false).tile.toNat + (dmaC false).c.toNat) / 64 < 2 ∧ 1 / 128 = (64 * (dmaC false).tile.toNat + (dmaC
      false).c.toNat) / 64 ∧ startBad.coreOwner (1) = startBad.chanOwner (64 * (dmaC false).tile.toNat + (dmaC
      false).c.toNat)) ∧ (startBad.chanOwner (64 * (dmaC false).tile.toNat + (dmaC false).c.toNat) = some 0) ∧
      ((startBad.chan (64 * (dmaC false).tile.toNat + (dmaC false).c.toNat)).mode = ChanMode.idle) ∧ ((startBad.dmaCheck
      ((64 * (dmaC false).tile.toNat + (dmaC false).c.toNat) / 64) 0 5 (startBad.chan (64 * (dmaC false).tile.toNat +
      (dmaC false).c.toNat)).act).fst ≠ 0)) ∧
    ((Tab.wf { } (atWork 1 0 0 false).chans = true) ∧ ((atWork 1 0 0 false).chanOk (64 * (dmaC false).tile.toNat + (dmaC
      false).c.toNat) = true ∧ (64 * (dmaC false).tile.toNat + (dmaC false).c.toNat) / 64 < 2 ∧ 1 / 128 = (64 * (dmaC
      false).tile.toNat + (dmaC false).c.toNat) / 64 ∧ (atWork 1 0 0 false).coreOwner (1) = (atWork 1 0 0
      false).chanOwner (64 * (dmaC false).tile.toNat + (dmaC false).c.toNat)) ∧ ((atWork 1 0 0 false).chanOwner (64 *
      (dmaC false).tile.toNat + (dmaC false).c.toNat) = some 0) ∧ (((atWork 1 0 0 false).chan (64 * (dmaC
      false).tile.toNat + (dmaC false).c.toNat)).mode ≠ ChanMode.idle)) ∧
    ((Tab.wf { } (atWork 1 4 0 true).chans = true) ∧ ((atWork 1 4 0 true).chanOk (64 * (dmaC false).tile.toNat + (dmaC
      false).c.toNat) = true ∧ (64 * (dmaC false).tile.toNat + (dmaC false).c.toNat) / 64 < 2 ∧ 1 / 128 = (64 * (dmaC
      false).tile.toNat + (dmaC false).c.toNat) / 64 ∧ (atWork 1 4 0 true).coreOwner (1) = (atWork 1 4 0 true).chanOwner
      (64 * (dmaC false).tile.toNat + (dmaC false).c.toNat)) ∧ ((atWork 1 4 0 true).chanOwner (64 * (dmaC
      false).tile.toNat + (dmaC false).c.toNat) = some 0) ∧ (((atWork 1 4 0 true).chan (64 * (dmaC false).tile.toNat +
      (dmaC false).c.toNat)).mode ≠ ChanMode.idle) ∧ (((atWork 1 4 0 true).chan (64 * (dmaC false).tile.toNat + (dmaC
      false).c.toNat)).armed = true)) ∧
    ((Tab.wf { } (handed 4).chans = true) ∧ ((handed 4).chanOk (64 * (dmaC true).tile.toNat + (dmaC true).c.toNat) = true ∧
      (64 * (dmaC true).tile.toNat + (dmaC true).c.toNat) / 64 < 2 ∧ 1 / 128 = (64 * (dmaC true).tile.toNat + (dmaC
      true).c.toNat) / 64 ∧ (handed 4).coreOwner (1) = (handed 4).chanOwner (64 * (dmaC true).tile.toNat + (dmaC
      true).c.toNat)) ∧ ((handed 4).chanOwner (64 * (dmaC true).tile.toNat + (dmaC true).c.toNat) = some 0) ∧ (((handed
      4).chan (64 * (dmaC true).tile.toNat + (dmaC true).c.toNat)).armed = false) ∧ ((dmaC true).sameEdge = true ∧
      ((handed 4).chan (64 * (dmaC true).tile.toNat + (dmaC true).c.toNat)).crossed = true ∧ ¬1 ∈ ((handed 4).chan (64 *
      (dmaC true).tile.toNat + (dmaC true).c.toNat)).seen)) ∧
    ((Tab.wf { } (atWork 1 0 0 false).chans = true) ∧ ((atWork 1 0 0 false).chanOk (64 * (dmaC false).tile.toNat + (dmaC
      false).c.toNat) = true ∧ (64 * (dmaC false).tile.toNat + (dmaC false).c.toNat) / 64 < 2 ∧ 1 / 128 = (64 * (dmaC
      false).tile.toNat + (dmaC false).c.toNat) / 64 ∧ (atWork 1 0 0 false).coreOwner (1) = (atWork 1 0 0
      false).chanOwner (64 * (dmaC false).tile.toNat + (dmaC false).c.toNat)) ∧ ((atWork 1 0 0 false).chanOwner (64 *
      (dmaC false).tile.toNat + (dmaC false).c.toNat) = some 0) ∧ (((atWork 1 0 0 false).chan (64 * (dmaC
      false).tile.toNat + (dmaC false).c.toNat)).armed = false) ∧ (¬((dmaC false).sameEdge = true ∧ ((atWork 1 0 0
      false).chan (64 * (dmaC false).tile.toNat + (dmaC false).c.toNat)).crossed = true ∧ ¬1 ∈ ((atWork 1 0 0
      false).chan (64 * (dmaC false).tile.toNat + (dmaC false).c.toNat)).seen)) ∧ (((atWork 1 0 0 false).chan (64 *
      (dmaC false).tile.toNat + (dmaC false).c.toNat)).mode ≠ ChanMode.idle)) ∧
    ((Tab.wf { } shadowGood.chans = true) ∧ (shadowGood.chanOk (64 * (dmaC false).tile.toNat + (dmaC false).c.toNat) = true
      ∧ (64 * (dmaC false).tile.toNat + (dmaC false).c.toNat) / 64 < 2 ∧ 1 / 128 = (64 * (dmaC false).tile.toNat + (dmaC
      false).c.toNat) / 64 ∧ shadowGood.coreOwner (1) = shadowGood.chanOwner (64 * (dmaC false).tile.toNat + (dmaC
      false).c.toNat)) ∧ (shadowGood.chanOwner (64 * (dmaC false).tile.toNat + (dmaC false).c.toNat) = some 0) ∧
      ((shadowGood.chan (64 * (dmaC false).tile.toNat + (dmaC false).c.toNat)).armed = false) ∧ (¬((dmaC false).sameEdge
      = true ∧ (shadowGood.chan (64 * (dmaC false).tile.toNat + (dmaC false).c.toNat)).crossed = true ∧ ¬1 ∈
      (shadowGood.chan (64 * (dmaC false).tile.toNat + (dmaC false).c.toNat)).seen)) ∧ ((shadowGood.chan (64 * (dmaC
      false).tile.toNat + (dmaC false).c.toNat)).mode = ChanMode.idle) ∧ ((shadowGood.dmaCheck ((64 * (dmaC
      false).tile.toNat + (dmaC false).c.toNat) / 64) 0 5 (shadowGood.chan (64 * (dmaC false).tile.toNat + (dmaC
      false).c.toNat)).shw).fst = 0)) ∧
    ((Tab.wf { } startBad.chans = true) ∧ (startBad.chanOk (64 * (dmaC false).tile.toNat + (dmaC false).c.toNat) = true ∧
      (64 * (dmaC false).tile.toNat + (dmaC false).c.toNat) / 64 < 2 ∧ 1 / 128 = (64 * (dmaC false).tile.toNat + (dmaC
      false).c.toNat) / 64 ∧ startBad.coreOwner (1) = startBad.chanOwner (64 * (dmaC false).tile.toNat + (dmaC
      false).c.toNat)) ∧ (startBad.chanOwner (64 * (dmaC false).tile.toNat + (dmaC false).c.toNat) = some 0) ∧
      ((startBad.chan (64 * (dmaC false).tile.toNat + (dmaC false).c.toNat)).armed = false) ∧ (¬((dmaC false).sameEdge =
      true ∧ (startBad.chan (64 * (dmaC false).tile.toNat + (dmaC false).c.toNat)).crossed = true ∧ ¬1 ∈ (startBad.chan
      (64 * (dmaC false).tile.toNat + (dmaC false).c.toNat)).seen)) ∧ ((startBad.chan (64 * (dmaC false).tile.toNat +
      (dmaC false).c.toNat)).mode = ChanMode.idle) ∧ ((startBad.dmaCheck ((64 * (dmaC false).tile.toNat + (dmaC
      false).c.toNat) / 64) 0 5 (startBad.chan (64 * (dmaC false).tile.toNat + (dmaC false).c.toNat)).shw).fst ≠ 0)) ∧
    ((Tab.wf { } idle.chans = true) ∧ (idle.chanOk (64 * (dmaC false).tile.toNat + (dmaC false).c.toNat) = true ∧ (64 *
      (dmaC false).tile.toNat + (dmaC false).c.toNat) / 64 < 2 ∧ 1 / 128 = (64 * (dmaC false).tile.toNat + (dmaC
      false).c.toNat) / 64 ∧ idle.coreOwner (1) = idle.chanOwner (64 * (dmaC false).tile.toNat + (dmaC false).c.toNat))
      ∧ (idle.chanOwner (64 * (dmaC false).tile.toNat + (dmaC false).c.toNat) = some 0) ∧ ((idle.chan (64 * (dmaC
      false).tile.toNat + (dmaC false).c.toNat)).mode = ChanMode.idle) ∧ ((idle.chan (64 * (dmaC false).tile.toNat +
      (dmaC false).c.toNat)).armed = false)) ∧
    ((Tab.wf { } (handed 4).chans = true) ∧ ((handed 4).chanOk (64 * (dmaC true).tile.toNat + (dmaC true).c.toNat) = true ∧
      (64 * (dmaC true).tile.toNat + (dmaC true).c.toNat) / 64 < 2 ∧ 1 / 128 = (64 * (dmaC true).tile.toNat + (dmaC
      true).c.toNat) / 64 ∧ (handed 4).coreOwner (1) = (handed 4).chanOwner (64 * (dmaC true).tile.toNat + (dmaC
      true).c.toNat)) ∧ ((handed 4).chanOwner (64 * (dmaC true).tile.toNat + (dmaC true).c.toNat) = some 0) ∧ ((dmaC
      true).sameEdge = true) ∧ (((handed 4).chan (64 * (dmaC true).tile.toNat + (dmaC true).c.toNat)).reqd = true) ∧
      (((handed 4).chan (64 * (dmaC true).tile.toNat + (dmaC true).c.toNat)).mode ≠ ChanMode.idle)) ∧
    ((Tab.wf { } (handed 4).chans = true) ∧ ((handed 4).chanOk (64 * (dmaC false).tile.toNat + (dmaC false).c.toNat) = true
      ∧ (64 * (dmaC false).tile.toNat + (dmaC false).c.toNat) / 64 < 2 ∧ 1 / 128 = (64 * (dmaC false).tile.toNat + (dmaC
      false).c.toNat) / 64 ∧ (handed 4).coreOwner (1) = (handed 4).chanOwner (64 * (dmaC false).tile.toNat + (dmaC
      false).c.toNat)) ∧ ((handed 4).chanOwner (64 * (dmaC false).tile.toNat + (dmaC false).c.toNat) = some 0) ∧ ((dmaC
      false).sameEdge = false) ∧ (((handed 4).chan (64 * (dmaC false).tile.toNat + (dmaC false).c.toNat)).mode ≠
      ChanMode.idle) ∧ (BitVec.getLsbD ((handed 4).chan (64 * (dmaC false).tile.toNat + (dmaC false).c.toNat)).act.mode
      2 = true) ∧ (((handed 4).chan (64 * (dmaC false).tile.toNat + (dmaC false).c.toNat)).pend < 4095)) ∧
    ((Tab.wf { } full.chans = true) ∧ (full.chanOk (64 * (dmaC false).tile.toNat + (dmaC false).c.toNat) = true ∧ (64 *
      (dmaC false).tile.toNat + (dmaC false).c.toNat) / 64 < 2 ∧ 1 / 128 = (64 * (dmaC false).tile.toNat + (dmaC
      false).c.toNat) / 64 ∧ full.coreOwner (1) = full.chanOwner (64 * (dmaC false).tile.toNat + (dmaC false).c.toNat))
      ∧ (full.chanOwner (64 * (dmaC false).tile.toNat + (dmaC false).c.toNat) = some 0) ∧ ((dmaC false).sameEdge =
      false) ∧ ((full.chan (64 * (dmaC false).tile.toNat + (dmaC false).c.toNat)).mode ≠ ChanMode.idle) ∧
      (BitVec.getLsbD (full.chan (64 * (dmaC false).tile.toNat + (dmaC false).c.toNat)).act.mode 2 = true) ∧ (4095 ≤
      (full.chan (64 * (dmaC false).tile.toNat + (dmaC false).c.toNat)).pend)) ∧
    ((Tab.wf { } (handed 0).chans = true) ∧ ((handed 0).chanOk (64 * (dmaC false).tile.toNat + (dmaC false).c.toNat) = true
      ∧ (64 * (dmaC false).tile.toNat + (dmaC false).c.toNat) / 64 < 2 ∧ 1 / 128 = (64 * (dmaC false).tile.toNat + (dmaC
      false).c.toNat) / 64 ∧ (handed 0).coreOwner (1) = (handed 0).chanOwner (64 * (dmaC false).tile.toNat + (dmaC
      false).c.toNat)) ∧ ((handed 0).chanOwner (64 * (dmaC false).tile.toNat + (dmaC false).c.toNat) = some 0) ∧ ((dmaC
      false).sameEdge = false) ∧ (((handed 0).chan (64 * (dmaC false).tile.toNat + (dmaC false).c.toNat)).mode ≠
      ChanMode.idle) ∧ (BitVec.getLsbD ((handed 0).chan (64 * (dmaC false).tile.toNat + (dmaC false).c.toNat)).act.mode
      2 = false)) ∧
    ((Tab.wf { } idle.chans = true) ∧ (idle.chanOk (64 * (dmaC false).tile.toNat + (dmaC false).c.toNat) = true ∧ (64 *
      (dmaC false).tile.toNat + (dmaC false).c.toNat) / 64 < 2 ∧ 1 / 128 = (64 * (dmaC false).tile.toNat + (dmaC
      false).c.toNat) / 64 ∧ idle.coreOwner (1) = idle.chanOwner (64 * (dmaC false).tile.toNat + (dmaC false).c.toNat))
      ∧ (idle.chanOwner (64 * (dmaC false).tile.toNat + (dmaC false).c.toNat) = some 0) ∧ ((dmaC false).sameEdge =
      false) ∧ ((idle.chan (64 * (dmaC false).tile.toNat + (dmaC false).c.toNat)).mode = ChanMode.idle) ∧ ((idle.chan
      (64 * (dmaC false).tile.toNat + (dmaC false).c.toNat)).armed = false)) ∧
    (((((atWork 1 0 0 false).chan (64 * (issue 5).tile.toNat + (issue 5).c.toNat)).mode = ChanMode.running ∨ ((atWork 1 0 0
      false).chan (64 * (issue 5).tile.toNat + (issue 5).c.toNat)).mode = ChanMode.held ∧ (issue 5).a = 0) ∧ ((atWork 1
      0 0 false).chan (64 * (issue 5).tile.toNat + (issue 5).c.toNat)).stop = 0 ∧ ((atWork 1 0 0 false).chan (64 *
      (issue 5).tile.toNat + (issue 5).c.toNat)).next < ((atWork 1 0 0 false).chan (64 * (issue 5).tile.toNat + (issue
      5).c.toNat)).act.bursts ∧ ((atWork 1 0 0 false).chan (64 * (issue 5).tile.toNat + (issue 5).c.toNat)).outst.length
      < 16 ∧ (BitVec.getLsbD ((atWork 1 0 0 false).chan (64 * (issue 5).tile.toNat + (issue 5).c.toNat)).act.mode 2 =
      true → 0 < ((atWork 1 0 0 false).chan (64 * (issue 5).tile.toNat + (issue 5).c.toNat)).pend)) ∧ (BitVec.getLsbD
      ((atWork 1 0 0 false).chan (64 * (issue 5).tile.toNat + (issue 5).c.toNat)).act.mode 3 = false)) ∧
    (((((atWork 1 8 1 false).chan (64 * (issue 5).tile.toNat + (issue 5).c.toNat)).mode = ChanMode.running ∨ ((atWork 1 8 1
      false).chan (64 * (issue 5).tile.toNat + (issue 5).c.toNat)).mode = ChanMode.held ∧ (issue 5).a = 0) ∧ ((atWork 1
      8 1 false).chan (64 * (issue 5).tile.toNat + (issue 5).c.toNat)).stop = 0 ∧ ((atWork 1 8 1 false).chan (64 *
      (issue 5).tile.toNat + (issue 5).c.toNat)).next < ((atWork 1 8 1 false).chan (64 * (issue 5).tile.toNat + (issue
      5).c.toNat)).act.bursts ∧ ((atWork 1 8 1 false).chan (64 * (issue 5).tile.toNat + (issue 5).c.toNat)).outst.length
      < 16 ∧ (BitVec.getLsbD ((atWork 1 8 1 false).chan (64 * (issue 5).tile.toNat + (issue 5).c.toNat)).act.mode 2 =
      true → 0 < ((atWork 1 8 1 false).chan (64 * (issue 5).tile.toNat + (issue 5).c.toNat)).pend)) ∧ ((issue 5).a +
      ((atWork 1 8 1 false).chan (64 * (issue 5).tile.toNat + (issue 5).c.toNat)).act.cost ((64 * (issue 5).tile.toNat +
      (issue 5).c.toNat) / 64) ((atWork 1 8 1 false).chan (64 * (issue 5).tile.toNat + (issue 5).c.toNat)).next ≤ if
      (issue 5).tile = 2#2 then 10 * ((atWork 1 8 1 false).clk.len - (atWork 1 8 1 false).dnum 6291459) else (((atWork 1
      8 1 false).clk.len - (atWork 1 8 1 false).dnum 6291459) * (Tab.get { } (atWork 1 8 1 false).health.clk (issue
      5).tile.toNat).mhz * 64 + 9999) / 10000)) ∧
    (((((atWork 1 8 1 false).chan (64 * (issue 100000).tile.toNat + (issue 100000).c.toNat)).mode = ChanMode.running ∨
      ((atWork 1 8 1 false).chan (64 * (issue 100000).tile.toNat + (issue 100000).c.toNat)).mode = ChanMode.held ∧
      (issue 100000).a = 0) ∧ ((atWork 1 8 1 false).chan (64 * (issue 100000).tile.toNat + (issue 100000).c.toNat)).stop
      = 0 ∧ ((atWork 1 8 1 false).chan (64 * (issue 100000).tile.toNat + (issue 100000).c.toNat)).next < ((atWork 1 8 1
      false).chan (64 * (issue 100000).tile.toNat + (issue 100000).c.toNat)).act.bursts ∧ ((atWork 1 8 1 false).chan (64
      * (issue 100000).tile.toNat + (issue 100000).c.toNat)).outst.length < 16 ∧ (BitVec.getLsbD ((atWork 1 8 1
      false).chan (64 * (issue 100000).tile.toNat + (issue 100000).c.toNat)).act.mode 2 = true → 0 < ((atWork 1 8 1
      false).chan (64 * (issue 100000).tile.toNat + (issue 100000).c.toNat)).pend)) ∧ (BitVec.getLsbD ((atWork 1 8 1
      false).chan (64 * (issue 100000).tile.toNat + (issue 100000).c.toNat)).act.mode 3 = true) ∧ (¬(issue 100000).a +
      ((atWork 1 8 1 false).chan (64 * (issue 100000).tile.toNat + (issue 100000).c.toNat)).act.cost ((64 * (issue
      100000).tile.toNat + (issue 100000).c.toNat) / 64) ((atWork 1 8 1 false).chan (64 * (issue 100000).tile.toNat +
      (issue 100000).c.toNat)).next ≤ if (issue 100000).tile = 2#2 then 10 * ((atWork 1 8 1 false).clk.len - (atWork 1 8
      1 false).dnum 6291459) else (((atWork 1 8 1 false).clk.len - (atWork 1 8 1 false).dnum 6291459) * (Tab.get { }
      (atWork 1 8 1 false).health.clk (issue 100000).tile.toNat).mhz * 64 + 9999) / 10000)) ∧
    (¬(((idle.chan (64 * (issue 5).tile.toNat + (issue 5).c.toNat)).mode = ChanMode.running ∨ (idle.chan (64 * (issue
      5).tile.toNat + (issue 5).c.toNat)).mode = ChanMode.held ∧ (issue 5).a = 0) ∧ (idle.chan (64 * (issue
      5).tile.toNat + (issue 5).c.toNat)).stop = 0 ∧ (idle.chan (64 * (issue 5).tile.toNat + (issue 5).c.toNat)).next <
      (idle.chan (64 * (issue 5).tile.toNat + (issue 5).c.toNat)).act.bursts ∧ (idle.chan (64 * (issue 5).tile.toNat +
      (issue 5).c.toNat)).outst.length < 16 ∧ (BitVec.getLsbD (idle.chan (64 * (issue 5).tile.toNat + (issue
      5).c.toNat)).act.mode 2 = true → 0 < (idle.chan (64 * (issue 5).tile.toNat + (issue 5).c.toNat)).pend))) ∧
    ((((atWork 1 0 2 false).chan (64 * setOp.tile.toNat + setOp.c.toNat)).mode ≠ ChanMode.idle) ∧ (((atWork 1 0 2
      false).chan (64 * setOp.tile.toNat + setOp.c.toNat)).outst = []) ∧ (((atWork 1 0 2 false).chan (64 *
      setOp.tile.toNat + setOp.c.toNat)).stop = 0 → ((atWork 1 0 2 false).chan (64 * setOp.tile.toNat +
      setOp.c.toNat)).act.bursts ≤ ((atWork 1 0 2 false).chan (64 * setOp.tile.toNat + setOp.c.toNat)).next) ∧
      (((setDone (atWork 1 0 2 false)).chan (64 * setOp.tile.toNat + setOp.c.toNat)).armed = false)) ∧
    ((((atWork 1 4 2 true).chan (64 * setOp.tile.toNat + setOp.c.toNat)).mode ≠ ChanMode.idle) ∧ (((atWork 1 4 2 true).chan
      (64 * setOp.tile.toNat + setOp.c.toNat)).outst = []) ∧ (((atWork 1 4 2 true).chan (64 * setOp.tile.toNat +
      setOp.c.toNat)).stop = 0 → ((atWork 1 4 2 true).chan (64 * setOp.tile.toNat + setOp.c.toNat)).act.bursts ≤
      ((atWork 1 4 2 true).chan (64 * setOp.tile.toNat + setOp.c.toNat)).next) ∧ (((setDone (atWork 1 4 2 true)).chan
      (64 * setOp.tile.toNat + setOp.c.toNat)).armed = true) ∧ (((atWork 1 4 2 true).chan (64 * setOp.tile.toNat +
      setOp.c.toNat)).stop ≠ 5)) ∧
    (((atWork 1 0 1 false).chan (64 * setOp.tile.toNat + setOp.c.toNat)).stop = 0 ∧ ((atWork 1 0 1 false).chan (64 *
      setOp.tile.toNat + setOp.c.toNat)).next < ((atWork 1 0 1 false).chan (64 * setOp.tile.toNat +
      setOp.c.toNat)).act.bursts) ∧
    ((Tab.wf { } shadowGood.chans = true) ∧ (shadowGood.chanOwner 0 = some 0) ∧ ((shadowGood.dmaCheck (0 / 64) 0
      (shadowGood.chan 0).armOwner (shadowGood.chan 0).shw).fst = 0)) :=
  by and_intros <;> decide +kernel

theorem test_met_DmaMoves :
    ((idle.chan (64 * burst.tile.toNat + burst.c.toNat)).outst = []) ∧
    (((fromT1.chan (64 * burst.tile.toNat + burst.c.toNat)).outst = [1]) ∧ ((fromT1.burstEcc (fromT1.chan (64 *
      burst.tile.toNat + burst.c.toNat)).act burst.src burst.dst).burstWait (fromT1.chan (64 * burst.tile.toNat +
      burst.c.toNat)).act 1 = some (1, 128))) ∧
    ((((badScratch 0).chan (64 * burst.tile.toNat + burst.c.toNat)).outst = [1]) ∧ (((badScratch 0).burstEcc ((badScratch
      0).chan (64 * burst.tile.toNat + burst.c.toNat)).act burst.src burst.dst).burstWait ((badScratch 0).chan (64 *
      burst.tile.toNat + burst.c.toNat)).act 1 = none) ∧ (((badScratch 0).burstEcc ((badScratch 0).chan (64 *
      burst.tile.toNat + burst.c.toNat)).act burst.src burst.dst).burstBad ((badScratch 0).chan (64 * burst.tile.toNat +
      burst.c.toNat)).act 1 burst.src burst.dst = true)) ∧
    ((((moving 0).chan (64 * burst.tile.toNat + burst.c.toNat)).outst = [1]) ∧ (((moving 0).burstEcc ((moving 0).chan (64 *
      burst.tile.toNat + burst.c.toNat)).act burst.src burst.dst).burstWait ((moving 0).chan (64 * burst.tile.toNat +
      burst.c.toNat)).act 1 = none) ∧ (((moving 0).burstEcc ((moving 0).chan (64 * burst.tile.toNat +
      burst.c.toNat)).act burst.src burst.dst).burstBad ((moving 0).chan (64 * burst.tile.toNat + burst.c.toNat)).act 1
      burst.src burst.dst = false)) ∧
    ((burst.src = { }) ∧ (burst.dst = { }) ∧ ((moving 1).memOk = true) ∧ ((moving 1).mem.poison = []) ∧ (((moving 1).chan
      (64 * burst.tile.toNat + burst.c.toNat)).mode = ChanMode.running) ∧ (((moving 1).chan (64 * burst.tile.toNat +
      burst.c.toNat)).outst = [1]) ∧ (BitVec.toNat ((moving 1).chan (64 * burst.tile.toNat + burst.c.toNat)).act.dst / 2
      ^ 56 = 1) ∧ (BitVec.getLsbD ((moving 1).chan (64 * burst.tile.toNat + burst.c.toNat)).act.mode 1 = false) ∧
      (BitVec.getLsbD ((moving 1).chan (64 * burst.tile.toNat + burst.c.toNat)).act.mode 0 = false) ∧ (BitVec.toNat
      ((moving 1).chan (64 * burst.tile.toNat + burst.c.toNat)).act.op % 4 = 1)) ∧
    ((burst.src = { }) ∧ (burst.dst = { }) ∧ ((moving 0).memOk = true) ∧ ((moving 0).mem.poison = []) ∧ (((moving 0).chan
      (64 * burst.tile.toNat + burst.c.toNat)).mode = ChanMode.running) ∧ (((moving 0).chan (64 * burst.tile.toNat +
      burst.c.toNat)).outst = [1]) ∧ (BitVec.toNat ((moving 0).chan (64 * burst.tile.toNat + burst.c.toNat)).act.dst / 2
      ^ 56 = 1) ∧ (BitVec.getLsbD ((moving 0).chan (64 * burst.tile.toNat + burst.c.toNat)).act.mode 1 = false) ∧
      (BitVec.getLsbD ((moving 0).chan (64 * burst.tile.toNat + burst.c.toNat)).act.mode 0 = false) ∧ (BitVec.toNat
      ((moving 0).chan (64 * burst.tile.toNat + burst.c.toNat)).act.op % 4 = 0) ∧ (BitVec.toNat ((moving 0).chan (64 *
      burst.tile.toNat + burst.c.toNat)).act.src / 2 ^ 56 = 1)) ∧
    ((burst.src = { }) ∧ (burst.dst = { }) ∧ ((moving 2).memOk = true) ∧ ((moving 2).mem.poison = []) ∧ (((moving 2).chan
      (64 * burst.tile.toNat + burst.c.toNat)).mode = ChanMode.running) ∧ (((moving 2).chan (64 * burst.tile.toNat +
      burst.c.toNat)).outst = [1]) ∧ (BitVec.toNat ((moving 2).chan (64 * burst.tile.toNat + burst.c.toNat)).act.dst / 2
      ^ 56 = 1) ∧ (BitVec.getLsbD ((moving 2).chan (64 * burst.tile.toNat + burst.c.toNat)).act.mode 1 = false) ∧
      (BitVec.getLsbD ((moving 2).chan (64 * burst.tile.toNat + burst.c.toNat)).act.mode 0 = false) ∧ (BitVec.toNat
      ((moving 2).chan (64 * burst.tile.toNat + burst.c.toNat)).act.op % 4 = 2) ∧ (BitVec.toNat ((moving 2).chan (64 *
      burst.tile.toNat + burst.c.toNat)).act.src / 2 ^ 56 = 1)) :=
  by and_intros <;> decide +kernel

def off : State := { wit with power := .off }

theorem test_met_MemoryErrors :
    (off.power ≠ Power.on) ∧
    ((wit.power = Power.on) ∧ (wit.obj repair.part.toNat repair.obj.toNat = none)) ∧
    ((objects.power = Power.on) ∧ (objects.obj far.part.toNat far.obj.toNat = some (objDesc (object 1 8192))) ∧ ((objDesc
      (object 1 8192)).size < far.offset + far.len ∨ (objects.noteEcc (objDesc (object 1 8192)).home.fst far.ecc
      false).poisoned (objDesc (object 1 8192)).home.fst ((objDesc (object 1 8192)).home.snd + far.offset) far.len =
      true)) ∧
    ((objects.power = Power.on) ∧ (objects.obj repair.part.toNat repair.obj.toNat = some (objDesc (object 1 8192))) ∧
      (¬((objDesc (object 1 8192)).size < repair.offset + repair.len ∨ (objects.noteEcc (objDesc (object 1
      8192)).home.fst repair.ecc false).poisoned (objDesc (object 1 8192)).home.fst ((objDesc (object 1 8192)).home.snd
      + repair.offset) repair.len = true))) ∧
    ((poisoned.power = Power.on) ∧ (poisoned.poisonAt granule.tier (granBase granule.tier granule.addr) = some badGranule) ∧
      (badGranule.repair = true) ∧ (badGranule.late = false)) ∧
    ((lateGranule.power = Power.on) ∧ (∀ (p : Poison), lateGranule.poisonAt granule.tier (granBase granule.tier
      granule.addr) = some p → p.repair = false ∨ p.late = true)) ∧
    ((poisoned.power = Power.on) ∧ (poisoned.poisonAt lost.tier (granBase lost.tier lost.addr) = some badGranule) ∧
      (badGranule.repair = true) ∧ (lost.bytes = none)) ∧
    ((poisoned.power = Power.on) ∧ (poisoned.poisonAt mend.tier (granBase mend.tier mend.addr) = some badGranule) ∧
      (badGranule.repair = true) ∧ (mend.bytes = some mended)) ∧
    ((wit.power = Power.on) ∧ (¬∃ p, wit.poisonAt mend.tier (granBase mend.tier mend.addr) = some p ∧ p.repair = true)) ∧
    ((poisoned.power = Power.on) ∧ (mend.tier = 1) ∧ (poisoned.memOk = true) ∧ (poisoned.emb.late = []) ∧ (poisoned.poisonAt
      1 (mend.addr / 256 * 256) = some badGranule) ∧ (badGranule.repair = true) ∧ (mend.bytes = some mended) ∧
      (mended.length = 256)) ∧
    ((4 ≤ wit.boot.state ∧ wit.boot.state ≤ 8 ∨ wit.boot.state = 9 ∧ (wit.boot.fault = 11 ∨ wit.boot.fault = 12)) ∧
      (lmScrub.core.toNat < 128 * wit.variant.tiles)) ∧
    ((4 ≤ wit.boot.state ∧ wit.boot.state ≤ 8 ∨ wit.boot.state = 9 ∧ (wit.boot.fault = 11 ∨ wit.boot.fault = 12)) ∧
      (wit.variant ≠ Variant.t)) ∧
    (¬(4 ≤ early.boot.state ∧ early.boot.state ≤ 8 ∨ early.boot.state = 9 ∧ (early.boot.fault = 11 ∨ early.boot.fault =
      12))) ∧
    (off.power = Power.off) ∧
    ((wit.power ≠ Power.off) ∧ ((cxlEvent true 5).corrected = true)) ∧
    ((wit.power ≠ Power.off) ∧ ((cxlEvent false 500).corrected = false)) ∧
    ((small.power = Power.on) ∧ (hbm.stack.toNat < 4)) ∧
    ((small.power = Power.on) ∧ (small.variant = Variant.s) ∧ (4 ≤ 4)) :=
  by and_intros <;> decide +kernel

/-- Partition 0's mailbox runs a command; the controller runs one. -/
def boxBusy : State := { wit with host := { wit.host with mbx := [(0, { busy := true })] } }
def mcRuns : State := { wit with dap := { wit.dap with busy := some ⟨none, []⟩ } }
def noPart : State := { wit with host := { wit.host with pt := [] } }
def alloc : MbxCmdOp := cmd []

theorem test_met_MailboxObjects :
    (((Tab.get { } wit.host.mbx 0).discard = false) ∧ ((Tab.get { } wit.host.mbx 0).irqEn = false)) ∧
    (((Tab.get { } irqBox.host.mbx 4).discard = false) ∧ (4 ≤ 4)) ∧
    (((Tab.get { } irqBox.host.mbx 0).discard = false) ∧ ((Tab.get { } irqBox.host.mbx 0).irqEn = true) ∧ (0 < 4)) ∧
    ((Tab.get { } dropping.host.mbx 0).discard = true) ∧
    (noPart.ptEnabled alloc.part.toNat = false) ∧
    ((boxBusy.ptEnabled alloc.part.toNat = true) ∧ ((Tab.get { } boxBusy.host.mbx alloc.part.toNat).busy = true)) ∧
    ((mcRuns.ptEnabled alloc.part.toNat = true) ∧ ((Tab.get { } mcRuns.host.mbx alloc.part.toNat).busy = false) ∧
      (mcRuns.mcBusy = true)) ∧
    ((objects.mbxFree (objWith [(192, 12288)]).part.toNat) ∧ (2 < 65536) ∧ ((Tab.get none objects.mem.objects (65536 *
      (objWith [(192, 12288)]).part.toNat + 2)).isSome = false) ∧ (∀ (j : Nat), j < 2 → (Tab.get none
      objects.mem.objects (65536 * (objWith [(192, 12288)]).part.toNat + j)).isSome = true) ∧ (objStatus objects
      (objWith [(192, 12288)]) = 0)) ∧
    ((objects.mbxFree (objWith [(192, 2 ^ 39)]).part.toNat) ∧ (2 < 65536) ∧ ((Tab.get none objects.mem.objects (65536 *
      (objWith [(192, 2 ^ 39)]).part.toNat + 2)).isSome = false) ∧ (∀ (j : Nat), j < 2 → (Tab.get none
      objects.mem.objects (65536 * (objWith [(192, 2 ^ 39)]).part.toNat + j)).isSome = true) ∧ (objStatus objects
      (objWith [(192, 2 ^ 39)]) = 36) ∧ ((objOf [(192, 2 ^ 39)]).policy = 0 ∧ 805306368 ≤ 64 * (objOf [(192, 2 ^
      39)]).t0Unit ∨ objects.inPart (objWith [(192, 2 ^ 39)]).part.toNat (objOf [(192, 2 ^ 39)]).home.fst (objOf [(192,
      2 ^ 39)]).home.snd (objOf [(192, 2 ^ 39)]).size = false)) ∧
    ((objects.mbxFree (objWith [(192, 4096)]).part.toNat) ∧ (2 < 65536) ∧ ((Tab.get none objects.mem.objects (65536 *
      (objWith [(192, 4096)]).part.toNat + 2)).isSome = false) ∧ (∀ (j : Nat), j < 2 → (Tab.get none objects.mem.objects
      (65536 * (objWith [(192, 4096)]).part.toNat + j)).isSome = true) ∧ (objStatus objects (objWith [(192, 4096)]) ≠ 0)
      ∧ (objStatus objects (objWith [(192, 4096)]) ≠ 36)) ∧
    ((objects.mbxFree (cmd (leBytes 2 1)).part.toNat) ∧ ((cmd (leBytes 2 1)).payload = leBytes 2 1) ∧ (1 < 65536) ∧ (Tab.get
      none objects.mem.objects (65536 * (cmd (leBytes 2 1)).part.toNat + 1) = some (object 1 8192)) ∧ (objects.objNamed
      (cmd (leBytes 2 1)).part.toNat 1 = false)) ∧
    ((tblHeld.mbxFree (cmd (leBytes 2 0)).part.toNat) ∧ ((cmd (leBytes 2 0)).payload = leBytes 2 0) ∧ (0 < 65536) ∧ (Tab.get
      none tblHeld.mem.objects (65536 * (cmd (leBytes 2 0)).part.toNat + 0) = some rowsObj) ∧ (tblHeld.objNamed (cmd
      (leBytes 2 0)).part.toNat 0 = true)) ∧
    ((wit.mbxFree (cmd (leBytes 2 65535)).part.toNat) ∧ ((cmd (leBytes 2 65535)).payload = leBytes 2 65535) ∧ (65535 <
      65536) ∧ ((Tab.get none wit.mem.objects (65536 * (cmd (leBytes 2 65535)).part.toNat + 65535)).isSome = false)) ∧
    ((wit.mbxFree (cmd [1, 2, 3]).part.toNat) ∧ ((cmd [1, 2, 3]).payload.length ≠ 2)) ∧
    ((tblArmed.mbxFree (tblWith []).part.toNat) ∧ (1 < 4096) ∧ (Tab.get none tblArmed.emb.tables (4096 * (tblWith
      []).part.toNat + 1) = none) ∧ (∀ (j : Nat), j < 1 → (Tab.get none tblArmed.emb.tables (4096 * (tblWith
      []).part.toNat + j)).isSome = true) ∧ (tblArmed.dnum 6291464 = 1)) ∧
    ((tblReady.mbxFree (tblWith [(0, 4)]).part.toNat) ∧ (0 < 4096) ∧ (Tab.get none tblReady.emb.tables (4096 * (tblWith [(0,
      4)]).part.toNat + 0) = none) ∧ (∀ (j : Nat), j < 0 → (Tab.get none tblReady.emb.tables (4096 * (tblWith [(0,
      4)]).part.toNat + j)).isSome = true) ∧ (¬tblReady.dnum 6291464 = 1) ∧ (¬(tblOf [(0, 4)]).elem ∈ [1, 2, 3, 4, 17]))
      ∧
    ((tblReady.mbxFree (tblWith [(14, 2)]).part.toNat) ∧ (0 < 4096) ∧ (Tab.get none tblReady.emb.tables (4096 * (tblWith
      [(14, 2)]).part.toNat + 0) = none) ∧ (∀ (j : Nat), j < 0 → (Tab.get none tblReady.emb.tables (4096 * (tblWith
      [(14, 2)]).part.toNat + j)).isSome = true) ∧ (¬tblReady.dnum 6291464 = 1) ∧ ((tblOf [(14, 2)]).elem ∈ [1, 2, 3, 4,
      17]) ∧ (¬((tblOf [(14, 2)]).round = 0 ∨ (tblOf [(14, 2)]).round = 4 ∧ (tblOf [(14, 2)]).elem ≠ 2 ∧ (tblOf [(14,
      2)]).elem ≠ 17 ∨ (tblOf [(14, 2)]).round = 1 ∧ (tblOf [(14, 2)]).elem ≠ 17))) ∧
    ((tblReady.mbxFree (tblWith [(11, 6)]).part.toNat) ∧ (0 < 4096) ∧ (Tab.get none tblReady.emb.tables (4096 * (tblWith
      [(11, 6)]).part.toNat + 0) = none) ∧ (∀ (j : Nat), j < 0 → (Tab.get none tblReady.emb.tables (4096 * (tblWith
      [(11, 6)]).part.toNat + j)).isSome = true) ∧ (¬tblReady.dnum 6291464 = 1) ∧ ((tblOf [(11, 6)]).elem ∈ [1, 2, 3, 4,
      17]) ∧ ((tblOf [(11, 6)]).round = 0 ∨ (tblOf [(11, 6)]).round = 4 ∧ (tblOf [(11, 6)]).elem ≠ 2 ∧ (tblOf [(11,
      6)]).elem ≠ 17 ∨ (tblOf [(11, 6)]).round = 1 ∧ (tblOf [(11, 6)]).elem ≠ 17) ∧ (¬(1 ≤ (tblOf [(11, 6)]).dim ∧
      (tblOf [(11, 6)]).dim ≤ 512 ∧ (tblOf [(11, 6)]).opt ≤ 5 ∧ 1 ≤ (tblOf [(11, 6)]).nshard ∧ 1 ≤ (tblOf [(11,
      6)]).rows ∧ (tblOf [(11, 6)]).base + (tblOf [(11, 6)]).nshard ≤ tblReady.podSize ∧ ((tblOf [(11, 6)]).score = true
      → (tblOf [(11, 6)]).repl = true) ∧ ((tblOf [(11, 6)]).crema = true → (tblOf [(11, 6)]).score = true ∧ (tblOf [(11,
      6)]).dim ≤ 64) ∧ ((tblOf [(11, 6)]).mirror ≠ 65535 → tblReady.mirrorNamed (tblWith [(11, 6)]).part.toNat (tblOf
      [(11, 6)]).mirror = false)))) ∧
    ((variantT.mbxFree (tblWith [(17, 1), (18, 1)]).part.toNat) ∧ (0 < 4096) ∧ (Tab.get none variantT.emb.tables (4096 *
      (tblWith [(17, 1), (18, 1)]).part.toNat + 0) = none) ∧ (∀ (j : Nat), j < 0 → (Tab.get none variantT.emb.tables
      (4096 * (tblWith [(17, 1), (18, 1)]).part.toNat + j)).isSome = true) ∧ (¬variantT.dnum 6291464 = 1) ∧ ((tblOf
      [(17, 1), (18, 1)]).elem ∈ [1, 2, 3, 4, 17]) ∧ ((tblOf [(17, 1), (18, 1)]).round = 0 ∨ (tblOf [(17, 1), (18,
      1)]).round = 4 ∧ (tblOf [(17, 1), (18, 1)]).elem ≠ 2 ∧ (tblOf [(17, 1), (18, 1)]).elem ≠ 17 ∨ (tblOf [(17, 1),
      (18, 1)]).round = 1 ∧ (tblOf [(17, 1), (18, 1)]).elem ≠ 17) ∧ (1 ≤ (tblOf [(17, 1), (18, 1)]).dim ∧ (tblOf [(17,
      1), (18, 1)]).dim ≤ 512 ∧ (tblOf [(17, 1), (18, 1)]).opt ≤ 5 ∧ 1 ≤ (tblOf [(17, 1), (18, 1)]).nshard ∧ 1 ≤ (tblOf
      [(17, 1), (18, 1)]).rows ∧ (tblOf [(17, 1), (18, 1)]).base + (tblOf [(17, 1), (18, 1)]).nshard ≤ variantT.podSize
      ∧ ((tblOf [(17, 1), (18, 1)]).score = true → (tblOf [(17, 1), (18, 1)]).repl = true) ∧ ((tblOf [(17, 1), (18,
      1)]).crema = true → (tblOf [(17, 1), (18, 1)]).score = true ∧ (tblOf [(17, 1), (18, 1)]).dim ≤ 64) ∧ ((tblOf [(17,
      1), (18, 1)]).mirror ≠ 65535 → variantT.mirrorNamed (tblWith [(17, 1), (18, 1)]).part.toNat (tblOf [(17, 1), (18,
      1)]).mirror = false)) ∧ (¬(variantT.euOk (tblOf [(17, 1), (18, 1)]).homeEu = true ∧ ((tblOf [(17, 1), (18,
      1)]).score = true ∨ (tblOf [(17, 1), (18, 1)]).crema = true → variantT.variant ≠ Variant.t)))) ∧
    ((tblReady.mbxFree (tblWith [(288, 4)]).part.toNat) ∧ (0 < 4096) ∧ (Tab.get none tblReady.emb.tables (4096 * (tblWith
      [(288, 4)]).part.toNat + 0) = none) ∧ (∀ (j : Nat), j < 0 → (Tab.get none tblReady.emb.tables (4096 * (tblWith
      [(288, 4)]).part.toNat + j)).isSome = true) ∧ (¬tblReady.dnum 6291464 = 1) ∧ ((tblOf [(288, 4)]).elem ∈ [1, 2, 3,
      4, 17]) ∧ ((tblOf [(288, 4)]).round = 0 ∨ (tblOf [(288, 4)]).round = 4 ∧ (tblOf [(288, 4)]).elem ≠ 2 ∧ (tblOf
      [(288, 4)]).elem ≠ 17 ∨ (tblOf [(288, 4)]).round = 1 ∧ (tblOf [(288, 4)]).elem ≠ 17) ∧ (1 ≤ (tblOf [(288, 4)]).dim
      ∧ (tblOf [(288, 4)]).dim ≤ 512 ∧ (tblOf [(288, 4)]).opt ≤ 5 ∧ 1 ≤ (tblOf [(288, 4)]).nshard ∧ 1 ≤ (tblOf [(288,
      4)]).rows ∧ (tblOf [(288, 4)]).base + (tblOf [(288, 4)]).nshard ≤ tblReady.podSize ∧ ((tblOf [(288, 4)]).score =
      true → (tblOf [(288, 4)]).repl = true) ∧ ((tblOf [(288, 4)]).crema = true → (tblOf [(288, 4)]).score = true ∧
      (tblOf [(288, 4)]).dim ≤ 64) ∧ ((tblOf [(288, 4)]).mirror ≠ 65535 → tblReady.mirrorNamed (tblWith [(288,
      4)]).part.toNat (tblOf [(288, 4)]).mirror = false)) ∧ (tblReady.euOk (tblOf [(288, 4)]).homeEu = true ∧ ((tblOf
      [(288, 4)]).score = true ∨ (tblOf [(288, 4)]).crema = true → tblReady.variant ≠ Variant.t)) ∧ (¬((tblReady.obj
      (tblWith [(288, 4)]).part.toNat (tblOf [(288, 4)]).homeObj).isSome = true ∧ (tblReady.obj (tblWith [(288,
      4)]).part.toNat (tblOf [(288, 4)]).stageObj).isSome = true ∧ (tblReady.obj (tblWith [(288, 4)]).part.toNat (tblOf
      [(288, 4)]).exchObj).isSome = true ∧ (∃ g, tblReady.obj (tblWith [(288, 4)]).part.toNat (tblOf [(288, 4)]).homeObj
      = some g ∧ g.rows = true) ∧ ((tblOf [(288, 4)]).mirror ≠ 65535 → ∃ g, tblReady.obj (tblWith [(288, 4)]).part.toNat
      (tblOf [(288, 4)]).mirror = some g ∧ g.rows = true) ∧ ((tblOf [(288, 4)]).repl = true → ∃ g, tblReady.obj (tblWith
      [(288, 4)]).part.toNat (tblOf [(288, 4)]).replObj = some g ∧ g.rows = true ∧ g.policy = 1 ∧ g.mirrored = true))))
      ∧
    ((tblReady.mbxFree (tblWith [(192, 1)]).part.toNat) ∧ (0 < 4096) ∧ (Tab.get none tblReady.emb.tables (4096 * (tblWith
      [(192, 1)]).part.toNat + 0) = none) ∧ (∀ (j : Nat), j < 0 → (Tab.get none tblReady.emb.tables (4096 * (tblWith
      [(192, 1)]).part.toNat + j)).isSome = true) ∧ (¬tblReady.dnum 6291464 = 1) ∧ ((tblOf [(192, 1)]).elem ∈ [1, 2, 3,
      4, 17]) ∧ ((tblOf [(192, 1)]).round = 0 ∨ (tblOf [(192, 1)]).round = 4 ∧ (tblOf [(192, 1)]).elem ≠ 2 ∧ (tblOf
      [(192, 1)]).elem ≠ 17 ∨ (tblOf [(192, 1)]).round = 1 ∧ (tblOf [(192, 1)]).elem ≠ 17) ∧ (1 ≤ (tblOf [(192, 1)]).dim
      ∧ (tblOf [(192, 1)]).dim ≤ 512 ∧ (tblOf [(192, 1)]).opt ≤ 5 ∧ 1 ≤ (tblOf [(192, 1)]).nshard ∧ 1 ≤ (tblOf [(192,
      1)]).rows ∧ (tblOf [(192, 1)]).base + (tblOf [(192, 1)]).nshard ≤ tblReady.podSize ∧ ((tblOf [(192, 1)]).score =
      true → (tblOf [(192, 1)]).repl = true) ∧ ((tblOf [(192, 1)]).crema = true → (tblOf [(192, 1)]).score = true ∧
      (tblOf [(192, 1)]).dim ≤ 64) ∧ ((tblOf [(192, 1)]).mirror ≠ 65535 → tblReady.mirrorNamed (tblWith [(192,
      1)]).part.toNat (tblOf [(192, 1)]).mirror = false)) ∧ (tblReady.euOk (tblOf [(192, 1)]).homeEu = true ∧ ((tblOf
      [(192, 1)]).score = true ∨ (tblOf [(192, 1)]).crema = true → tblReady.variant ≠ Variant.t)) ∧ ((tblReady.obj
      (tblWith [(192, 1)]).part.toNat (tblOf [(192, 1)]).homeObj).isSome = true ∧ (tblReady.obj (tblWith [(192,
      1)]).part.toNat (tblOf [(192, 1)]).stageObj).isSome = true ∧ (tblReady.obj (tblWith [(192, 1)]).part.toNat (tblOf
      [(192, 1)]).exchObj).isSome = true ∧ (∃ g, tblReady.obj (tblWith [(192, 1)]).part.toNat (tblOf [(192, 1)]).homeObj
      = some g ∧ g.rows = true) ∧ ((tblOf [(192, 1)]).mirror ≠ 65535 → ∃ g, tblReady.obj (tblWith [(192, 1)]).part.toNat
      (tblOf [(192, 1)]).mirror = some g ∧ g.rows = true) ∧ ((tblOf [(192, 1)]).repl = true → ∃ g, tblReady.obj (tblWith
      [(192, 1)]).part.toNat (tblOf [(192, 1)]).replObj = some g ∧ g.rows = true ∧ g.policy = 1 ∧ g.mirrored = true)) ∧
      (¬((tblOf [(192, 1)]).rows * (tblOf [(192, 1)]).recLen ≤ tblReady.objSize (tblWith [(192, 1)]).part.toNat (tblOf
      [(192, 1)]).homeObj ∧ ((tblOf [(192, 1)]).mirror ≠ 65535 → (tblOf [(192, 1)]).rows * (tblOf [(192, 1)]).recLen ≤
      tblReady.objSize (tblWith [(192, 1)]).part.toNat (tblOf [(192, 1)]).mirror) ∧ ((tblOf [(192, 1)]).repl = true →
      (tblOf [(192, 1)]).nshard * (tblOf [(192, 1)]).rows * (tblOf [(192, 1)]).rrecLen ≤ tblReady.objSize (tblWith
      [(192, 1)]).part.toNat (tblOf [(192, 1)]).replObj) ∧ 64 + (tblOf [(192, 1)]).recLen ≤ tblReady.objSize (tblWith
      [(192, 1)]).part.toNat (tblOf [(192, 1)]).stageObj ∧ 2 * (tblOf [(192, 1)]).exchLen ≤ tblReady.objSize (tblWith
      [(192, 1)]).part.toNat (tblOf [(192, 1)]).exchObj))) ∧
    ((tblReady.mbxFree (tblWith []).part.toNat) ∧ (0 < 4096) ∧ (Tab.get none tblReady.emb.tables (4096 * (tblWith
      []).part.toNat + 0) = none) ∧ (∀ (j : Nat), j < 0 → (Tab.get none tblReady.emb.tables (4096 * (tblWith
      []).part.toNat + j)).isSome = true) ∧ (¬tblReady.dnum 6291464 = 1) ∧ ((tblOf []).elem ∈ [1, 2, 3, 4, 17]) ∧
      ((tblOf []).round = 0 ∨ (tblOf []).round = 4 ∧ (tblOf []).elem ≠ 2 ∧ (tblOf []).elem ≠ 17 ∨ (tblOf []).round = 1 ∧
      (tblOf []).elem ≠ 17) ∧ (1 ≤ (tblOf []).dim ∧ (tblOf []).dim ≤ 512 ∧ (tblOf []).opt ≤ 5 ∧ 1 ≤ (tblOf []).nshard ∧
      1 ≤ (tblOf []).rows ∧ (tblOf []).base + (tblOf []).nshard ≤ tblReady.podSize ∧ ((tblOf []).score = true → (tblOf
      []).repl = true) ∧ ((tblOf []).crema = true → (tblOf []).score = true ∧ (tblOf []).dim ≤ 64) ∧ ((tblOf []).mirror
      ≠ 65535 → tblReady.mirrorNamed (tblWith []).part.toNat (tblOf []).mirror = false)) ∧ (tblReady.euOk (tblOf
      []).homeEu = true ∧ ((tblOf []).score = true ∨ (tblOf []).crema = true → tblReady.variant ≠ Variant.t)) ∧
      ((tblReady.obj (tblWith []).part.toNat (tblOf []).homeObj).isSome = true ∧ (tblReady.obj (tblWith []).part.toNat
      (tblOf []).stageObj).isSome = true ∧ (tblReady.obj (tblWith []).part.toNat (tblOf []).exchObj).isSome = true ∧ (∃
      g, tblReady.obj (tblWith []).part.toNat (tblOf []).homeObj = some g ∧ g.rows = true) ∧ ((tblOf []).mirror ≠ 65535
      → ∃ g, tblReady.obj (tblWith []).part.toNat (tblOf []).mirror = some g ∧ g.rows = true) ∧ ((tblOf []).repl = true
      → ∃ g, tblReady.obj (tblWith []).part.toNat (tblOf []).replObj = some g ∧ g.rows = true ∧ g.policy = 1 ∧
      g.mirrored = true)) ∧ ((tblOf []).rows * (tblOf []).recLen ≤ tblReady.objSize (tblWith []).part.toNat (tblOf
      []).homeObj ∧ ((tblOf []).mirror ≠ 65535 → (tblOf []).rows * (tblOf []).recLen ≤ tblReady.objSize (tblWith
      []).part.toNat (tblOf []).mirror) ∧ ((tblOf []).repl = true → (tblOf []).nshard * (tblOf []).rows * (tblOf
      []).rrecLen ≤ tblReady.objSize (tblWith []).part.toNat (tblOf []).replObj) ∧ 64 + (tblOf []).recLen ≤
      tblReady.objSize (tblWith []).part.toNat (tblOf []).stageObj ∧ 2 * (tblOf []).exchLen ≤ tblReady.objSize (tblWith
      []).part.toNat (tblOf []).exchObj)) ∧
    ((tblHeld.mbxFree (cmd (leBytes 2 0)).part.toNat) ∧ ((cmd (leBytes 2 0)).payload = leBytes 2 0) ∧ (0 < 65536) ∧ (0 <
      4096) ∧ (Tab.get none tblHeld.emb.tables (4096 * (cmd (leBytes 2 0)).part.toNat + 0) = some tbl) ∧ (tblHeld.dnum
      6291464 ≠ 1)) ∧
    ((tblHeld.mbxFree (cmd (leBytes 2 4096)).part.toNat) ∧ ((cmd (leBytes 2 4096)).payload = leBytes 2 4096) ∧ (4096 <
      65536) ∧ (4096 ≤ 4096) ∧ (tblHeld.dnum 6291464 ≠ 1)) ∧
    ((tblArmed.mbxFree (cmd (leBytes 2 0)).part.toNat) ∧ ((cmd (leBytes 2 0)).payload = leBytes 2 0) ∧ (0 < 65536) ∧
      (tblArmed.dnum 6291464 = 1)) ∧
    ((collArmed.mbxFree (collWith []).part.toNat) ∧ (1 < 256) ∧ (Tab.get none collArmed.coll.defs (256 * (collWith
      []).part.toNat + 1) = none) ∧ (∀ (j : Nat), j < 1 → (Tab.get none collArmed.coll.defs (256 * (collWith
      []).part.toNat + j)).isSome = true) ∧ (collArmed.dnum 6291464 = 1 ∧ collArmed.sched.state ≠ 13)) ∧
    ((collReady.mbxFree (collWith [(8, 4)]).part.toNat) ∧ (0 < 256) ∧ (Tab.get none collReady.coll.defs (256 * (collWith
      [(8, 4)]).part.toNat + 0) = none) ∧ (∀ (j : Nat), j < 0 → (Tab.get none collReady.coll.defs (256 * (collWith [(8,
      4)]).part.toNat + j)).isSome = true) ∧ (¬(collReady.dnum 6291464 = 1 ∧ collReady.sched.state ≠ 13)) ∧ (4 < (collOf
      [(8, 4)]).pfmt)) ∧
    ((collReady.mbxFree (payloadOf [(0, 1), (8, 1), (16, 16)]).part.toNat) ∧ (0 < 256) ∧ (Tab.get none collReady.coll.defs
      (256 * (payloadOf [(0, 1), (8, 1), (16, 16)]).part.toNat + 0) = none) ∧ (∀ (j : Nat), j < 0 → (Tab.get none
      collReady.coll.defs (256 * (payloadOf [(0, 1), (8, 1), (16, 16)]).part.toNat + j)).isSome = true) ∧
      (¬(collReady.dnum 6291464 = 1 ∧ collReady.sched.state ≠ 13)) ∧ ((collDesc (descOf (payloadOf [(0, 1), (8, 1), (16,
      16)]))).pfmt ≤ 4) ∧ (¬(1 ≤ (collDesc (descOf (payloadOf [(0, 1), (8, 1), (16, 16)]))).len ∧ ((collDesc (descOf
      (payloadOf [(0, 1), (8, 1), (16, 16)]))).reduce = true ∨ (collDesc (descOf (payloadOf [(0, 1), (8, 1), (16,
      16)]))).gather = true) ∧ (collDesc (descOf (payloadOf [(0, 1), (8, 1), (16, 16)]))).bpe ≤ 32 ∧ ((collDesc (descOf
      (payloadOf [(0, 1), (8, 1), (16, 16)]))).mirror = true → 1 ≤ (collDesc (descOf (payloadOf [(0, 1), (8, 1), (16,
      16)]))).bpe) ∧ ∀ (g : Nat), g < 3 → 1 < collReady.dim g → ((collDesc (descOf (payloadOf [(0, 1), (8, 1), (16,
      16)]))).reduce = true → (collDesc (descOf (payloadOf [(0, 1), (8, 1), (16, 16)]))).hop.getD g 0 ≠ 0 ∧ (collDesc
      (descOf (payloadOf [(0, 1), (8, 1), (16, 16)]))).scale ≠ 0) ∧ ((collDesc (descOf (payloadOf [(0, 1), (8, 1), (16,
      16)]))).gather = true → (collDesc (descOf (payloadOf [(0, 1), (8, 1), (16, 16)]))).ag.getD g 0 ≠ 0)))) ∧
    ((collReady.mbxFree (collWith [(128, 9)]).part.toNat) ∧ (0 < 256) ∧ (Tab.get none collReady.coll.defs (256 * (collWith
      [(128, 9)]).part.toNat + 0) = none) ∧ (∀ (j : Nat), j < 0 → (Tab.get none collReady.coll.defs (256 * (collWith
      [(128, 9)]).part.toNat + j)).isSome = true) ∧ (¬(collReady.dnum 6291464 = 1 ∧ collReady.sched.state ≠ 13)) ∧
      ((collOf [(128, 9)]).pfmt ≤ 4) ∧ (1 ≤ (collOf [(128, 9)]).len ∧ ((collOf [(128, 9)]).reduce = true ∨ (collOf
      [(128, 9)]).gather = true) ∧ (collOf [(128, 9)]).bpe ≤ 32 ∧ ((collOf [(128, 9)]).mirror = true → 1 ≤ (collOf
      [(128, 9)]).bpe) ∧ ∀ (g : Nat), g < 3 → 1 < collReady.dim g → ((collOf [(128, 9)]).reduce = true → (collOf [(128,
      9)]).hop.getD g 0 ≠ 0 ∧ (collOf [(128, 9)]).scale ≠ 0) ∧ ((collOf [(128, 9)]).gather = true → (collOf [(128,
      9)]).ag.getD g 0 ≠ 0)) ∧ (¬((∀ (j : Nat), j ∈ (collOf [(128, 9)]).objects → (collReady.obj (collWith [(128,
      9)]).part.toNat j).isSome = true) ∧ ((collOf [(128, 9)]).mirror = true → ∀ (g : ObjDesc), collReady.obj (collWith
      [(128, 9)]).part.toNat (collOf [(128, 9)]).stateObj = some g → g.mirrored = true)))) ∧
    ((collReady.mbxFree (collWith [(267, 1), (272, 16777215)]).part.toNat) ∧ (0 < 256) ∧ (Tab.get none collReady.coll.defs
      (256 * (collWith [(267, 1), (272, 16777215)]).part.toNat + 0) = none) ∧ (∀ (j : Nat), j < 0 → (Tab.get none
      collReady.coll.defs (256 * (collWith [(267, 1), (272, 16777215)]).part.toNat + j)).isSome = true) ∧
      (¬(collReady.dnum 6291464 = 1 ∧ collReady.sched.state ≠ 13)) ∧ ((collOf [(267, 1), (272, 16777215)]).pfmt ≤ 4) ∧
      (1 ≤ (collOf [(267, 1), (272, 16777215)]).len ∧ ((collOf [(267, 1), (272, 16777215)]).reduce = true ∨ (collOf
      [(267, 1), (272, 16777215)]).gather = true) ∧ (collOf [(267, 1), (272, 16777215)]).bpe ≤ 32 ∧ ((collOf [(267, 1),
      (272, 16777215)]).mirror = true → 1 ≤ (collOf [(267, 1), (272, 16777215)]).bpe) ∧ ∀ (g : Nat), g < 3 → 1 <
      collReady.dim g → ((collOf [(267, 1), (272, 16777215)]).reduce = true → (collOf [(267, 1), (272,
      16777215)]).hop.getD g 0 ≠ 0 ∧ (collOf [(267, 1), (272, 16777215)]).scale ≠ 0) ∧ ((collOf [(267, 1), (272,
      16777215)]).gather = true → (collOf [(267, 1), (272, 16777215)]).ag.getD g 0 ≠ 0)) ∧ ((∀ (j : Nat), j ∈ (collOf
      [(267, 1), (272, 16777215)]).objects → (collReady.obj (collWith [(267, 1), (272, 16777215)]).part.toNat j).isSome
      = true) ∧ ((collOf [(267, 1), (272, 16777215)]).mirror = true → ∀ (g : ObjDesc), collReady.obj (collWith [(267,
      1), (272, 16777215)]).part.toNat (collOf [(267, 1), (272, 16777215)]).stateObj = some g → g.mirrored = true)) ∧
      (¬((collOf [(267, 1), (272, 16777215)]).resEn = true → covers (collReady.ptScratch (collWith [(267, 1), (272,
      16777215)]).part.toNat 0) (64 * (collOf [(267, 1), (272, 16777215)]).resUnit) 64 = true))) ∧
    (((collReady.dput 3211276 (leBytes 4 0)).mbxFree (collWith [(266, 1), (256, 1023)]).part.toNat) ∧ (0 < 256) ∧ (Tab.get
      none (collReady.dput 3211276 (leBytes 4 0)).coll.defs (256 * (collWith [(266, 1), (256, 1023)]).part.toNat + 0) =
      none) ∧ (∀ (j : Nat), j < 0 → (Tab.get none (collReady.dput 3211276 (leBytes 4 0)).coll.defs (256 * (collWith
      [(266, 1), (256, 1023)]).part.toNat + j)).isSome = true) ∧ (¬((collReady.dput 3211276 (leBytes 4 0)).dnum 6291464
      = 1 ∧ (collReady.dput 3211276 (leBytes 4 0)).sched.state ≠ 13)) ∧ ((collOf [(266, 1), (256, 1023)]).pfmt ≤ 4) ∧ (1
      ≤ (collOf [(266, 1), (256, 1023)]).len ∧ ((collOf [(266, 1), (256, 1023)]).reduce = true ∨ (collOf [(266, 1),
      (256, 1023)]).gather = true) ∧ (collOf [(266, 1), (256, 1023)]).bpe ≤ 32 ∧ ((collOf [(266, 1), (256,
      1023)]).mirror = true → 1 ≤ (collOf [(266, 1), (256, 1023)]).bpe) ∧ ∀ (g : Nat), g < 3 → 1 < (collReady.dput
      3211276 (leBytes 4 0)).dim g → ((collOf [(266, 1), (256, 1023)]).reduce = true → (collOf [(266, 1), (256,
      1023)]).hop.getD g 0 ≠ 0 ∧ (collOf [(266, 1), (256, 1023)]).scale ≠ 0) ∧ ((collOf [(266, 1), (256, 1023)]).gather
      = true → (collOf [(266, 1), (256, 1023)]).ag.getD g 0 ≠ 0)) ∧ ((∀ (j : Nat), j ∈ (collOf [(266, 1), (256,
      1023)]).objects → ((collReady.dput 3211276 (leBytes 4 0)).obj (collWith [(266, 1), (256, 1023)]).part.toNat
      j).isSome = true) ∧ ((collOf [(266, 1), (256, 1023)]).mirror = true → ∀ (g : ObjDesc), (collReady.dput 3211276
      (leBytes 4 0)).obj (collWith [(266, 1), (256, 1023)]).part.toNat (collOf [(266, 1), (256, 1023)]).stateObj = some
      g → g.mirrored = true)) ∧ ((collOf [(266, 1), (256, 1023)]).resEn = true → covers ((collReady.dput 3211276
      (leBytes 4 0)).ptScratch (collWith [(266, 1), (256, 1023)]).part.toNat 0) (64 * (collOf [(266, 1), (256,
      1023)]).resUnit) 64 = true) ∧ (¬((collOf [(266, 1), (256, 1023)]).doneEn = true → inRange ((collReady.dput 3211276
      (leBytes 4 0)).ptRange (collWith [(266, 1), (256, 1023)]).part.toNat 12) (collOf [(266, 1), (256, 1023)]).fence =
      true))) ∧
    (((withObjects [(0, some (word [(0, 2), (64, 512)]))]).mbxFree (collWith []).part.toNat) ∧ (0 < 256) ∧ (Tab.get none
      (withObjects [(0, some (word [(0, 2), (64, 512)]))]).coll.defs (256 * (collWith []).part.toNat + 0) = none) ∧ (∀
      (j : Nat), j < 0 → (Tab.get none (withObjects [(0, some (word [(0, 2), (64, 512)]))]).coll.defs (256 * (collWith
      []).part.toNat + j)).isSome = true) ∧ (¬((withObjects [(0, some (word [(0, 2), (64, 512)]))]).dnum 6291464 = 1 ∧
      (withObjects [(0, some (word [(0, 2), (64, 512)]))]).sched.state ≠ 13)) ∧ ((collOf []).pfmt ≤ 4) ∧ (1 ≤ (collOf
      []).len ∧ ((collOf []).reduce = true ∨ (collOf []).gather = true) ∧ (collOf []).bpe ≤ 32 ∧ ((collOf []).mirror =
      true → 1 ≤ (collOf []).bpe) ∧ ∀ (g : Nat), g < 3 → 1 < (withObjects [(0, some (word [(0, 2), (64, 512)]))]).dim g
      → ((collOf []).reduce = true → (collOf []).hop.getD g 0 ≠ 0 ∧ (collOf []).scale ≠ 0) ∧ ((collOf []).gather = true
      → (collOf []).ag.getD g 0 ≠ 0)) ∧ ((∀ (j : Nat), j ∈ (collOf []).objects → ((withObjects [(0, some (word [(0, 2),
      (64, 512)]))]).obj (collWith []).part.toNat j).isSome = true) ∧ ((collOf []).mirror = true → ∀ (g : ObjDesc),
      (withObjects [(0, some (word [(0, 2), (64, 512)]))]).obj (collWith []).part.toNat (collOf []).stateObj = some g →
      g.mirrored = true)) ∧ ((collOf []).resEn = true → covers ((withObjects [(0, some (word [(0, 2), (64,
      512)]))]).ptScratch (collWith []).part.toNat 0) (64 * (collOf []).resUnit) 64 = true) ∧ ((collOf []).doneEn = true
      → inRange ((withObjects [(0, some (word [(0, 2), (64, 512)]))]).ptRange (collWith []).part.toNat 12) (collOf
      []).fence = true) ∧ (¬(((collOf []).reduce = true → ∃ g, (withObjects [(0, some (word [(0, 2), (64, 512)]))]).obj
      (collWith []).part.toNat (collOf []).gradObj = some g ∧ g.policy ≤ 1) ∧ ((collOf []).gather = true → (∃ g,
      (withObjects [(0, some (word [(0, 2), (64, 512)]))]).obj (collWith []).part.toNat (collOf []).param0 = some g ∧
      g.policy ≤ 1) ∧ ∃ g, (withObjects [(0, some (word [(0, 2), (64, 512)]))]).obj (collWith []).part.toNat (collOf
      []).param1 = some g ∧ g.policy ≤ 1)))) ∧
    ((collReady.mbxFree (collWith [(64, 1)]).part.toNat) ∧ (0 < 256) ∧ (Tab.get none collReady.coll.defs (256 * (collWith
      [(64, 1)]).part.toNat + 0) = none) ∧ (∀ (j : Nat), j < 0 → (Tab.get none collReady.coll.defs (256 * (collWith
      [(64, 1)]).part.toNat + j)).isSome = true) ∧ (¬(collReady.dnum 6291464 = 1 ∧ collReady.sched.state ≠ 13)) ∧
      ((collOf [(64, 1)]).pfmt ≤ 4) ∧ (1 ≤ (collOf [(64, 1)]).len ∧ ((collOf [(64, 1)]).reduce = true ∨ (collOf [(64,
      1)]).gather = true) ∧ (collOf [(64, 1)]).bpe ≤ 32 ∧ ((collOf [(64, 1)]).mirror = true → 1 ≤ (collOf [(64,
      1)]).bpe) ∧ ∀ (g : Nat), g < 3 → 1 < collReady.dim g → ((collOf [(64, 1)]).reduce = true → (collOf [(64,
      1)]).hop.getD g 0 ≠ 0 ∧ (collOf [(64, 1)]).scale ≠ 0) ∧ ((collOf [(64, 1)]).gather = true → (collOf [(64,
      1)]).ag.getD g 0 ≠ 0)) ∧ ((∀ (j : Nat), j ∈ (collOf [(64, 1)]).objects → (collReady.obj (collWith [(64,
      1)]).part.toNat j).isSome = true) ∧ ((collOf [(64, 1)]).mirror = true → ∀ (g : ObjDesc), collReady.obj (collWith
      [(64, 1)]).part.toNat (collOf [(64, 1)]).stateObj = some g → g.mirrored = true)) ∧ ((collOf [(64, 1)]).resEn =
      true → covers (collReady.ptScratch (collWith [(64, 1)]).part.toNat 0) (64 * (collOf [(64, 1)]).resUnit) 64 = true)
      ∧ ((collOf [(64, 1)]).doneEn = true → inRange (collReady.ptRange (collWith [(64, 1)]).part.toNat 12) (collOf [(64,
      1)]).fence = true) ∧ (((collOf [(64, 1)]).reduce = true → ∃ g, collReady.obj (collWith [(64, 1)]).part.toNat
      (collOf [(64, 1)]).gradObj = some g ∧ g.policy ≤ 1) ∧ ((collOf [(64, 1)]).gather = true → (∃ g, collReady.obj
      (collWith [(64, 1)]).part.toNat (collOf [(64, 1)]).param0 = some g ∧ g.policy ≤ 1) ∧ ∃ g, collReady.obj (collWith
      [(64, 1)]).part.toNat (collOf [(64, 1)]).param1 = some g ∧ g.policy ≤ 1)) ∧ (¬(((collOf [(64, 1)]).reduce = true →
      4 * (collOf [(64, 1)]).len ≤ collReady.objSize (collWith [(64, 1)]).part.toNat (collOf [(64, 1)]).gradObj) ∧
      ((collOf [(64, 1)]).gather = true → (collOf [(64, 1)]).len * (collOf [(64, 1)]).psize ≤ collReady.objSize
      (collWith [(64, 1)]).part.toNat (collOf [(64, 1)]).param0 ∧ (collOf [(64, 1)]).len * (collOf [(64, 1)]).psize ≤
      collReady.objSize (collWith [(64, 1)]).part.toNat (collOf [(64, 1)]).param1) ∧ ((collOf [(64, 1)]).mirror = true →
      2 * collReady.shardBound (collOf [(64, 1)]) * (collOf [(64, 1)]).bpe ≤ collReady.objSize (collWith [(64,
      1)]).part.toNat (collOf [(64, 1)]).stateObj)))) ∧
    ((inRemap.mbxFree (collWith []).part.toNat) ∧ (0 < 256) ∧ (Tab.get none inRemap.coll.defs (256 * (collWith
      []).part.toNat + 0) = none) ∧ (∀ (j : Nat), j < 0 → (Tab.get none inRemap.coll.defs (256 * (collWith
      []).part.toNat + j)).isSome = true) ∧ (¬(inRemap.dnum 6291464 = 1 ∧ inRemap.sched.state ≠ 13)) ∧ ((collOf []).pfmt
      ≤ 4) ∧ (1 ≤ (collOf []).len ∧ ((collOf []).reduce = true ∨ (collOf []).gather = true) ∧ (collOf []).bpe ≤ 32 ∧
      ((collOf []).mirror = true → 1 ≤ (collOf []).bpe) ∧ ∀ (g : Nat), g < 3 → 1 < inRemap.dim g → ((collOf []).reduce =
      true → (collOf []).hop.getD g 0 ≠ 0 ∧ (collOf []).scale ≠ 0) ∧ ((collOf []).gather = true → (collOf []).ag.getD g
      0 ≠ 0)) ∧ ((∀ (j : Nat), j ∈ (collOf []).objects → (inRemap.obj (collWith []).part.toNat j).isSome = true) ∧
      ((collOf []).mirror = true → ∀ (g : ObjDesc), inRemap.obj (collWith []).part.toNat (collOf []).stateObj = some g →
      g.mirrored = true)) ∧ ((collOf []).resEn = true → covers (inRemap.ptScratch (collWith []).part.toNat 0) (64 *
      (collOf []).resUnit) 64 = true) ∧ ((collOf []).doneEn = true → inRange (inRemap.ptRange (collWith []).part.toNat
      12) (collOf []).fence = true) ∧ (((collOf []).reduce = true → ∃ g, inRemap.obj (collWith []).part.toNat (collOf
      []).gradObj = some g ∧ g.policy ≤ 1) ∧ ((collOf []).gather = true → (∃ g, inRemap.obj (collWith []).part.toNat
      (collOf []).param0 = some g ∧ g.policy ≤ 1) ∧ ∃ g, inRemap.obj (collWith []).part.toNat (collOf []).param1 = some
      g ∧ g.policy ≤ 1)) ∧ (((collOf []).reduce = true → 4 * (collOf []).len ≤ inRemap.objSize (collWith []).part.toNat
      (collOf []).gradObj) ∧ ((collOf []).gather = true → (collOf []).len * (collOf []).psize ≤ inRemap.objSize
      (collWith []).part.toNat (collOf []).param0 ∧ (collOf []).len * (collOf []).psize ≤ inRemap.objSize (collWith
      []).part.toNat (collOf []).param1) ∧ ((collOf []).mirror = true → 2 * inRemap.shardBound (collOf []) * (collOf
      []).bpe ≤ inRemap.objSize (collWith []).part.toNat (collOf []).stateObj)) ∧ (¬(inRemap.sched.state = 13 →
      inRemap.planBroken (given inRemap (collWith [])).colls (inRemap.dnum 6356997) (inRemap.dnum 6356999) = false))) ∧
    ((collReady.mbxFree (collWith []).part.toNat) ∧ (0 < 256) ∧ (Tab.get none collReady.coll.defs (256 * (collWith
      []).part.toNat + 0) = none) ∧ (∀ (j : Nat), j < 0 → (Tab.get none collReady.coll.defs (256 * (collWith
      []).part.toNat + j)).isSome = true) ∧ (¬(collReady.dnum 6291464 = 1 ∧ collReady.sched.state ≠ 13)) ∧ ((collOf
      []).pfmt ≤ 4) ∧ (1 ≤ (collOf []).len ∧ ((collOf []).reduce = true ∨ (collOf []).gather = true) ∧ (collOf []).bpe ≤
      32 ∧ ((collOf []).mirror = true → 1 ≤ (collOf []).bpe) ∧ ∀ (g : Nat), g < 3 → 1 < collReady.dim g → ((collOf
      []).reduce = true → (collOf []).hop.getD g 0 ≠ 0 ∧ (collOf []).scale ≠ 0) ∧ ((collOf []).gather = true → (collOf
      []).ag.getD g 0 ≠ 0)) ∧ ((∀ (j : Nat), j ∈ (collOf []).objects → (collReady.obj (collWith []).part.toNat j).isSome
      = true) ∧ ((collOf []).mirror = true → ∀ (g : ObjDesc), collReady.obj (collWith []).part.toNat (collOf
      []).stateObj = some g → g.mirrored = true)) ∧ ((collOf []).resEn = true → covers (collReady.ptScratch (collWith
      []).part.toNat 0) (64 * (collOf []).resUnit) 64 = true) ∧ ((collOf []).doneEn = true → inRange (collReady.ptRange
      (collWith []).part.toNat 12) (collOf []).fence = true) ∧ (((collOf []).reduce = true → ∃ g, collReady.obj
      (collWith []).part.toNat (collOf []).gradObj = some g ∧ g.policy ≤ 1) ∧ ((collOf []).gather = true → (∃ g,
      collReady.obj (collWith []).part.toNat (collOf []).param0 = some g ∧ g.policy ≤ 1) ∧ ∃ g, collReady.obj (collWith
      []).part.toNat (collOf []).param1 = some g ∧ g.policy ≤ 1)) ∧ (((collOf []).reduce = true → 4 * (collOf []).len ≤
      collReady.objSize (collWith []).part.toNat (collOf []).gradObj) ∧ ((collOf []).gather = true → (collOf []).len *
      (collOf []).psize ≤ collReady.objSize (collWith []).part.toNat (collOf []).param0 ∧ (collOf []).len * (collOf
      []).psize ≤ collReady.objSize (collWith []).part.toNat (collOf []).param1) ∧ ((collOf []).mirror = true → 2 *
      collReady.shardBound (collOf []) * (collOf []).bpe ≤ collReady.objSize (collWith []).part.toNat (collOf
      []).stateObj)) ∧ (collReady.sched.state = 13 → collReady.planBroken (given collReady (collWith [])).colls
      (collReady.dnum 6356997) (collReady.dnum 6356999) = false)) ∧
    ((collHeld.mbxFree (cmd (leBytes 2 0)).part.toNat) ∧ ((cmd (leBytes 2 0)).payload = leBytes 2 0) ∧ (0 < 65536) ∧ (0 <
      256) ∧ (Tab.get none collHeld.coll.defs (256 * (cmd (leBytes 2 0)).part.toNat + 0) = some coll) ∧ (¬(collHeld.dnum
      6291464 = 1 ∧ collHeld.sched.state ≠ 13))) ∧
    ((collHeld.mbxFree (cmd (leBytes 2 256)).part.toNat) ∧ ((cmd (leBytes 2 256)).payload = leBytes 2 256) ∧ (256 < 65536) ∧
      (256 ≤ 256) ∧ (¬(collHeld.dnum 6291464 = 1 ∧ collHeld.sched.state ≠ 13))) ∧
    ((collArmed.mbxFree (cmd (leBytes 2 0)).part.toNat) ∧ ((cmd (leBytes 2 0)).payload = leBytes 2 0) ∧ (0 < 65536) ∧
      (collArmed.dnum 6291464 = 1 ∧ collArmed.sched.state ≠ 13)) :=
  by and_intros <;> decide +kernel

/-- No object, table or collective is free. -/
theorem test_met_MailboxObjects_full :
    (∀ i, i < 65536 → (Tab.get none fullObjects.mem.objects (65536 * 0 + i)).isSome = true) ∧
    (∀ i, i < 4096 → (Tab.get none fullTables.emb.tables (4096 * 0 + i)).isSome = true) ∧
    (∀ i, i < 256 → (Tab.get none fullColls.coll.defs (256 * 0 + i)).isSome = true) := by
  refine ⟨fun i h => ?_, fun i h => ?_, fun i h => ?_⟩
  · simpa [fullObjects, withObjects] using many_full newObj 65536 i h
  · simpa [fullTables] using many_full tbl 4096 i h
  · simpa [fullColls] using many_full coll 256 i h

end Memory

namespace Pod

/-- A pod of two modules, this one of rank 0, with quads 0 and 1 as fabric links in +X and −X; collective 0 of partition 0
with its gradient object. -/
def pod2 : State := [(0x410001, [2#8, 1#8, 1#8, 0#8]), (0x401001, [1#8]), (0x401002, [1#8]), (0x401102, [1#8]),
  (0x600008, [1#8])].foldl (fun s e => s.dput e.1 e.2) wit
def coll : Vec := word [(0, 1), (2, 1), (8, 1), (16, 16), (64, 128), (176, 1), (192, 1), (216, 1)]
def reducing (tick opened slot : Nat) : State := { pod2 with
  clk := { wit.clk with tick := tick }
  coll := { wit.coll with defs := [(0, some coll)], opened := opened, slot := slot }
  sched := { wit.sched with state := 6 }
  mem := { wit.mem with objects := [(0, some (word [(0, 1), (64, 512), (192, 0x1000)])),
    (1, some (word [(0, 1), (16, 1), (64, 2048), (192, 0x2000)]))] } }
def firstSlot : Slot := ⟨0, 0, 1, 0, 0, 1⟩
def slotOp : CollSlotOp := ⟨{}, {}⟩
def packet (kind rep first : Nat) (us : List Byte) : CollPktOp :=
  let head := [BitVec.ofNat 8 kind, 0, 0, 0, 0, BitVec.ofNat 8 rep] ++ beBytes 2 1 ++ beBytes 4 0
  ⟨1, head ++ beBytes 4 first ++ us, 1, {}, {}⟩
def holds (got : Bool) : State := { reducing 0 0 0 with coll := { (reducing 0 0 0).coll with
  blks := [{ rank := 0, part := 0, coll := 0, stage := 0, block := 2, gotR := got }] } }
/-- Link 0 of the pod in a mode, and with what a test adds. -/
def linkIs (k : Link) : State := { pod2 with fab := { pod2.fab with links := [(0, k), (4, { mode := .up, partner := 1 })] } }
def upLink : Link :=
  { mode := .up, width := 4, credit := [1024, 256, 256, 256, 256, 256, 256, 256], good := 15, used := 15, partner := 1 }
def up : State := linkIs upLink
def training : State := linkIs { upLink with mode := .training }
def failed : State := linkIs { upLink with mode := .failed }
def train (theirs coord delay : Nat) : LinkTrainOp :=
  ⟨0, 15, BitVec.ofNat 4 theirs, true, 0x10102, BitVec.ofNat 32 coord, 1, List.replicate 16 (delay, 10)⟩
def linkOp : LinkOp := ⟨0⟩
def frame (dst : Nat) : Frame := ⟨0, dst, 1 - dst, 254, .coll [1, 2, 3]⟩
/-- A frame of a SEQ and of a TYPE that the layout gives it, or of another; a CTRL frame of a kind, with its CRC or without. -/
def dataOp (good : Bool) (seq : Nat) : FabDataOp :=
  let h := dataHead seq 9 1 4 (frame 0)
  ⟨0, if good then h else 7 :: h.drop 1, .coll [1, 2, 3], fcsOf (h ++ [1, 2, 3]), 1⟩
def ctrlOp (good : Bool) (kind n : Nat) : FabCtrlOp :=
  let b := ctrlBytes kind n 2 7
  ⟨0, if good then b else b.take 12 ++ [0, 0, 0, 0], 1⟩
/-- A frame sent under a SEQ, which carried 5 units of the channel 2. -/
def sentOf (q : Nat) : Sent := ⟨q, frame 1, 2, 5⟩
def twoSent : State := linkIs { upLink with nak := true, noAck := 3, win := [sentOf 7, sentOf 8] }
def oneQueued : State := linkIs { upLink with queue := [(0, [frame 1])], held := [(0, 16)] }
def windowFull : State := linkIs { upLink with win := List.replicate 64 (sentOf 3) }
def txOp : FabTxOp := ⟨0, 0⟩
def stallOp : FabStallOp := ⟨0, 0, false⟩
def stages : List Byte := leBytes 2 0 ++ leBytes 2 0 ++ List.replicate 32764 0xFF#8
def remapping (computed : Bool) (tick : Nat) : State :=
  let gone := if computed then [1] else []
  let sure := if computed then [(0, crc32 (rankBitmap [1]))] else []
  { up.dput 0x730004 stages with
    fab := { up.fab with
      remap := { active := true, reports := [(0, false, [1], [])], computed := computed, absent := gone, confirms := sure } }
    clk := { up.clk with tick := tick } }
def report (rank : Nat) : ReportOp := ⟨0, 1, BitVec.ofNat 16 rank, false, [], []⟩
def confirm : ConfirmOp := ⟨0, 1, 1, 55⟩

/-- Byte 5 of a span of six bytes among four participants. -/
theorem test_met_ChunksDivideSpan : 1 ≤ 4 ∧ 0 ≤ 5 ∧ 5 < 6 ∧ (chunk 2 (0, 6) 4).1 ≤ 5 ∧ 5 < (chunk 3 (0,
  6) 4).2 := by decide +kernel

def stray (kind : Nat) : CollPktOp := { packet kind 0 0 [5#8] with src := 0 }
def hopped : CollPktOp := { packet 1 0 0 [] with bytes := (packet 1 0 0 []).bytes.set 4 9#8 }
def endless : State := { reducing 0 0 0 with coll := { (reducing 0 0 0).coll with defs := [] } }
/-- The width of a trained link and the lanes it uses. -/
def width (s : State) (o : LinkTrainOp) : Nat × Nat :=
  let good := o.good.toNat &&& (15 - s.badLanes o.link.val)
  let both := good &&& o.theirs.toNat
  if both = 15 then (4, 15) else if both % 4 = 3 then (2, 3) else if both / 4 = 3 then (2, 12)
    else if both % 2 = 1 then (1, 1) else if both / 2 % 2 = 1 then (1, 2) else if both / 4 % 2 = 1 then (1, 4)
    else if both = 0 then (0, 0) else (1, 8)
/-- The channels of a link that have a frame and its credits, in the order of service. -/
def order (s : State) : List Nat :=
  let k := s.link txOp.link.val
  ([0, 7] ++ (if k.rr % 3 = 0 then [5, 6, 3, 4, 1, 2] else if k.rr % 3 = 1 then [3, 4, 1, 2, 5, 6]
    else [1, 2, 5, 6, 3, 4])).filter k.ready
def noLinkOp : FabStallOp := ⟨0, 0, true⟩
def stalled (held : Nat) : State := { up with fab := { up.fab with waiting := [(0, 3, frame 1), (0, held, frame 1)] } }
/-- A re-map at its end with an absent set, confirms of a sum, the buddies of a map and a pod of `n` modules. -/
def ending (absent : List Nat) (sum : Nat) (map : List Byte) (n : Nat) : State :=
  let s := { remapping true 131072 with fab := { (remapping true 131072).fab with
    remap := { (remapping true 131072).fab.remap with absent := absent, confirms := [(0, sum)] } } }
  (s.dput 0x730004 map).dput 0x410001 [BitVec.ofNat 8 n, 1#8, 1#8, 0#8]
def agreeing (absent : List Nat) (map : List Byte) (n : Nat) : State :=
  let s := ending absent 0 map n
  { s with fab := { s.fab with remap := { s.fab.remap with confirms := [] } } }

/-- A slot of a KIND, at a HOP of a stage; a hole; a block with its E and HOPS; the stage after the first, whose block is none. -/
def kindSlot (k : Nat) : Slot := ⟨0, 0, k, 0, 0, 1⟩
def hopSlot (hop stage : Nat) : Slot := ⟨0, 0, 3, stage, hop, 1⟩
def holed : State := { holds false with coll := { (holds false).coll with
  blks := [{ rank := 0, part := 0, coll := 0, stage := 0, block := 2, hole := some 1 }] } }
def block (e hops : Nat) : List Byte := bsBytes ⟨e, false, false, hops, List.replicate 32 5⟩
def badBlock : List Byte := block 255 1
def goodBlock : List Byte := block 120 0
def oneHop : List Byte := block 120 1
def bothHops : List Byte := block 120 2
/-- A torus of 2 by 2 modules: its second stage. -/
def secondStage : State := { (holds false).dput 0x410001 (leBytes 4 0x00010202) with
  coll := { (holds false).coll with blks := [{ rank := 0, part := 0, coll := 0, stage := 0, block := 2, hole := some 1 }] } }
/-- What module 0 adds to a block that it takes, and the state in which it does. -/
def ownPart (s : State) (stage : Nat) (u : List Byte) : Except Nat (List (Option Nat)) :=
  let x := { s.blk 0 0 0 stage 2 with gotH := true }
  (s.countArith 4 (bsAccept (s.agreedE (collDesc coll) x) (bsOfBytes u)).cnt).contrib 0 0 0 (collDesc coll) stage 2

theorem test_met_Collectives :
    (wit.collPhase = false) ∧
    ((reducing 1 0 0).now ≠ (reducing 1 0 0).slotEdge (reducing 1 0 0).coll.opened) ∧
    (wit.slots[wit.coll.slot]? = none) ∧
    (((reducing 0 0 0).collPhase = true) ∧ ((reducing 0 0 0).collAt firstSlot.part firstSlot.coll = some (collDesc coll)) ∧
      ((reducing 0 0 0).slots[(reducing 0 0 0).coll.opened]? = some firstSlot) ∧ ((reducing 0 0 0).now = (reducing 0 0
      0).slotEdge (reducing 0 0 0).coll.opened)) ∧
    (((reducing 1 1 0).collPhase = true) ∧ ((reducing 1 1 0).collAt firstSlot.part firstSlot.coll = some (collDesc coll)) ∧
      ((reducing 1 1 0).slots[(reducing 1 1 0).coll.slot]? = some firstSlot) ∧ ((reducing 1 1 0).now = (reducing 1 1
      0).slotEdge ((reducing 1 1 0).coll.slot + 1))) ∧
    ((¬(beAt (packet 5 1 2 []).bytes 8 4 = (reducing 0 0 0).stepId ∧ BitVec.toNat (byteAt (packet 5 1 2 []).bytes 5) =
      (reducing 0 0 0).sched.repeats)) ∧ (BitVec.toNat (byteAt (packet 5 1 2 []).bytes 0) = 5)) ∧
    ((¬(beAt (packet 6 1 2 []).bytes 8 4 = (reducing 0 0 0).stepId ∧ BitVec.toNat (byteAt (packet 6 1 2 []).bytes 5) =
      (reducing 0 0 0).sched.repeats)) ∧ (BitVec.toNat (byteAt (packet 6 1 2 []).bytes 0) = 6)) ∧
    ((beAt (packet 0 0 0 []).bytes 8 4 = (reducing 0 0 0).stepId ∧ BitVec.toNat (byteAt (packet 0 0 0 []).bytes 5) =
      (reducing 0 0 0).sched.repeats) ∧ (BitVec.toNat (byteAt (packet 0 0 0 []).bytes 0) = 0)) ∧
    ((beAt (packet 8 0 0 []).bytes 8 4 = (reducing 0 0 0).stepId ∧ BitVec.toNat (byteAt (packet 8 0 0 []).bytes 5) =
      (reducing 0 0 0).sched.repeats) ∧ (8 ≤ BitVec.toNat (byteAt (packet 8 0 0 []).bytes 0))) ∧
    ((beAt (packet 5 0 2 []).bytes 8 4 = endless.stepId ∧ BitVec.toNat (byteAt (packet 5 0 2 []).bytes 5) =
      endless.sched.repeats) ∧ (endless.collAt (BitVec.toNat (byteAt (packet 5 0 2 []).bytes 1) / 8 % 4) (beAt (packet 5
      0 2 []).bytes 2 2) = none) ∧ (BitVec.toNat (byteAt (packet 5 0 2 []).bytes 0) = 5)) ∧
    ((beAt (packet 6 0 2 []).bytes 8 4 = endless.stepId ∧ BitVec.toNat (byteAt (packet 6 0 2 []).bytes 5) =
      endless.sched.repeats) ∧ (endless.collAt (BitVec.toNat (byteAt (packet 6 0 2 []).bytes 1) / 8 % 4) (beAt (packet 6
      0 2 []).bytes 2 2) = none) ∧ (BitVec.toNat (byteAt (packet 6 0 2 []).bytes 0) = 6)) ∧
    (BitVec.toNat (byteAt (packet 6 0 2 []).bytes 0) ≠ 5) ∧
    (BitVec.toNat (byteAt (packet 5 0 2 []).bytes 0) ≠ 6) ∧
    ((beAt (packet 5 0 2 (List.replicate 16 5#8)).bytes 8 4 = (reducing 0 0 0).stepId ∧ BitVec.toNat (byteAt (packet 5 0 2
      (List.replicate 16 5#8)).bytes 5) = (reducing 0 0 0).sched.repeats) ∧ ((reducing 0 0 0).collAt (BitVec.toNat
      (byteAt (packet 5 0 2 (List.replicate 16 5#8)).bytes 1) / 8 % 4) (beAt (packet 5 0 2 (List.replicate 16
      5#8)).bytes 2 2) = some (collDesc coll)) ∧ (BitVec.toNat (byteAt (packet 5 0 2 (List.replicate 16 5#8)).bytes 0) =
      5)) ∧
    ((beAt (packet 6 0 2 []).bytes 8 4 = (reducing 0 0 0).stepId ∧ BitVec.toNat (byteAt (packet 6 0 2 []).bytes 5) =
      (reducing 0 0 0).sched.repeats) ∧ ((reducing 0 0 0).collAt (BitVec.toNat (byteAt (packet 6 0 2 []).bytes 1) / 8 %
      4) (beAt (packet 6 0 2 []).bytes 2 2) = some (collDesc coll)) ∧ (BitVec.toNat (byteAt (packet 6 0 2 []).bytes 0) =
      6)) ∧
    ((beAt hopped.bytes 8 4 = (reducing 0 0 0).stepId ∧ BitVec.toNat (byteAt hopped.bytes 5) = (reducing 0 0
      0).sched.repeats) ∧ ((reducing 0 0 0).collAt (BitVec.toNat (byteAt hopped.bytes 1) / 8 % 4) (beAt hopped.bytes 2
      2) = some (collDesc coll)) ∧ (BitVec.toNat (byteAt hopped.bytes 0) ∈ [1, 2, 3, 4, 7]) ∧ ((reducing 0 0
      0).packetSlot (BitVec.toNat (byteAt hopped.bytes 1) / 8 % 4) (beAt hopped.bytes 2 2) (BitVec.toNat (byteAt
      hopped.bytes 0)) (BitVec.toNat (byteAt hopped.bytes 1) % 4) (BitVec.toNat (byteAt hopped.bytes 4)) = none)) ∧
    ((beAt (packet 1 0 0 [5#8]).bytes 8 4 = (reducing 1 1 1).stepId ∧ BitVec.toNat (byteAt (packet 1 0 0 [5#8]).bytes 5) =
      (reducing 1 1 1).sched.repeats) ∧ ((reducing 1 1 1).collAt (BitVec.toNat (byteAt (packet 1 0 0 [5#8]).bytes 1) / 8
      % 4) (beAt (packet 1 0 0 [5#8]).bytes 2 2) = some (collDesc coll)) ∧ (BitVec.toNat (byteAt (packet 1 0 0
      [5#8]).bytes 0) ∈ [1, 2, 3, 4, 7]) ∧ ((reducing 1 1 1).packetSlot (BitVec.toNat (byteAt (packet 1 0 0 [5#8]).bytes
      1) / 8 % 4) (beAt (packet 1 0 0 [5#8]).bytes 2 2) (BitVec.toNat (byteAt (packet 1 0 0 [5#8]).bytes 0))
      (BitVec.toNat (byteAt (packet 1 0 0 [5#8]).bytes 1) % 4) (BitVec.toNat (byteAt (packet 1 0 0 [5#8]).bytes 4)) =
      some (0, firstSlot)) ∧ (if BitVec.toNat (byteAt (packet 1 0 0 [5#8]).bytes 0) = 4 then (reducing 1 1
      1).coll.gather = true ∧ 0 < (reducing 1 1 1).coll.slot else (reducing 1 1 1).coll.gather = true ∨ 0 < (reducing 1
      1 1).coll.slot)) ∧
    ((beAt (stray 1).bytes 8 4 = (reducing 0 0 0).stepId ∧ BitVec.toNat (byteAt (stray 1).bytes 5) = (reducing 0 0
      0).sched.repeats) ∧ ((reducing 0 0 0).collAt (BitVec.toNat (byteAt (stray 1).bytes 1) / 8 % 4) (beAt (stray
      1).bytes 2 2) = some (collDesc coll)) ∧ (BitVec.toNat (byteAt (stray 1).bytes 0) ∈ [1, 2, 3, 4, 7]) ∧ ((reducing 0
      0 0).packetSlot (BitVec.toNat (byteAt (stray 1).bytes 1) / 8 % 4) (beAt (stray 1).bytes 2 2) (BitVec.toNat (byteAt
      (stray 1).bytes 0)) (BitVec.toNat (byteAt (stray 1).bytes 1) % 4) (BitVec.toNat (byteAt (stray 1).bytes 4)) = some
      (0, firstSlot)) ∧ (¬if BitVec.toNat (byteAt (stray 1).bytes 0) = 4 then (reducing 0 0 0).coll.gather = true ∧ 0 <
      (reducing 0 0 0).coll.slot else (reducing 0 0 0).coll.gather = true ∨ 0 < (reducing 0 0 0).coll.slot) ∧ (∀ (r :
      Nat), r ∈ ((reducing 0 0 0).collEcc (stray 1).t0 (stray 1).t1).positions → ((if ((reducing 0 0 0).collEcc (stray
      1).t0 (stray 1).t1).fab.absent.contains (((reducing 0 0 0).collEcc (stray 1).t0 (stray 1).t1).ringNext r
      firstSlot.stage !BitVec.toNat (byteAt (stray 1).bytes 1) / 4 % 2 == 1) = true then ((reducing 0 0 0).collEcc
      (stray 1).t0 (stray 1).t1).serves (((reducing 0 0 0).collEcc (stray 1).t0 (stray 1).t1).ringNext r firstSlot.stage
      !BitVec.toNat (byteAt (stray 1).bytes 1) / 4 % 2 == 1) else ((reducing 0 0 0).collEcc (stray 1).t0 (stray
      1).t1).ringNext r firstSlot.stage !BitVec.toNat (byteAt (stray 1).bytes 1) / 4 % 2 == 1) == (stray 1).src &&
      (((reducing 0 0 0).collEcc (stray 1).t0 (stray 1).t1).blockList r (collDesc coll) firstSlot.kind firstSlot.stage
      (firstSlot.hop + 1) (BitVec.toNat (byteAt (stray 1).bytes 1) / 4 % 2 == 1)).contains (beAt (stray 1).bytes 12 4))
      = false)) ∧
    ((beAt (packet 1 0 0 [5#8]).bytes 8 4 = (reducing 0 0 0).stepId ∧ BitVec.toNat (byteAt (packet 1 0 0 [5#8]).bytes 5) =
      (reducing 0 0 0).sched.repeats) ∧ ((reducing 0 0 0).collAt (BitVec.toNat (byteAt (packet 1 0 0 [5#8]).bytes 1) / 8
      % 4) (beAt (packet 1 0 0 [5#8]).bytes 2 2) = some (collDesc coll)) ∧ (BitVec.toNat (byteAt (packet 1 0 0
      [5#8]).bytes 0) ∈ [1, 2, 3, 4, 7]) ∧ ((reducing 0 0 0).packetSlot (BitVec.toNat (byteAt (packet 1 0 0 [5#8]).bytes
      1) / 8 % 4) (beAt (packet 1 0 0 [5#8]).bytes 2 2) (BitVec.toNat (byteAt (packet 1 0 0 [5#8]).bytes 0))
      (BitVec.toNat (byteAt (packet 1 0 0 [5#8]).bytes 1) % 4) (BitVec.toNat (byteAt (packet 1 0 0 [5#8]).bytes 4)) =
      some (0, firstSlot)) ∧ (¬if BitVec.toNat (byteAt (packet 1 0 0 [5#8]).bytes 0) = 4 then (reducing 0 0
      0).coll.gather = true ∧ 0 < (reducing 0 0 0).coll.slot else (reducing 0 0 0).coll.gather = true ∨ 0 < (reducing 0
      0 0).coll.slot) ∧ (((reducing 0 0 0).collEcc (packet 1 0 0 [5#8]).t0 (packet 1 0 0 [5#8]).t1).positions = [] ++
      [0]) ∧ (((if ((reducing 0 0 0).collEcc (packet 1 0 0 [5#8]).t0 (packet 1 0 0 [5#8]).t1).fab.absent.contains
      (((reducing 0 0 0).collEcc (packet 1 0 0 [5#8]).t0 (packet 1 0 0 [5#8]).t1).ringNext 0 firstSlot.stage
      !BitVec.toNat (byteAt (packet 1 0 0 [5#8]).bytes 1) / 4 % 2 == 1) = true then ((reducing 0 0 0).collEcc (packet 1
      0 0 [5#8]).t0 (packet 1 0 0 [5#8]).t1).serves (((reducing 0 0 0).collEcc (packet 1 0 0 [5#8]).t0 (packet 1 0 0
      [5#8]).t1).ringNext 0 firstSlot.stage !BitVec.toNat (byteAt (packet 1 0 0 [5#8]).bytes 1) / 4 % 2 == 1) else
      ((reducing 0 0 0).collEcc (packet 1 0 0 [5#8]).t0 (packet 1 0 0 [5#8]).t1).ringNext 0 firstSlot.stage
      !BitVec.toNat (byteAt (packet 1 0 0 [5#8]).bytes 1) / 4 % 2 == 1) == (packet 1 0 0 [5#8]).src && (((reducing 0 0
      0).collEcc (packet 1 0 0 [5#8]).t0 (packet 1 0 0 [5#8]).t1).blockList 0 (collDesc coll) firstSlot.kind
      firstSlot.stage (firstSlot.hop + 1) (BitVec.toNat (byteAt (packet 1 0 0 [5#8]).bytes 1) / 4 % 2 == 1)).contains
      (beAt (packet 1 0 0 [5#8]).bytes 12 4)) = true) ∧ (∀ (q : Nat), q ∈ [] → ((if ((reducing 0 0 0).collEcc (packet 1
      0 0 [5#8]).t0 (packet 1 0 0 [5#8]).t1).fab.absent.contains (((reducing 0 0 0).collEcc (packet 1 0 0 [5#8]).t0
      (packet 1 0 0 [5#8]).t1).ringNext q firstSlot.stage !BitVec.toNat (byteAt (packet 1 0 0 [5#8]).bytes 1) / 4 % 2 ==
      1) = true then ((reducing 0 0 0).collEcc (packet 1 0 0 [5#8]).t0 (packet 1 0 0 [5#8]).t1).serves (((reducing 0 0
      0).collEcc (packet 1 0 0 [5#8]).t0 (packet 1 0 0 [5#8]).t1).ringNext q firstSlot.stage !BitVec.toNat (byteAt
      (packet 1 0 0 [5#8]).bytes 1) / 4 % 2 == 1) else ((reducing 0 0 0).collEcc (packet 1 0 0 [5#8]).t0 (packet 1 0 0
      [5#8]).t1).ringNext q firstSlot.stage !BitVec.toNat (byteAt (packet 1 0 0 [5#8]).bytes 1) / 4 % 2 == 1) == (packet
      1 0 0 [5#8]).src && (((reducing 0 0 0).collEcc (packet 1 0 0 [5#8]).t0 (packet 1 0 0 [5#8]).t1).blockList q
      (collDesc coll) firstSlot.kind firstSlot.stage (firstSlot.hop + 1) (BitVec.toNat (byteAt (packet 1 0 0
      [5#8]).bytes 1) / 4 % 2 == 1)).contains (beAt (packet 1 0 0 [5#8]).bytes 12 4)) = false)) ∧
    (((kindSlot 1).kind = 1) ∧ ((holed.blk 0 (kindSlot 1).part (kindSlot 1).coll (kindSlot 1).stage 2).gotR = false) ∧
      ((holed.blk 0 (kindSlot 1).part (kindSlot 1).coll (kindSlot 1).stage 2).hole.isSome = true)) ∧
    (((kindSlot 2).kind = 2) ∧ ((holed.blk 0 (kindSlot 2).part (kindSlot 2).coll (kindSlot 2).stage 2).gotA = false) ∧
      ((holed.blk 0 (kindSlot 2).part (kindSlot 2).coll (kindSlot 2).stage 2).hole.isSome = true)) ∧
    (((kindSlot 3).kind = 3) ∧ (((holds false).blk 0 (kindSlot 3).part (kindSlot 3).coll (kindSlot 3).stage 2).gotH =
      false)) ∧
    ((((holds false).blk 0 (kindSlot 1).part (kindSlot 1).coll (kindSlot 1).stage 2).hole = none) ∧ ((kindSlot 1).kind = 1)
      ∧ (((holds false).blk 0 (kindSlot 1).part (kindSlot 1).coll (kindSlot 1).stage 2).gotR = false)) ∧
    ((((holds false).blk 0 (kindSlot 2).part (kindSlot 2).coll (kindSlot 2).stage 2).hole = none) ∧ ((kindSlot 2).kind = 2)
      ∧ (((holds false).blk 0 (kindSlot 2).part (kindSlot 2).coll (kindSlot 2).stage 2).gotA = false)) ∧
    (((hopSlot 0 0).kind = 3) ∧ (((holds false).blk 0 (hopSlot 0 0).part (hopSlot 0 0).coll (hopSlot 0 0).stage 2).gotH =
      false) ∧ ((bsOfBytes badBlock).e = 255)) ∧
    (((hopSlot 0 0).kind = 3) ∧ (((holds false).blk 0 (hopSlot 0 0).part (hopSlot 0 0).coll (hopSlot 0 0).stage 2).gotH =
      false) ∧ ((bsOfBytes goodBlock).e ≠ 255)) ∧
    (((hopSlot 0 0).kind = 3) ∧ ((holed.blk 0 (hopSlot 0 0).part (hopSlot 0 0).coll (hopSlot 0 0).stage 2).gotH = false) ∧
      ((holed.blk 0 (hopSlot 0 0).part (hopSlot 0 0).coll (hopSlot 0 0).stage 2).hole.isSome = true)) ∧
    (((hopSlot 0 0).kind = 3) ∧ (((holds false).blk 0 (hopSlot 0 0).part (hopSlot 0 0).coll (hopSlot 0 0).stage 2).gotH =
      false) ∧ (((holds false).blk 0 (hopSlot 0 0).part (hopSlot 0 0).coll (hopSlot 0 0).stage 2).hole = none) ∧ (0 =
      (holds false).rank) ∧ ((hopSlot 0 0).hop + 2 = (holds false).dim (hopSlot 0 0).stage) ∧ ((bsHopAdd (bsAccept
      ((holds false).agreedE (collDesc coll)
      { ((holds false).blk 0 (hopSlot 0 0).part (hopSlot 0 0).coll (hopSlot 0 0).stage 2) with gotH := true })
      (bsOfBytes goodBlock)).val ((ownPart (holds false) 0 goodBlock).toOption.getD [])).val.hops ≠ (((holds
      false).countArith 4 (bsAccept ((holds false).agreedE (collDesc coll)
      { ((holds false).blk 0 (hopSlot 0 0).part (hopSlot 0 0).coll (hopSlot 0 0).stage 2) with gotH := true })
      (bsOfBytes goodBlock)).cnt).countArith 4 (bsHopAdd (bsAccept ((holds false).agreedE (collDesc coll)
      { ((holds false).blk 0 (hopSlot 0 0).part (hopSlot 0 0).coll (hopSlot 0 0).stage 2) with gotH := true })
      (bsOfBytes goodBlock)).val ((ownPart (holds false) 0 goodBlock).toOption.getD [])).cnt).liveMembers 0 (hopSlot 0
      0).stage)) ∧
    (((hopSlot 0 0).kind = 3) ∧ (((holds false).blk 0 (hopSlot 0 0).part (hopSlot 0 0).coll (hopSlot 0 0).stage 2).gotH =
      false) ∧ (((holds false).blk 0 (hopSlot 0 0).part (hopSlot 0 0).coll (hopSlot 0 0).stage 2).hole = none) ∧ (0 =
      (holds false).rank) ∧ ((hopSlot 0 0).hop + 2 = (holds false).dim (hopSlot 0 0).stage) ∧ ((bsHopAdd (bsAccept
      ((holds false).agreedE (collDesc coll)
      { ((holds false).blk 0 (hopSlot 0 0).part (hopSlot 0 0).coll (hopSlot 0 0).stage 2) with gotH := true })
      (bsOfBytes oneHop)).val ((ownPart (holds false) 0 oneHop).toOption.getD [])).val.hops = (((holds false).countArith
      4 (bsAccept ((holds false).agreedE (collDesc coll)
      { ((holds false).blk 0 (hopSlot 0 0).part (hopSlot 0 0).coll (hopSlot 0 0).stage 2) with gotH := true })
      (bsOfBytes oneHop)).cnt).countArith 4 (bsHopAdd (bsAccept ((holds false).agreedE (collDesc coll)
      { ((holds false).blk 0 (hopSlot 0 0).part (hopSlot 0 0).coll (hopSlot 0 0).stage 2) with gotH := true })
      (bsOfBytes oneHop)).val ((ownPart (holds false) 0 oneHop).toOption.getD [])).cnt).liveMembers 0 (hopSlot 0
      0).stage)) ∧
    (((hopSlot 1 0).kind = 3) ∧ (((holds false).blk 0 (hopSlot 1 0).part (hopSlot 1 0).coll (hopSlot 1 0).stage 2).gotH =
      false) ∧ (((holds false).blk 0 (hopSlot 1 0).part (hopSlot 1 0).coll (hopSlot 1 0).stage 2).hole = none) ∧ (0 =
      (holds false).rank) ∧ (¬(hopSlot 1 0).hop + 2 = (holds false).dim (hopSlot 1 0).stage)) ∧
    (((hopSlot 1 0).kind = 3) ∧ (((holds false).blk 1 (hopSlot 1 0).part (hopSlot 1 0).coll (hopSlot 1 0).stage 2).gotH =
      false) ∧ (((holds false).blk 1 (hopSlot 1 0).part (hopSlot 1 0).coll (hopSlot 1 0).stage 2).hole = none) ∧ (1 ≠
      (holds false).rank) ∧ (¬(hopSlot 1 0).hop + 2 = (holds false).dim (hopSlot 1 0).stage)) ∧
    (((hopSlot 0 0).kind = 3) ∧ (((holds false).blk 1 (hopSlot 0 0).part (hopSlot 0 0).coll (hopSlot 0 0).stage 2).gotH =
      false) ∧ (((holds false).blk 1 (hopSlot 0 0).part (hopSlot 0 0).coll (hopSlot 0 0).stage 2).hole = none) ∧ (1 ≠
      (holds false).rank) ∧ ((hopSlot 0 0).hop + 2 = (holds false).dim (hopSlot 0 0).stage) ∧ ((bsAccept ((holds
      false).agreedE (collDesc coll)
      { ((holds false).blk 1 (hopSlot 0 0).part (hopSlot 0 0).coll (hopSlot 0 0).stage 2) with gotH := true })
      (bsOfBytes oneHop)).val.hops ≠ (((holds false).countArith 4 (bsAccept ((holds false).agreedE (collDesc coll)
      { ((holds false).blk 1 (hopSlot 0 0).part (hopSlot 0 0).coll (hopSlot 0 0).stage 2) with gotH := true })
      (bsOfBytes oneHop)).cnt).countArith 4 { }).liveMembers 1 (hopSlot 0 0).stage)) ∧
    (((hopSlot 0 0).kind = 3) ∧ (((holds false).blk 1 (hopSlot 0 0).part (hopSlot 0 0).coll (hopSlot 0 0).stage 2).gotH =
      false) ∧ (((holds false).blk 1 (hopSlot 0 0).part (hopSlot 0 0).coll (hopSlot 0 0).stage 2).hole = none) ∧ (1 ≠
      (holds false).rank) ∧ ((hopSlot 0 0).hop + 2 = (holds false).dim (hopSlot 0 0).stage) ∧ ((bsAccept ((holds
      false).agreedE (collDesc coll)
      { ((holds false).blk 1 (hopSlot 0 0).part (hopSlot 0 0).coll (hopSlot 0 0).stage 2) with gotH := true })
      (bsOfBytes bothHops)).val.hops = (((holds false).countArith 4 (bsAccept ((holds false).agreedE (collDesc coll)
      { ((holds false).blk 1 (hopSlot 0 0).part (hopSlot 0 0).coll (hopSlot 0 0).stage 2) with gotH := true })
      (bsOfBytes bothHops)).cnt).countArith 4 { }).liveMembers 1 (hopSlot 0 0).stage)) ∧
    (((hopSlot 0 1).kind = 3) ∧ ((secondStage.blk 0 (hopSlot 0 1).part (hopSlot 0 1).coll (hopSlot 0 1).stage 2).gotH =
      false) ∧ ((secondStage.blk 0 (hopSlot 0 1).part (hopSlot 0 1).coll (hopSlot 0 1).stage 2).hole = none) ∧ (0 =
      secondStage.rank)) ∧
    (((kindSlot 4).kind = 4) ∧ (((holds false).blk 0 (kindSlot 4).part (kindSlot 4).coll (3 + (kindSlot 4).stage) 2).gotH =
      false)) :=
  by and_intros <;> decide +kernel

/-- Module 0 has values to add in the first stage, and none for a block of the second that became a hole in the first. -/
theorem test_met_Collectives_own :
    (∃ l, ownPart (holds false) 0 goodBlock = .ok l) ∧ (∃ l, ownPart (holds false) 0 oneHop = .ok l) ∧
      ownPart secondStage 1 goodBlock = .error 1 :=
  ⟨⟨_, rfl⟩, ⟨_, rfl⟩, rfl⟩

theorem test_met_LinkStates :
    ((up.link ↑(train 15 1 30).link).mode ≠ LinkMode.training) ∧
    (((training.link ↑(train 0 1 30).link).mode = LinkMode.training) ∧ ((width training (train 0 1 30)).fst = 0)) ∧
    (((training.link ↑(train 15 1 30).link).mode = LinkMode.training) ∧ (false = false)) ∧
    (((training.link ↑(train 3 0 30).link).mode = LinkMode.training) ∧ ((width training (train 3 0 30)).fst ≠ 0) ∧ ((train 3
      0 30).aligned = true) ∧ (¬((train 3 0 30).dims.toNat = training.dnum 4259841 ∧ (train 3 0 30).coord.toNat =
      training.step1 (training.dnum 4259842) (training.linkDir ↑(train 3 0 30).link) ∧ (train 3 0 30).dir = if
      training.linkDir ↑(train 3 0 30).link % 2 = 0 then training.linkDir ↑(train 3 0 30).link + 1 else training.linkDir
      ↑(train 3 0 30).link - 1))) ∧
    (((training.link ↑(train 12 1 2000000).link).mode = LinkMode.training) ∧ ((width training (train 12 1 2000000)).fst ≠ 0)
      ∧ ((train 12 1 2000000).aligned = true) ∧ ((train 12 1 2000000).dims.toNat = training.dnum 4259841 ∧ (train 12 1
      2000000).coord.toNat = training.step1 (training.dnum 4259842) (training.linkDir ↑(train 12 1 2000000).link) ∧
      (train 12 1 2000000).dir = if training.linkDir ↑(train 12 1 2000000).link % 2 = 0 then training.linkDir ↑(train 12
      1 2000000).link + 1 else training.linkDir ↑(train 12 1 2000000).link - 1) ∧ (training.dnum 4259844 < leastDelay
      (train 12 1 2000000).delays)) ∧
    (((training.link ↑(train 15 1 30).link).mode = LinkMode.training) ∧ ((width training (train 15 1 30)).fst ≠ 0) ∧ ((train
      15 1 30).aligned = true) ∧ ((train 15 1 30).dims.toNat = training.dnum 4259841 ∧ (train 15 1 30).coord.toNat =
      training.step1 (training.dnum 4259842) (training.linkDir ↑(train 15 1 30).link) ∧ (train 15 1 30).dir = if
      training.linkDir ↑(train 15 1 30).link % 2 = 0 then training.linkDir ↑(train 15 1 30).link + 1 else
      training.linkDir ↑(train 15 1 30).link - 1) ∧ (leastDelay (train 15 1 30).delays ≤ training.dnum 4259844)) ∧
    ((1 ≠ 0) ∧ (1024 / 1024 ≠ up.now / 1024)) :=
  by and_intros <;> decide +kernel

theorem test_met_FabricFrames :
    ((failed.link ↑(dataOp true 0).link).mode ≠ LinkMode.up) ∧
    (((up.link ↑(dataOp false 0).link).mode = LinkMode.up) ∧ (¬((dataOp false 0).head.length = 16 ∧ byteAt (dataOp false
      0).head 0 = 1#8 ∧ beAt (dataOp false 0).head 4 2 = payloadLen (dataOp false 0).pay ∧ payloadLen (dataOp false
      0).pay ≤ 4160 ∧ (dataOp false 0).fcs = fcsOf ((dataOp false 0).head ++ payloadBytes (dataOp false 0).pay)))) ∧
    (((twoSent.link ↑(dataOp true 5).link).mode = LinkMode.up) ∧ ((dataOp true 5).head.length = 16 ∧ byteAt (dataOp true
      5).head 0 = 1#8 ∧ beAt (dataOp true 5).head 4 2 = payloadLen (dataOp true 5).pay ∧ payloadLen (dataOp true 5).pay
      ≤ 4160 ∧ (dataOp true 5).fcs = fcsOf ((dataOp true 5).head ++ payloadBytes (dataOp true 5).pay)) ∧ (BitVec.toNat
      (byteAt (dataOp true 5).head 1) ≠ (twoSent.link ↑(dataOp true 5).link).rxExp)) ∧
    (((up.link ↑(dataOp true 0).link).mode = LinkMode.up) ∧ ((dataOp true 0).head.length = 16 ∧ byteAt (dataOp true 0).head
      0 = 1#8 ∧ beAt (dataOp true 0).head 4 2 = payloadLen (dataOp true 0).pay ∧ payloadLen (dataOp true 0).pay ≤ 4160 ∧
      (dataOp true 0).fcs = fcsOf ((dataOp true 0).head ++ payloadBytes (dataOp true 0).pay)) ∧ (BitVec.toNat (byteAt
      (dataOp true 0).head 1) = (up.link ↑(dataOp true 0).link).rxExp)) ∧
    (¬9 ∈ List.map (fun x => x.seq) upLink.win) ∧
    (([sentOf 7, sentOf 8] = [sentOf 7] ++ [sentOf 8]) ∧ ((sentOf 8).seq = 8) ∧ (¬8 ∈ List.map (fun x => x.seq) [sentOf 7]))
      ∧
    (¬9 ∈ List.map (fun x => x.seq) (up.link 0).win) ∧
    (((twoSent.link 0).win = [sentOf 7] ++ [sentOf 8]) ∧ ((sentOf 8).seq = 8) ∧ (¬8 ∈ List.map (fun x => x.seq) [sentOf 7]))
      ∧
    (((Instr.fabAckReceive (ctrlOp true 1 8), 1) ∈ [(Instr.fabAckReceive (ctrlOp true 1 8), 1), (Instr.fabNakReceive (ctrlOp
      true 1 8), 2), (Instr.fabCreditReceive (ctrlOp true 1 8), 3), (Instr.fabIdleReceive (ctrlOp true 1 8), 4)]) ∧
      ((failed.link ↑(ctrlOp true 1 8).link).mode ≠ LinkMode.up)) ∧
    (((Instr.fabIdleReceive (ctrlOp false 4 8), 4) ∈ [(Instr.fabAckReceive (ctrlOp false 4 8), 1), (Instr.fabNakReceive
      (ctrlOp false 4 8), 2), (Instr.fabCreditReceive (ctrlOp false 4 8), 3), (Instr.fabIdleReceive (ctrlOp false 4 8),
      4)]) ∧ ((twoSent.link ↑(ctrlOp false 4 8).link).mode = LinkMode.up) ∧ (¬((ctrlOp false 4 8).bytes.length = 16 ∧
      byteAt (ctrlOp false 4 8).bytes 0 = 2#8 ∧ List.drop 12 (ctrlOp false 4 8).bytes = fcsOf (List.take 12 (ctrlOp
      false 4 8).bytes)))) ∧
    (((Instr.fabCreditReceive (ctrlOp true 5 8), 3) ∈ [(Instr.fabAckReceive (ctrlOp true 5 8), 1), (Instr.fabNakReceive
      (ctrlOp true 5 8), 2), (Instr.fabCreditReceive (ctrlOp true 5 8), 3), (Instr.fabIdleReceive (ctrlOp true 5 8),
      4)]) ∧ ((up.link ↑(ctrlOp true 5 8).link).mode = LinkMode.up) ∧ ((ctrlOp true 5 8).bytes.length = 16 ∧ byteAt
      (ctrlOp true 5 8).bytes 0 = 2#8 ∧ List.drop 12 (ctrlOp true 5 8).bytes = fcsOf (List.take 12 (ctrlOp true 5
      8).bytes)) ∧ (BitVec.toNat (byteAt (ctrlOp true 5 8).bytes 1) ≠ 3)) ∧
    (((Instr.fabAckReceive (ctrlOp true 1 8), 1) ∈ [(Instr.fabAckReceive (ctrlOp true 1 8), 1), (Instr.fabNakReceive (ctrlOp
      true 1 8), 2), (Instr.fabCreditReceive (ctrlOp true 1 8), 3), (Instr.fabIdleReceive (ctrlOp true 1 8), 4)]) ∧
      ((twoSent.link ↑(ctrlOp true 1 8).link).mode = LinkMode.up) ∧ ((ctrlOp true 1 8).bytes.length = 16 ∧ byteAt
      (ctrlOp true 1 8).bytes 0 = 2#8 ∧ List.drop 12 (ctrlOp true 1 8).bytes = fcsOf (List.take 12 (ctrlOp true 1
      8).bytes)) ∧ (BitVec.toNat (byteAt (ctrlOp true 1 8).bytes 1) = 1)) ∧
    (((Instr.fabNakReceive (ctrlOp true 2 8), 2) ∈ [(Instr.fabAckReceive (ctrlOp true 2 8), 1), (Instr.fabNakReceive (ctrlOp
      true 2 8), 2), (Instr.fabCreditReceive (ctrlOp true 2 8), 3), (Instr.fabIdleReceive (ctrlOp true 2 8), 4)]) ∧
      ((twoSent.link ↑(ctrlOp true 2 8).link).mode = LinkMode.up) ∧ ((ctrlOp true 2 8).bytes.length = 16 ∧ byteAt
      (ctrlOp true 2 8).bytes 0 = 2#8 ∧ List.drop 12 (ctrlOp true 2 8).bytes = fcsOf (List.take 12 (ctrlOp true 2
      8).bytes)) ∧ (BitVec.toNat (byteAt (ctrlOp true 2 8).bytes 1) = 2)) ∧
    (((Instr.fabCreditReceive (ctrlOp true 3 8), 3) ∈ [(Instr.fabAckReceive (ctrlOp true 3 8), 1), (Instr.fabNakReceive
      (ctrlOp true 3 8), 2), (Instr.fabCreditReceive (ctrlOp true 3 8), 3), (Instr.fabIdleReceive (ctrlOp true 3 8),
      4)]) ∧ ((up.link ↑(ctrlOp true 3 8).link).mode = LinkMode.up) ∧ ((ctrlOp true 3 8).bytes.length = 16 ∧ byteAt
      (ctrlOp true 3 8).bytes 0 = 2#8 ∧ List.drop 12 (ctrlOp true 3 8).bytes = fcsOf (List.take 12 (ctrlOp true 3
      8).bytes)) ∧ (BitVec.toNat (byteAt (ctrlOp true 3 8).bytes 1) = 3)) ∧
    (((Instr.fabIdleReceive (ctrlOp true 4 8), 4) ∈ [(Instr.fabAckReceive (ctrlOp true 4 8), 1), (Instr.fabNakReceive
      (ctrlOp true 4 8), 2), (Instr.fabCreditReceive (ctrlOp true 4 8), 3), (Instr.fabIdleReceive (ctrlOp true 4 8),
      4)]) ∧ ((up.link ↑(ctrlOp true 4 8).link).mode = LinkMode.up) ∧ ((ctrlOp true 4 8).bytes.length = 16 ∧ byteAt
      (ctrlOp true 4 8).bytes 0 = 2#8 ∧ List.drop 12 (ctrlOp true 4 8).bytes = fcsOf (List.take 12 (ctrlOp true 4
      8).bytes)) ∧ (BitVec.toNat (byteAt (ctrlOp true 4 8).bytes 1) = 4)) ∧
    ((failed.link ↑txOp.link).mode ≠ LinkMode.up) ∧
    (64 ≤ (windowFull.link ↑txOp.link).win.length) ∧
    (((up.link ↑txOp.link).mode = LinkMode.up) ∧ ((up.link ↑txOp.link).win.length < 64) ∧ (∀ (v : Nat), v ∈ order up →
      up.guardHolds (up.link ↑txOp.link) txOp.nclk v = true)) ∧
    (((oneQueued.link ↑txOp.link).mode = LinkMode.up) ∧ ((oneQueued.link ↑txOp.link).win.length < 64) ∧ (order oneQueued =
      [] ++ [0]) ∧ (∀ (w : Nat), w ∈ [] → oneQueued.guardHolds (oneQueued.link ↑txOp.link) txOp.nclk w = true) ∧
      (oneQueued.guardHolds (oneQueued.link ↑txOp.link) txOp.nclk 0 = false) ∧ (Tab.get [] (oneQueued.link
      ↑txOp.link).queue 0 = [frame 1])) ∧
    ((failed.link ↑linkOp.link).mode ≠ LinkMode.up) ∧
    (((up.link ↑linkOp.link).mode = LinkMode.up) ∧ ((up.link ↑linkOp.link).win = [])) ∧
    (((twoSent.link ↑linkOp.link).mode = LinkMode.up) ∧ ((twoSent.link ↑linkOp.link).win = [sentOf 7, sentOf 8])) ∧
    ((stallOp.link = linkOp.link) ∧ (wit.fabricLink ↑linkOp.link = false)) ∧
    ((stallOp.link = linkOp.link) ∧ (oneQueued.fabricLink ↑linkOp.link = true) ∧ (stallOp.noLink = false)) ∧
    ((noLinkOp.link = linkOp.link) ∧ ((stalled 15).fabricLink ↑linkOp.link = true) ∧ (noLinkOp.noLink = true) ∧ (∀ (w : Nat
      × Nat × Frame), w ∈ (stalled 15).fab.waiting → ¬(w.fst = (stalled 15).linkDir ↑linkOp.link ∧ w.snd.snd.vc =
      noLinkOp.vc.toNat ∧ 16 ≤ w.snd.fst))) ∧
    ((noLinkOp.link = linkOp.link) ∧ ((stalled 16).fabricLink ↑linkOp.link = true) ∧ (noLinkOp.noLink = true) ∧ ((stalled
      16).fab.waiting = [(0, 3, frame 1)] ++ [(0, 16, frame 1)]) ∧ (∀ (q : Nat × Nat × Frame), q ∈ [(0, 3, frame 1)] →
      ¬(q.fst = (stalled 16).linkDir ↑linkOp.link ∧ q.snd.snd.vc = noLinkOp.vc.toNat ∧ 16 ≤ q.snd.fst)) ∧ (0 = (stalled
      16).linkDir ↑linkOp.link ∧ (frame 1).vc = noLinkOp.vc.toNat ∧ 16 ≤ 16)) :=
  by and_intros <;> decide +kernel

set_option maxRecDepth 100000 in
theorem test_met_Remap :
    ((remapping false 65536).fab.remap.active = true ∧ (report 1).gen.toNat = ((remapping false 65536).dnum 4259849 + 1) % 2
      ^ 32 ∧ ∀ (e : Nat × Bool × List Nat × List Nat), e ∈ (remapping false 65536).fab.remap.reports → e.fst ≠ (report
      1).rank.toNat) ∧
    (¬((remapping false 65536).fab.remap.active = true ∧ (report 0).gen.toNat = ((remapping false 65536).dnum 4259849 + 1) %
      2 ^ 32 ∧ ∀ (e : Nat × Bool × List Nat × List Nat), e ∈ (remapping false 65536).fab.remap.reports → e.fst ≠ (report
      0).rank.toNat)) ∧
    ((remapping false 65536).fab.remap.active = true ∧ confirm.gen.toNat = ((remapping false 65536).dnum 4259849 + 1) % 2 ^
      32 ∧ ∀ (e : Nat × Nat), e ∈ (remapping false 65536).fab.remap.confirms → e.fst ≠ confirm.rank.toNat) ∧
    (¬(up.fab.remap.active = true ∧ confirm.gen.toNat = (up.dnum 4259849 + 1) % 2 ^ 32 ∧ ∀ (e : Nat × Nat), e ∈
      up.fab.remap.confirms → e.fst ≠ confirm.rank.toNat)) ∧
    ((remapping false 65536).fab.remap.active = true ∧ (remapping false 65536).fab.remap.computed = false ∧ (remapping false
      65536).now = ((remapping false 65536).fab.remap.tr + (remapping false 65536).dnum 4259847) % 2 ^ 48) ∧
    (¬((remapping true 65536).fab.remap.active = true ∧ (remapping true 65536).fab.remap.computed = false ∧ (remapping true
      65536).now = ((remapping true 65536).fab.remap.tr + (remapping true 65536).dnum 4259847) % 2 ^ 48)) ∧
    (¬((remapping true 65536).fab.remap.active = true ∧ (remapping true 65536).fab.remap.computed = true ∧ (remapping true
      65536).now = ((remapping true 65536).fab.remap.tr + 2 * (remapping true 65536).dnum 4259847) % 2 ^ 48)) ∧
    (((ending [1] 0 stages 2).fab.remap.active = true ∧ (ending [1] 0 stages 2).fab.remap.computed = true ∧ (ending [1] 0
      stages 2).now = ((ending [1] 0 stages 2).fab.remap.tr + 2 * (ending [1] 0 stages 2).dnum 4259847) % 2 ^ 48) ∧ (¬∀
      (q : Nat × Nat), q ∈ (ending [1] 0 stages 2).fab.remap.confirms → q.snd = crc32 (rankBitmap (ending [1] 0 stages
      2).fab.remap.absent))) ∧
    (((agreeing [0] stages 2).fab.remap.active = true ∧ (agreeing [0] stages 2).fab.remap.computed = true ∧ (agreeing [0]
      stages 2).now = ((agreeing [0] stages 2).fab.remap.tr + 2 * (agreeing [0] stages 2).dnum 4259847) % 2 ^ 48) ∧ (∀
      (q : Nat × Nat), q ∈ (agreeing [0] stages 2).fab.remap.confirms → q.snd = crc32 (rankBitmap (agreeing [0] stages
      2).fab.remap.absent)) ∧ ((agreeing [0] stages 2).rank ∈ (agreeing [0] stages 2).fab.remap.absent) ∧ (Tab.wf { }
      (agreeing [0] stages 2).fab.links = true)) ∧
    (((agreeing [1, 3] stages 4).fab.remap.active = true ∧ (agreeing [1, 3] stages 4).fab.remap.computed = true ∧ (agreeing
      [1, 3] stages 4).now = ((agreeing [1, 3] stages 4).fab.remap.tr + 2 * (agreeing [1, 3] stages 4).dnum 4259847) % 2
      ^ 48) ∧ (∀ (q : Nat × Nat), q ∈ (agreeing [1, 3] stages 4).fab.remap.confirms → q.snd = crc32 (rankBitmap
      (agreeing [1, 3] stages 4).fab.remap.absent)) ∧ (¬(agreeing [1, 3] stages 4).rank ∈ (agreeing [1, 3] stages
      4).fab.remap.absent) ∧ (¬∀ (q : Nat), q < (agreeing [1, 3] stages 4).podSize → ¬q ∈ (agreeing [1, 3] stages
      4).fab.remap.absent → q ∈ (agreeing [1, 3] stages 4).reach (agreeing [1, 3] stages 4).fab.remap.absent 16384
      [(agreeing [1, 3] stages 4).rank] [(agreeing [1, 3] stages 4).rank])) ∧
    (((agreeing [1] (List.replicate 4 255#8) 2).fab.remap.active = true ∧ (agreeing [1] (List.replicate 4 255#8)
      2).fab.remap.computed = true ∧ (agreeing [1] (List.replicate 4 255#8) 2).now = ((agreeing [1] (List.replicate 4
      255#8) 2).fab.remap.tr + 2 * (agreeing [1] (List.replicate 4 255#8) 2).dnum 4259847) % 2 ^ 48) ∧ (∀ (q : Nat ×
      Nat), q ∈ (agreeing [1] (List.replicate 4 255#8) 2).fab.remap.confirms → q.snd = crc32 (rankBitmap (agreeing [1]
      (List.replicate 4 255#8) 2).fab.remap.absent)) ∧ (¬(agreeing [1] (List.replicate 4 255#8) 2).rank ∈ (agreeing [1]
      (List.replicate 4 255#8) 2).fab.remap.absent) ∧ (∀ (q : Nat), q < (agreeing [1] (List.replicate 4 255#8)
      2).podSize → ¬q ∈ (agreeing [1] (List.replicate 4 255#8) 2).fab.remap.absent → q ∈ (agreeing [1] (List.replicate 4
      255#8) 2).reach (agreeing [1] (List.replicate 4 255#8) 2).fab.remap.absent 16384 [(agreeing [1] (List.replicate 4
      255#8) 2).rank] [(agreeing [1] (List.replicate 4 255#8) 2).rank]) ∧ (List.filter (fun q => mapAt ((agreeing [1]
      (List.replicate 4 255#8) 2).dget 7536644) q == 65535 || (agreeing [1] (List.replicate 4 255#8)
      2).fab.remap.absent.contains (mapAt ((agreeing [1] (List.replicate 4 255#8) 2).dget 7536644) q)) (agreeing [1]
      (List.replicate 4 255#8) 2).fab.remap.absent ≠ [])) ∧
    (((agreeing [1] stages 2).fab.remap.active = true ∧ (agreeing [1] stages 2).fab.remap.computed = true ∧ (agreeing [1]
      stages 2).now = ((agreeing [1] stages 2).fab.remap.tr + 2 * (agreeing [1] stages 2).dnum 4259847) % 2 ^ 48) ∧ (∀
      (q : Nat × Nat), q ∈ (agreeing [1] stages 2).fab.remap.confirms → q.snd = crc32 (rankBitmap (agreeing [1] stages
      2).fab.remap.absent)) ∧ (¬(agreeing [1] stages 2).rank ∈ (agreeing [1] stages 2).fab.remap.absent) ∧ (∀ (q : Nat),
      q < (agreeing [1] stages 2).podSize → ¬q ∈ (agreeing [1] stages 2).fab.remap.absent → q ∈ (agreeing [1] stages
      2).reach (agreeing [1] stages 2).fab.remap.absent 16384 [(agreeing [1] stages 2).rank] [(agreeing [1] stages
      2).rank]) ∧ (List.filter (fun q => mapAt ((agreeing [1] stages 2).dget 7536644) q == 65535 || (agreeing [1] stages
      2).fab.remap.absent.contains (mapAt ((agreeing [1] stages 2).dget 7536644) q)) (agreeing [1] stages
      2).fab.remap.absent = [])) :=
  by and_intros <;> decide +kernel

/-- The confirms received agree with the module's own sum. -/
theorem test_met_Remap_agreed : ∀ q ∈ (remapping true 131072).fab.remap.confirms,
    q.2 = crc32 (rankBitmap (remapping true 131072).fab.remap.absent) := by
  intro q h
  have e : q = (0, crc32 (rankBitmap [1])) := by simpa [remapping] using h
  rw [e]
  simp [remapping]

end Pod

namespace Ticks

def waits (w : Wait) : Core := { regs with mode := .waiting, wait := some w, waited := 2 }
def four : State := ((wit.setCore 0 regs).setCore 1 (waits .edge)).setCore 2 (waits (.tick 9)) |>.setCore 3 (waits (.recv 4))
def atEdge : State := { four with
  clk := { wit.clk with tick := 8, adjust := -2 } }
def tickOp : TickOp := ⟨[0]⟩
def tickMode (m : BitVec 8) : State := wit.dput 0x600001 [m]
def pulse (n : Int) : TickInOp := ⟨n⟩
/-- A follower of the module in +X, whose links 0 and 4 are UP. -/
def follower (noBeacon : Nat) (holdover : Bool) : State :=
  let s := [(0x410001, [2#8, 1#8, 1#8, 0#8]), (0x401001, [1#8]), (0x401002, [1#8]), (0x401102, [1#8]), (0x600001, [2#8]),
    (0x600002, [1#8, 0#8, 0#8, 0#8])].foldl (fun s e => s.dput e.1 e.2) wit
  { s with
    fab := { s.fab with links := [(0, { mode := .up, partner := 1 }), (4, { mode := .up, partner := 1 })] }
    clk := { s.clk with tick := 100, noBeacon := noBeacon, holdover := holdover } }
def beacon (tick : Nat) : List Byte :=
  let b := [3#8] ++ beBytes 6 tick ++ List.replicate 21 0#8
  b ++ leBytes 4 (crc32 b)
def beaconOp (l : Fin 48) (b : List Byte) : BeaconOp := ⟨l, b, 0⟩
def link0 : Nat := 0
/-- The schedule at a tick, in a state of it, with budgets 10 to 70. -/
def inStep (state tick sample : Nat) : State := { wit with
  sched := { wit.sched with
    budgets := [10, 20, 30, 40, 50, 60, 70], state := state, active := true, withIngest := true, edge := 3, sample := sample }
  clk := { wit.clk with tick := tick } }
def armed : State := { (wit.dput 0x600007 [5#8, 0, 0, 0, 0, 0, 0, 0]).dput 0x600008 [1#8] with
  sched := { wit.sched with armed := true }
  clk := { wit.clk with tick := 5 } }
def stopped : State := { wit with sched := { wit.sched with stopping := true, state := 11 } }
def resumes : State := { wit with
  sched := { wit.sched with state := 13 }
  clk := { wit.clk with tick := 5 }
  fab := { wit.fab with remap := { resume := some 5 } } }
def gateOp (b : Bool) : GateOp := ⟨b⟩
def slotOp : CollSlotOp := ⟨{}, {}⟩
def opened (k : WinKind) (slip : Bool) (ts : Nat) : Window := ⟨k, ts, slip, false, 0, false, false, true, true, false, [], []⟩
def sampled (k : WinKind) (slip abort any ok : Bool) : Window :=
  ⟨k, 20, slip, abort, 0, false, false, ok, ok, any, [0], if ok then [0] else []⟩
def deciding (w : Window) (pod : Nat) : State :=
  let s := (inStep 6 60 20).dput 0x410001 (leBytes 4 (pod + 0x10100))
  { s with sched := { s.sched with window := some w } }
def decision : DecisionOp := ⟨[], false⟩
def committing (b : Bool) : State := { inStep 11 9 20 with sched := { (inStep 11 9 20).sched with stopping := b } }

def fiveWaits : State := atEdge.setCore 4 (waits (.fence 1 2))
/-- A module that takes pulses, with what its tick has seen. -/
def pulsed (pulse holdover : Bool) : State :=
  { tickMode 3 with clk := { (tickMode 3).clk with pulse := pulse, holdover := holdover } }
def windowOpen : State :=
  { follower 3 false with sched := { wit.sched with window := some (opened .gate1 false 98), lag := 3 } }
/-- A window's decision edge, in a pod of `n` modules. -/
def choosing (k : WinKind) (slip abort any ok : Bool) (n : Nat) : State := deciding (sampled k slip abort any ok) n
def choice (k : WinKind) : Window := sampled k false false true true
def chosen (k : WinKind) : State := deciding (choice k) 2
/-- The last repeat is spent: the module is leaving, holds a name of an absent module, or neither. -/
def spent (leaving : Bool) (named : List Nat) : State :=
  let s := choosing .gate1 false true true true 2
  { s with sched := { s.sched with repeats := 7, repLimit := 7, named := named }, fab := { s.fab with leaving := leaving, leaveTx := leaving } }
def repeating : State :=
  let s := choosing .gate1 false true true true 2
  { s with sched := { s.sched with repLimit := 1 } }
def publishing (state : Nat) (stopping : Bool) : State :=
  { inStep state 9 20 with sched := { (inStep state 9 20).sched with pub := some 9, stopping := stopping } }
def unsent (n : Nat) : State := { inStep 6 n 0 with coll := { wit.coll with unsent := true } }

/-- An edge with beacons due, at which a decision is due or nothing is; a READ that waits for the samples of an edge. -/
def freeEdge : State := { follower 3 false with clk := { (follower 3 false).clk with due := some [0] } }
def busyEdge : State := { deciding (choice .gate1) 2 with clk := { (deciding (choice .gate1) 2).clk with due := some [0] } }
def asked : DapWork := .mbx 0
def asking : State := { atEdge with dap := { atEdge.dap with sample := some asked } }

theorem test_met_TickEdges :
    (Power.off = Power.off) ∧
    ((atEdge.power ≠ Power.off) ∧ (Tab.wf { } atEdge.cores = true)) ∧
    ((busyEdge.clk.due = some [0]) ∧ (busyEdge.edgeDue = true)) ∧
    ((freeEdge.clk.due = some [0]) ∧ (freeEdge.edgeDue = false)) ∧
    (atEdge.dap.sample = none) ∧
    (asking.dap.sample = some asked) ∧
    ((atEdge.core 0).mode ≠ CoreMode.waiting) ∧
    ((atEdge.core 1).mode = CoreMode.waiting ∧ (atEdge.core 1).wait = some Wait.edge) ∧
    ((atEdge.core 2).mode = CoreMode.waiting ∧ (atEdge.core 2).wait = some (Wait.tick 9)) ∧
    ((fiveWaits.core 4).wait = some (Wait.fence 1 2) ∧ (fiveWaits.core 4).mode = CoreMode.waiting) ∧
    ((atEdge.core 3).wait = some (Wait.recv 4) ∧ (atEdge.core 3).mode = CoreMode.waiting) :=
  by and_intros <;> decide +kernel

theorem test_met_TickInputs :
    (¬((tickMode 2).dnum 6291457 % 2 = 1 ∧ (tickMode 2).power ≠ Power.off ∧ bit (tickMode 2).health.masked 0 = false)) ∧
    (((tickMode 3).dnum 6291457 % 2 = 1 ∧ (tickMode 3).power ≠ Power.off ∧ bit (tickMode 3).health.masked 0 = false) ∧ (2 <
      (pulse 3).offset.natAbs)) ∧
    (((pulsed true false).dnum 6291457 % 2 = 1 ∧ (pulsed true false).power ≠ Power.off ∧ bit (pulsed true
      false).health.masked 0 = false) ∧ ((pulse (-2)).offset.natAbs ≤ 2) ∧ ((pulsed true false).clk.pulse = true)) ∧
    (((pulsed false true).dnum 6291457 % 2 = 1 ∧ (pulsed false true).power ≠ Power.off ∧ bit (pulsed false
      true).health.masked 0 = false) ∧ ((pulse 2).offset.natAbs ≤ 2) ∧ ((pulsed false true).clk.pulse = false) ∧
      ((pulsed false true).clk.holdover = true)) ∧
    (((pulsed false false).dnum 6291457 % 2 = 1 ∧ (pulsed false false).power ≠ Power.off ∧ bit (pulsed false
      false).health.masked 0 = false) ∧ ((pulse (-2)).offset.natAbs ≤ 2) ∧ ((pulsed false false).clk.pulse = false) ∧
      ((pulsed false false).clk.holdover = false)) ∧
    ((wit.link ↑(beaconOp 4 (beacon 100)).link).mode ≠ LinkMode.up) ∧
    ((((follower 3 false).link ↑(beaconOp 4 [3]).link).mode = LinkMode.up) ∧ (¬((beaconOp 4 [3]).bytes.length = 32 ∧ byteAt
      (beaconOp 4 [3]).bytes 0 = 3#8 ∧ List.drop 28 (beaconOp 4 [3]).bytes = fcsOf (List.take 28 (beaconOp 4
      [3]).bytes)))) ∧
    ((((follower 3 false).link ↑(beaconOp 4 (beacon 102)).link).mode = LinkMode.up) ∧ ((beaconOp 4 (beacon
      102)).bytes.length = 32 ∧ byteAt (beaconOp 4 (beacon 102)).bytes 0 = 3#8 ∧ List.drop 28 (beaconOp 4 (beacon
      102)).bytes = fcsOf (List.take 28 (beaconOp 4 (beacon 102)).bytes)) ∧ ((follower 3 false).upstream ≠ some
      ↑(beaconOp 4 (beacon 102)).link) ∧ (beAt (beaconOp 4 (beacon 102)).bytes 1 6 ≠ (follower 3 false).now)) ∧
    ((((follower 3 false).link ↑(beaconOp 4 (beacon 100)).link).mode = LinkMode.up) ∧ ((beaconOp 4 (beacon
      100)).bytes.length = 32 ∧ byteAt (beaconOp 4 (beacon 100)).bytes 0 = 3#8 ∧ List.drop 28 (beaconOp 4 (beacon
      100)).bytes = fcsOf (List.take 28 (beaconOp 4 (beacon 100)).bytes)) ∧ ((follower 3 false).upstream ≠ some
      ↑(beaconOp 4 (beacon 100)).link) ∧ (beAt (beaconOp 4 (beacon 100)).bytes 1 6 = (follower 3 false).now)) ∧
    ((((follower 3 false).link ↑(beaconOp 0 (beacon 100)).link).mode = LinkMode.up) ∧ ((beaconOp 0 (beacon
      100)).bytes.length = 32 ∧ byteAt (beaconOp 0 (beacon 100)).bytes 0 = 3#8 ∧ List.drop 28 (beaconOp 0 (beacon
      100)).bytes = fcsOf (List.take 28 (beaconOp 0 (beacon 100)).bytes)) ∧ ((follower 3 false).upstream = some
      ↑(beaconOp 0 (beacon 100)).link)) ∧
    (((follower 3 true).clk.holdover = true) ∧ (90 ≠ (follower 3 true).now)) ∧
    (100 = (follower 3 true).now) ∧
    ((follower 3 false).clk.holdover = false) ∧
    ((windowOpen.sched.window = some (opened WinKind.gate1 false 98)) ∧ (windowOpen.sched.lag ≤ (101 + 2 ^ 48 - (opened
      WinKind.gate1 false 98).ts) % 2 ^ 48)) ∧
    ((windowOpen.sched.window = some (opened WinKind.gate1 false 98)) ∧ ((100 + 2 ^ 48 - (opened WinKind.gate1 false 98).ts)
      % 2 ^ 48 < windowOpen.sched.lag)) ∧
    ((follower 15 false).clk.noBeacon < 16) ∧
    (((follower 16 false).tickMaster = false) ∧ ((follower 16 false).clk.holdover = false) ∧ (16 ≤ (follower 16
      false).clk.noBeacon)) :=
  by and_intros <;> decide +kernel

theorem test_met_StepsAndPhases :
    (armed.boot.state = 8 ∧ armed.sched.armed = true ∧ armed.sched.active = false ∧ armed.now = armed.dnum 6291463 % 2 ^ 48)
      ∧
    (¬(wit.boot.state = 8 ∧ wit.sched.armed = true ∧ wit.sched.active = false ∧ wit.now = wit.dnum 6291463 % 2 ^ 48)) ∧
    ((inStep 1 10 0).sched.active = true ∧ 1 ≤ (inStep 1 10 0).sched.state ∧ (inStep 1 10 0).sched.state ≤ 3 ∧ ((inStep 1 10
      0).now + 2 ^ 48 - ((((inStep 1 10 0).sched.origin + if (inStep 1 10 0).sched.withIngest = true then (inStep 1 10
      0).sched.budget 0 else 0) + if 2 ≤ (inStep 1 10 0).sched.state then (inStep 1 10 0).sched.budget 1 else 0) + if 3
      ≤ (inStep 1 10 0).sched.state then (inStep 1 10 0).sched.budget 2 else 0) % 2 ^ 48) % 2 ^ 48 < 2 ^ 47) ∧
    (¬((inStep 1 9 0).sched.active = true ∧ 1 ≤ (inStep 1 9 0).sched.state ∧ (inStep 1 9 0).sched.state ≤ 3 ∧ ((inStep 1 9
      0).now + 2 ^ 48 - ((((inStep 1 9 0).sched.origin + if (inStep 1 9 0).sched.withIngest = true then (inStep 1 9
      0).sched.budget 0 else 0) + if 2 ≤ (inStep 1 9 0).sched.state then (inStep 1 9 0).sched.budget 1 else 0) + if 3 ≤
      (inStep 1 9 0).sched.state then (inStep 1 9 0).sched.budget 2 else 0) % 2 ^ 48) % 2 ^ 48 < 2 ^ 47)) ∧
    ((inStep 4 43 0).sched.active = true ∧ (1 ≤ (inStep 4 43 0).sched.state ∧ (inStep 4 43 0).sched.state ≤ 4 ∨ (inStep 4 43
      0).sched.state = 7) ∧ (inStep 4 43 0).sched.overran = false ∧ (inStep 4 43 0).sched.budget (if (inStep 4 43
      0).sched.state = 7 then 5 else (inStep 4 43 0).sched.state - 1) ≤ ((inStep 4 43 0).now + 2 ^ 48 - (inStep 4 43
      0).sched.edge) % 2 ^ 48) ∧
    (¬((inStep 4 42 0).sched.active = true ∧ (1 ≤ (inStep 4 42 0).sched.state ∧ (inStep 4 42 0).sched.state ≤ 4 ∨ (inStep 4
      42 0).sched.state = 7) ∧ (inStep 4 42 0).sched.overran = false ∧ (inStep 4 42 0).sched.budget (if (inStep 4 42
      0).sched.state = 7 then 5 else (inStep 4 42 0).sched.state - 1) ≤ ((inStep 4 42 0).now + 2 ^ 48 - (inStep 4 42
      0).sched.edge) % 2 ^ 48)) ∧
    ((stopped.sched.stopping = true) ∧ (stopped.sched.active = false)) ∧
    (wit.sched.stopping = false) ∧
    (resumes.boot.state = 8 ∧ resumes.sched.state = 13 ∧ resumes.fab.remap.resume = some resumes.now ∧
      resumes.fab.remap.active = false) ∧
    (¬(wit.boot.state = 8 ∧ wit.sched.state = 13 ∧ wit.fab.remap.resume = some wit.now ∧ wit.fab.remap.active = false)) :=
  by and_intros <;> decide +kernel

theorem test_met_Windows :
    (¬(wit.boot.state = 8 ∧ wit.sched.window = none ∧ wit.now = wit.sched.sample ∧ 1 ≤ wit.sched.state ∧ wit.sched.state ≤ 9
      ∧ wit.sched.state ≠ 6)) ∧
    (((inStep 5 20 20).boot.state = 8 ∧ (inStep 5 20 20).sched.window = none ∧ (inStep 5 20 20).now = (inStep 5 20
      20).sched.sample ∧ 1 ≤ (inStep 5 20 20).sched.state ∧ (inStep 5 20 20).sched.state ≤ 9 ∧ (inStep 5 20
      20).sched.state ≠ 6) ∧ ((inStep 5 20 20).sched.state ≤ 5) ∧ ((inStep 5 20 20).sched.state = 5 ∨ (inStep 5 20
      20).sched.state = 4 ∧ (gateOp true).done = true ∧ (inStep 5 20 20).exchUnfinished = false)) ∧
    (((inStep 2 20 20).boot.state = 8 ∧ (inStep 2 20 20).sched.window = none ∧ (inStep 2 20 20).now = (inStep 2 20
      20).sched.sample ∧ 1 ≤ (inStep 2 20 20).sched.state ∧ (inStep 2 20 20).sched.state ≤ 9 ∧ (inStep 2 20
      20).sched.state ≠ 6) ∧ ((inStep 2 20 20).sched.state ≤ 5) ∧ (¬((inStep 2 20 20).sched.state = 5 ∨ (inStep 2 20
      20).sched.state = 4 ∧ (gateOp true).done = true ∧ (inStep 2 20 20).exchUnfinished = false))) ∧
    (((inStep 8 20 20).boot.state = 8 ∧ (inStep 8 20 20).sched.window = none ∧ (inStep 8 20 20).now = (inStep 8 20
      20).sched.sample ∧ 1 ≤ (inStep 8 20 20).sched.state ∧ (inStep 8 20 20).sched.state ≤ 9 ∧ (inStep 8 20
      20).sched.state ≠ 6) ∧ (7 ≤ (inStep 8 20 20).sched.state) ∧ ((inStep 8 20 20).sched.state ≤ 8) ∧ ((inStep 8 20
      20).sched.state = 8 ∨ (gateOp true).done = true ∧ (inStep 8 20 20).applyOpen = false)) ∧
    (((inStep 7 20 20).boot.state = 8 ∧ (inStep 7 20 20).sched.window = none ∧ (inStep 7 20 20).now = (inStep 7 20
      20).sched.sample ∧ 1 ≤ (inStep 7 20 20).sched.state ∧ (inStep 7 20 20).sched.state ≤ 9 ∧ (inStep 7 20
      20).sched.state ≠ 6) ∧ (7 ≤ (inStep 7 20 20).sched.state) ∧ ((inStep 7 20 20).sched.state ≤ 8) ∧ (¬((inStep 7 20
      20).sched.state = 8 ∨ (gateOp false).done = true ∧ (inStep 7 20 20).applyOpen = false))) ∧
    (((inStep 9 20 20).boot.state = 8 ∧ (inStep 9 20 20).sched.window = none ∧ (inStep 9 20 20).now = (inStep 9 20
      20).sched.sample ∧ 1 ≤ (inStep 9 20 20).sched.state ∧ (inStep 9 20 20).sched.state ≤ 9 ∧ (inStep 9 20
      20).sched.state ≠ 6) ∧ ((inStep 9 20 20).sched.state = 9)) ∧
    ((inStep 6 52 0).sched.state = 6 ∧ ((inStep 6 52 0).now + 1) % 2 ^ 48 = ((inStep 6 52 0).sched.edge + (inStep 6 52
      0).sched.budget 4) % 2 ^ 48) ∧
    (¬((inStep 6 53 0).sched.state = 6 ∧ ((inStep 6 53 0).now + 1) % 2 ^ 48 = ((inStep 6 53 0).sched.edge + (inStep 6 53
      0).sched.budget 4) % 2 ^ 48)) ∧
    (¬((inStep 6 52 0).boot.state = 8 ∧ (inStep 6 52 0).sched.state = 6 ∧ (inStep 6 52 0).now = ((inStep 6 52 0).sched.edge
      + (inStep 6 52 0).sched.budget 4) % 2 ^ 48)) ∧
    ((unsent 53).boot.state = 8 ∧ (unsent 53).sched.state = 6 ∧ (unsent 53).now = ((unsent 53).sched.edge + (unsent
      53).sched.budget 4) % 2 ^ 48) :=
  by and_intros <;> decide +kernel

theorem test_met_Decisions :
    (wit.sched.window = none) ∧
    (((deciding (opened WinKind.gate1 false 60) 2).sched.window = some (opened WinKind.gate1 false 60)) ∧ (¬((deciding
      (opened WinKind.gate1 false 60) 2).boot.state = 8 ∧ (deciding (opened WinKind.gate1 false 60) 2).now = ((opened
      WinKind.gate1 false 60).ts + (deciding (opened WinKind.gate1 false 60) 2).sched.lag) % 2 ^ 48))) ∧
    (((choosing WinKind.gate1 false false false true 2).sched.window = some (sampled WinKind.gate1 false false false true))
      ∧ ((choosing WinKind.gate1 false false false true 2).boot.state = 8 ∧ (choosing WinKind.gate1 false false false
      true 2).now = ((sampled WinKind.gate1 false false false true).ts + (choosing WinKind.gate1 false false false true
      2).sched.lag) % 2 ^ 48) ∧ (¬((choosing WinKind.gate1 false false false true 2).alone = true ∨ (sampled
      WinKind.gate1 false false false true).anyRx = true))) ∧
    (((choosing WinKind.gate1 false true true true 2).sched.window = some (sampled WinKind.gate1 false true true true)) ∧
      ((choosing WinKind.gate1 false true true true 2).boot.state = 8 ∧ (choosing WinKind.gate1 false true true true
      2).now = ((sampled WinKind.gate1 false true true true).ts + (choosing WinKind.gate1 false true true true
      2).sched.lag) % 2 ^ 48) ∧ ((choosing WinKind.gate1 false true true true 2).alone = true ∨ (sampled WinKind.gate1
      false true true true).anyRx = true) ∧ ((sampled WinKind.gate1 false true true true).abort = true)) ∧
    (((choosing WinKind.vote false false true false 2).sched.window = some (sampled WinKind.vote false false true false)) ∧
      ((choosing WinKind.vote false false true false 2).boot.state = 8 ∧ (choosing WinKind.vote false false true false
      2).now = ((sampled WinKind.vote false false true false).ts + (choosing WinKind.vote false false true false
      2).sched.lag) % 2 ^ 48) ∧ ((choosing WinKind.vote false false true false 2).alone = true ∨ (sampled WinKind.vote
      false false true false).anyRx = true) ∧ ((sampled WinKind.vote false false true false).kind = WinKind.vote ∧
      (sampled WinKind.vote false false true false).ok = false)) ∧
    (((choosing WinKind.gate2 true false true true 2).sched.window = some (sampled WinKind.gate2 true false true true)) ∧
      ((choosing WinKind.gate2 true false true true 2).boot.state = 8 ∧ (choosing WinKind.gate2 true false true true
      2).now = ((sampled WinKind.gate2 true false true true).ts + (choosing WinKind.gate2 true false true true
      2).sched.lag) % 2 ^ 48) ∧ ((choosing WinKind.gate2 true false true true 2).alone = true ∨ (sampled WinKind.gate2
      true false true true).anyRx = true) ∧ (¬((sampled WinKind.gate2 true false true true).abort = true ∨ (sampled
      WinKind.gate2 true false true true).abortRx = true ∨ (sampled WinKind.gate2 true false true true).kind =
      WinKind.vote ∧ (sampled WinKind.gate2 true false true true).ok = false)) ∧ ((sampled WinKind.gate2 true false true
      true).slip = true ∨ (sampled WinKind.gate2 true false true true).slipRx = true) ∧ ((sampled WinKind.gate2 true
      false true true).kind = WinKind.gate2)) ∧
    (((choosing WinKind.gate1 false false false true 1).sched.window = some (sampled WinKind.gate1 false false false true))
      ∧ ((choosing WinKind.gate1 false false false true 1).boot.state = 8 ∧ (choosing WinKind.gate1 false false false
      true 1).now = ((sampled WinKind.gate1 false false false true).ts + (choosing WinKind.gate1 false false false true
      1).sched.lag) % 2 ^ 48) ∧ ((choosing WinKind.gate1 false false false true 1).alone = true ∨ (sampled WinKind.gate1
      false false false true).anyRx = true) ∧ (¬((sampled WinKind.gate1 false false false true).abort = true ∨ (sampled
      WinKind.gate1 false false false true).abortRx = true ∨ (sampled WinKind.gate1 false false false true).kind =
      WinKind.vote ∧ (sampled WinKind.gate1 false false false true).ok = false)) ∧ (¬((sampled WinKind.gate1 false false
      false true).slip = true ∨ (sampled WinKind.gate1 false false false true).slipRx = true)) ∧ ((sampled WinKind.gate1
      false false false true).kind = WinKind.gate1)) ∧
    (((chosen WinKind.gate2).sched.window = some (choice WinKind.gate2)) ∧ ((chosen WinKind.gate2).boot.state = 8 ∧ (chosen
      WinKind.gate2).now = ((choice WinKind.gate2).ts + (chosen WinKind.gate2).sched.lag) % 2 ^ 48) ∧ ((chosen
      WinKind.gate2).alone = true ∨ (choice WinKind.gate2).anyRx = true) ∧ (¬((choice WinKind.gate2).abort = true ∨
      (choice WinKind.gate2).abortRx = true ∨ (choice WinKind.gate2).kind = WinKind.vote ∧ (choice WinKind.gate2).ok =
      false)) ∧ (¬((choice WinKind.gate2).slip = true ∨ (choice WinKind.gate2).slipRx = true)) ∧ ((choice
      WinKind.gate2).kind = WinKind.gate2)) ∧
    (((chosen WinKind.deadline).sched.window = some (choice WinKind.deadline)) ∧ ((chosen WinKind.deadline).boot.state = 8 ∧
      (chosen WinKind.deadline).now = ((choice WinKind.deadline).ts + (chosen WinKind.deadline).sched.lag) % 2 ^ 48) ∧
      ((chosen WinKind.deadline).alone = true ∨ (choice WinKind.deadline).anyRx = true) ∧ (¬((choice
      WinKind.deadline).abort = true ∨ (choice WinKind.deadline).abortRx = true ∨ (choice WinKind.deadline).kind =
      WinKind.vote ∧ (choice WinKind.deadline).ok = false)) ∧ ((choice WinKind.deadline).kind = WinKind.deadline)) ∧
    (((chosen WinKind.vote).sched.window = some (choice WinKind.vote)) ∧ ((chosen WinKind.vote).boot.state = 8 ∧ (chosen
      WinKind.vote).now = ((choice WinKind.vote).ts + (chosen WinKind.vote).sched.lag) % 2 ^ 48) ∧ ((chosen
      WinKind.vote).alone = true ∨ (choice WinKind.vote).anyRx = true) ∧ (¬((choice WinKind.vote).abort = true ∨ (choice
      WinKind.vote).abortRx = true ∨ (choice WinKind.vote).kind = WinKind.vote ∧ (choice WinKind.vote).ok = false)) ∧
      ((choice WinKind.vote).kind = WinKind.vote)) ∧
    ((spent true []).fab.leaveTx = true) ∧
    ((¬(repeating.fab.leaveTx = true ∨ repeating.fab.leaveRx = true)) ∧ (repeating.sched.repeats + 1 ≤
      repeating.sched.repLimit)) ∧
    ((¬((spent false []).fab.leaveTx = true ∨ (spent false []).fab.leaveRx = true)) ∧ ((spent false []).sched.repLimit <
      (spent false []).sched.repeats + 1) ∧ (true = true) ∧ ((spent false []).alone = false)) ∧
    ((¬((spent false []).fab.leaveTx = true ∨ (spent false []).fab.leaveRx = true)) ∧ ((spent false []).sched.repLimit <
      (spent false []).sched.repeats + 1) ∧ (¬(false = true ∨ (spent false []).namedRanks ≠ [] ∨ (spent false
      []).lostPartners ≠ []))) ∧
    (¬(6 ≤ wit.boot.state ∧ wit.boot.state ≤ 8 ∧ wit.sched.pub = some wit.now)) ∧
    (6 ≤ (publishing 11 false).boot.state ∧ (publishing 11 false).boot.state ≤ 8 ∧ (publishing 11 false).sched.pub = some
      (publishing 11 false).now) ∧
    ((publishing 1 false).sched.state ≠ 11) ∧
    ((publishing 11 false).sched.state = 11 ∧ (publishing 11 false).sched.stopping = false) ∧
    ((publishing 11 true).sched.state = 11 ∧ (publishing 11 true).sched.stopping = true) ∧
    (4 ≠ 0) ∧
    (((sampled WinKind.vote false false true false).cause = 0) ∧ ((sampled WinKind.vote false false true false).kind =
      WinKind.vote) ∧ ((sampled WinKind.vote false false true false).ready = false)) ∧
    (((choice WinKind.gate1).cause = 0) ∧ ((choice WinKind.gate1).kind ≠ WinKind.vote) ∧ ((choice WinKind.gate1).abort =
      false)) ∧
    (((choice WinKind.vote).cause = 0) ∧ ((choice WinKind.vote).ready = true) ∧ ((choice WinKind.vote).abort = false)) :=
  by and_intros <;> decide +kernel

end Ticks

namespace Ethernet

/-- Quad 0 and its port 0 in Ethernet at 400 Gb/s, the link of port 0 UP. -/
def ethDown : State :=
  [(0x401001, [2#8]), (0x401201, [2#8]), (0x420101, leBytes 4 0x0000081D)].foldl (fun s e => s.dput e.1 e.2) wit
def eth : State := { ethDown with net := { wit.net with ports := [(0, { up := true })] } }
def port : PortOp := ⟨0, 5000⟩
def later : PortOp := ⟨0, 10 ^ 9⟩
def sends (q : Option (Nat × Nat × Nat)) : TxItem := ⟨0, none, q, List.replicate 60 7#8, false, false, 0⟩
def waiting : State := eth.setEgress 0 3 [sends none, sends (some (4096, 0, 1))]
def paused : State := eth.setPort 0 { up := true, pause := [(2, 4000)], xoff := [(3, 1)] }
def sleeping : State := eth.setPort 0 { up := true, lpiRx := true, tw := some (20, 300) }
def work (n : Nat) : RxWork := ⟨1, 0, 0, 0, 3, 0, 0, n, List.replicate 64 5#8, false, false, [], 1, none, 0⟩
def q0 : EthQ := { ring := 0x1000, tailAt := 0x2000, entries := 64, bufKib := 2, host := false, port := 0, part := 0 }
def descs : List (Nat × List Byte) :=
  [(0, leBytes 8 0x4000 ++ List.replicate 24 0#8), (1, leBytes 8 0x6000 ++ List.replicate 24 0#8)]
def qHeld : EthQ := { q0 with held := [work 64, work 64], tail := 8, host := true, descs := descs }
def qBig : EthQ := { q0 with held := [work 1000000, work 64], tail := 8 }
def holding (x : EthQ) : State := paused.setQ 5 (some x)
def lossless (t : Nat) : LosslessOp := ⟨5, t⟩
def framed (b : List Byte) : List Byte := let f := padFrame b; f ++ fcsOf f
def src : List Byte := List.replicate 6 2#8
def plain : List Byte := framed (List.replicate 6 0xFF#8 ++ src ++ [0x88#8, 0xB5#8])
def pfc : List Byte :=
  framed ([0x01, 0x80, 0xC2, 0, 0, 1] ++ src ++ [0x88, 0x08, 1, 1] ++ beBytes 2 5 ++ beBytes 2 9 ++ beBytes 2 0 ++ beBytes 2 0)
def pause : List Byte := framed ([0x01, 0x80, 0xC2, 0, 0, 1] ++ src ++ [0x88, 0x08, 0, 1, 0, 5])
def rx (b : List Byte) : EthRxOp := ⟨0, 100, b, false, 0, 0⟩
def rxFrame : RxFrame :=
  { id := 1, port := 0, tick := 0, t := 100, bytes := plain, bad := false, bank := 0, ver := 0,
    beats := headerBeats (eth.parse 0 (plain.take (plain.length - 4))).1 }
def txQ : EthQ := { q0 with next := 1, tail := 1 }
def oneLeft : State := (waiting.setQ 4096 (some txQ)).setEgress 0 3 [sends (some (4096, 0, 1))]
def txOp : EthTxOp := ⟨0, 10, List.replicate 60 1#8⟩
def flightQ : EthQ := { q0 with flight := some (some 3) }
def inFlight (n : Nat) : State := eth.setQ n (some flightQ)
def tailOp (n : Nat) : TailOp := ⟨n, 10, 3, []⟩
def mbx (b : List Byte) : MbxCmdOp := ⟨0, 3#32, b⟩
def newQ : List Byte :=
  leBytes 8 0x10000 ++ leBytes 8 0x20000 ++ leBytes 4 64 ++ leBytes 1 2 ++ [1#8] ++ leBytes 2 0 ++ leBytes 6 0 ++ leBytes 2 0
def queues : State := eth.dput 0x310002 [1#8]

/-! ### Low power: a transceiver that has it, which is the implementation's (lpiCap is opaque, log 43) -/

/-- Port 0 UP with low power on and a resolved wake time. -/
def lpi : State := (eth.setPort 0 { up := true, tw := some (20, 10 ^ 12) }).dput 0x420101 (leBytes 4 0x0000081F)
def lldp : List Byte := framed ([0x01, 0x80, 0xC2, 0, 0, 0x0E] ++ src ++ [0x88, 0xCC] ++ [6, 2, 0, 20] ++
  [0xFE, 12, 0, 0x12, 0x0F, 5] ++ [0, 9, 0, 30, 0, 0, 0, 0] ++ [0, 0])

def txAsleep : State := waiting.setPort 0 { up := true, lpiTx := true }
def heldItem : TxItem := sends (some (4096, 0, 1))
def few : State := holding { qHeld with descs := [], tail := 0, held := [work 5000] }
def young : State := holding { qHeld with held := [{ work 64 with since := 10 ^ 9 }] }
/-- What `qBig` has left once its lossless frames have been tried. -/
def leftOver : EthQ := ((holding qBig).losslessAll 2 5 (10 ^ 9) |>.ethQ 5).getD q0
def badRx (b : List Byte) : EthRxOp := rx (b.take (b.length - 1) ++ [0xEE#8])
def elsewhere : List Byte := framed ([2, 0, 0, 0, 0, 9] ++ src ++ [0x88#8, 0xB5#8])
def closed : State := eth.dput 0x420101 (leBytes 4 0x00000801)
def sending : State := oneLeft.setPort 0 { up := true, txEnd := 10 ^ 9 }
def txQueues : State := queues.dput 0x31000E (leBytes 4 (4 * 2 ^ 16))
def noQueues : State := (queues.dput 0x31000D (leBytes 4 (2 ^ 16))).setQ 0 (some q0)
def context (ring tail entries buf flags port : Nat) : List Byte :=
  leBytes 8 ring ++ leBytes 8 tail ++ leBytes 4 entries ++ leBytes 1 buf ++ leBytes 1 flags ++ leBytes 2 port ++
    leBytes 8 0

theorem test_met_EthernetPorts :
    ((ethDown.portBt port.port = some 4) ∧ (ethDown.lanesOk port.port 4 = true) ∧ (ethDown.portCfg port.port 0 = true ∧
      (ethDown.port port.port).up = false ∧ if port.port = 192 then ethDown.mcServes = true else ethDown.boot.state =
      8)) ∧
    (¬(eth.port port.port).up = false) ∧
    ((ethDown.port port.port).up = false) ∧
    ((waiting.port port.port).up = true) ∧
    (((waiting.port port.port).up = true) ∧ (Tab.wf [] waiting.net.egress = true) ∧ (7 < 8)) ∧
    (¬eth.portCfg port.port 1 = true) ∧
    ((eth.port port.port).tw = none) ∧
    ((sleeping.port port.port).tw = some (20, 300)) ∧
    (wit.portBt 0 = none) ∧
    ((ethDown.portBt 0 ≠ none) ∧ ((sends none).queue = none) ∧ (ethDown.portUp 0 = false)) ∧
    ((ethDown.portBt 0 ≠ none) ∧ (heldItem.queue ≠ none)) ∧
    ((eth.portBt 0 ≠ none) ∧ (eth.portUp 0 = true)) ∧
    (ethDown.portUp port.port = false) ∧
    ((eth.portBt port.port = some 4) ∧ (List.filter (fun tc => decide (Tab.get 0 (eth.port port.port).xoff tc ≠ 0 ∧ Tab.get
      0 (eth.port port.port).xoff tc - 1 + 2097120 * 4 ≤ eth.clk.edges * 102400 + port.at_ ∧ 1024 * eth.dnum (4326913 +
      port.port) < eth.occupancy port.port tc)) (List.range 7) = [])) ∧
    (((holding qBig).portBt later.port = some 4) ∧ (List.filter (fun tc => decide (Tab.get 0 ((holding qBig).port
      later.port).xoff tc ≠ 0 ∧ Tab.get 0 ((holding qBig).port later.port).xoff tc - 1 + 2097120 * 4 ≤ (holding
      qBig).clk.edges * 102400 + later.at_ ∧ 1024 * (holding qBig).dnum (4326913 + later.port) < (holding
      qBig).occupancy later.port tc)) (List.range 7) ≠ []) ∧ ((holding qBig).portUp later.port = true)) ∧
    (eth.ethQ (lossless 10).queue.toNat = none) ∧
    (((holding q0).ethQ (lossless 10).queue.toNat = some q0) ∧ (q0.held = [])) ∧
    (((holding qHeld).ethQ (lossless 10).queue.toNat = some qHeld) ∧ (qHeld.held = [work 64, work 64]) ∧ (qHeld.work = []) ∧
      ((State.rxFill ((work 64).rest.length + 1) (holding qHeld) (lossless 10).queue.toNat (work 64)).snd.rest = [])) ∧
    ((few.ethQ (lossless 10).queue.toNat = some { qHeld with held := [work 5000], tail := 0, descs := [] }) ∧ ([work 5000] =
      [work 5000]) ∧ (qHeld.work = []) ∧ ((State.rxFill ((work 5000).rest.length + 1) few (lossless 10).queue.toNat
      (work 5000)).snd.rest ≠ [])) ∧
    ((young.ethQ (lossless 10).queue.toNat = some { qHeld with held := [{ (work 64) with since := 10 ^ 9 }] }) ∧ (∀ (w :
      RxWork), w ∈ [{ (work 64) with since := 10 ^ 9 }] → decide (w.since + 100000 * young.dnum (4327169 + w.port) ≤
      young.clk.edges * 102400 + (lossless 10).at_) = false)) ∧
    (((holding qBig).ethQ (lossless (10 ^ 9)).queue.toNat = some qBig) ∧ (work 1000000 ∈ qBig.held) ∧ (decide ((work
      1000000).since + 100000 * (holding qBig).dnum (4327169 + (work 1000000).port) ≤ (holding qBig).clk.edges * 102400
      + (lossless (10 ^ 9)).at_) = true) ∧ ((State.losslessAll qBig.held.length (holding qBig) (lossless (10 ^
      9)).queue.toNat ((holding qBig).clk.edges * 102400 + (lossless (10 ^ 9)).at_)).ethQ (lossless (10 ^
      9)).queue.toNat = some leftOver)) :=
  by and_intros <;> decide +kernel

theorem test_met_EthernetPorts_lpi (h : Config.lpiCap 4 = true) :
    (lpi.portUp 0 = true ∧ lpi.portCfg 0 1 = true ∧ (lpi.port 0).lpiTx = false ∧ (lpi.port 0).lpiRx = false ∧
      lpi.egressEmpty 0 = true ∧ (lpi.port 0).idle + 100000 * lpi.dnum 0x420801 ≤ lpi.clk.edges * 102400 + 10 ^ 11 ∧
      lpi.dnum 0x430201 % 2 = 0) ∧
    lpi.lpiCap 0 = true ∧ (lpi.resolvedTw 0 (lpi.clk.edges * 102400 + 10 ^ 11)).isSome = true := by
  have b : lpi.portBt 0 = some 4 := by decide +kernel
  have c : lpi.lpiCap 0 = true := by simp [State.lpiCap, b, h]
  have w : (lpi.port 0).tw = some (20, 10 ^ 12) := by decide +kernel
  have n : lpi.clk.edges = 0 := by decide +kernel
  exact ⟨by decide +kernel, c, by simp [State.resolvedTw, b, c, w, n]⟩

theorem test_met_EthernetFrames :
    (ethDown.portUp (rx plain).port = false) ∧
    ((eth.portBt (badRx pfc).port = some 4) ∧ (eth.portUp (badRx pfc).port = true) ∧ (isPfc (badRx pfc).bytes = true) ∧
      (eth.rxBad (badRx pfc) = true)) ∧
    ((eth.portBt (rx pfc).port = some 4) ∧ (eth.portUp (rx pfc).port = true) ∧ (eth.rxBad (rx pfc) = false) ∧ (isPfc (rx
      pfc).bytes = true)) ∧
    ((eth.portBt (rx lldp).port = some 4) ∧ (eth.portUp (rx lldp).port = true) ∧ (eth.rxBad (rx lldp) = false) ∧ (isPfc (rx
      lldp).bytes = false) ∧ (isLldp (rx lldp).bytes = true)) ∧
    ((eth.portBt (rx pause).port = some 4) ∧ (eth.portUp (rx pause).port = true) ∧ (eth.rxBad (rx pause) = false) ∧ (isPfc
      (rx pause).bytes = false) ∧ (isLldp (rx pause).bytes = false) ∧ (isPause (rx pause).bytes = true)) ∧
    ((closed.portBt (rx elsewhere).port = some 4) ∧ (closed.portUp (rx elsewhere).port = true) ∧ (¬(isPfc (rx
      elsewhere).bytes = true ∨ isPause (rx elsewhere).bytes = true ∨ isLldp (rx elsewhere).bytes = true)) ∧
      (closed.addrPasses (rx elsewhere).port (rx elsewhere).bytes = false)) ∧
    ((eth.portBt (rx plain).port = some 4) ∧ (eth.portUp (rx plain).port = true) ∧ (¬(isPfc (rx plain).bytes = true ∨
      isPause (rx plain).bytes = true ∨ isLldp (rx plain).bytes = true)) ∧ (eth.addrPasses (rx plain).port (rx
      plain).bytes = true)) ∧
    ((paused.portBt 0 = some 4) ∧ (Tab.wf { } paused.net.ports = true) ∧ (Tab.wf 0 (paused.port 0).pause = true)) ∧
    (lldpEee (List.take (plain.length - 4) plain) = none) ∧
    (ethDown.portUp txOp.port = false) ∧
    (sending.clk.edges * 102400 + txOp.at_ < (sending.port txOp.port).txEnd) ∧
    (eth.nextClass txOp.port (eth.clk.edges * 102400 + txOp.at_) = none) ∧
    (((waiting.setQ 4096 (some txQ)).portBt txOp.port = some 4) ∧ ((waiting.setQ 4096 (some txQ)).portUp txOp.port = true) ∧
      (¬((waiting.setQ 4096 (some txQ)).clk.edges * 102400 + txOp.at_ < ((waiting.setQ 4096 (some txQ)).port
      txOp.port).txEnd ∨ ((waiting.setQ 4096 (some txQ)).net.reqs.any fun r => r.frame.port == txOp.port &&
      r.reply.isSome) = true)) ∧ ((waiting.setQ 4096 (some txQ)).nextClass txOp.port ((waiting.setQ 4096 (some
      txQ)).clk.edges * 102400 + txOp.at_) = some 3) ∧ ((waiting.setQ 4096 (some txQ)).egress txOp.port 3 = [sends none,
      heldItem])) ∧
    ((oneLeft.portBt txOp.port = some 4) ∧ (oneLeft.portUp txOp.port = true) ∧ (¬(oneLeft.clk.edges * 102400 + txOp.at_ <
      (oneLeft.port txOp.port).txEnd ∨ (oneLeft.net.reqs.any fun r => r.frame.port == txOp.port && r.reply.isSome) =
      true)) ∧ (oneLeft.nextClass txOp.port (oneLeft.clk.edges * 102400 + txOp.at_) = some 3) ∧ (oneLeft.egress
      txOp.port 3 = [heldItem])) ∧
    (oneLeft.ethQ 4096 = some txQ) ∧
    (eth.ethQ (tailOp 5).queue = none) ∧
    (((holding q0).ethQ (tailOp 5).queue = some q0) ∧ (q0.flight = none)) ∧
    (((inFlight 4096).ethQ (tailOp 4096).queue = some flightQ) ∧ (flightQ.flight = some (some 3)) ∧ (4096 ≤ (tailOp
      4096).queue)) ∧
    (((inFlight 4095).ethQ (tailOp 4095).queue = some flightQ) ∧ (flightQ.flight = some (some 3)) ∧ ((tailOp 4095).queue <
      4096)) ∧
    ((eth.mbxFree (mbx [5]).part.toNat) ∧ ((mbx [5]).payload.length ≠ 2)) ∧
    ((eth.mbxFree (mbx (leBytes 2 5)).part.toNat) ∧ ((mbx (leBytes 2 5)).payload.length = 2) ∧ (¬(eth.ethQ (leNat (mbx
      (leBytes 2 5)).payload)).isSome = true)) ∧
    (((inFlight 5).mbxFree (mbx (leBytes 2 5)).part.toNat) ∧ ((mbx (leBytes 2 5)).payload.length = 2) ∧ ((inFlight 5).ethQ
      (leNat (mbx (leBytes 2 5)).payload) = some flightQ) ∧ ((inFlight 5).queueIn (mbx (leBytes 2 5)).part.toNat (leNat
      (mbx (leBytes 2 5)).payload) = true)) ∧
    (((inFlight 5).mbxFree (mbx (leBytes 2 5)).part.toNat) ∧ (Tab.wf none (inFlight 5).net.queues = true) ∧ (6 ≠ leNat (mbx
      (leBytes 2 5)).payload)) ∧
    (((waiting.setQ 4096 (some txQ)).mbxFree (mbx (leBytes 2 4096)).part.toNat) ∧ ((waiting.setQ 4096 (some txQ)).ethQ
      (leNat (mbx (leBytes 2 4096)).payload) = some txQ) ∧ ((3, [sends none]) ∈ ((waiting.setQ 4096 (some
      txQ)).freeQueue (leNat (mbx (leBytes 2 4096)).payload)).net.egress) ∧ (sends none ∈ [sends none])) ∧
    ((noQueues.mbxFree (mbx newQ).part.toNat) ∧ (∀ (j : Nat), j < (noQueues.ptRange (mbx newQ).part.toNat (if leAt (padTo 32
      (mbx newQ).payload) 21 1 / 2 % 2 = 1 then 14 else 13)).snd → (noQueues.ethQ ((if leAt (padTo 32 (mbx
      newQ).payload) 21 1 / 2 % 2 = 1 then 4096 else 0) + (noQueues.ptRange (mbx newQ).part.toNat (if leAt (padTo 32
      (mbx newQ).payload) 21 1 / 2 % 2 = 1 then 14 else 13)).fst + j)).isSome = true)) ∧
    ((queues.mbxFree (mbx (context 65536 131072 64 1 1 0)).part.toNat) ∧ (0 < (queues.ptRange (mbx (context 65536 131072 64
      1 1 0)).part.toNat (if leAt (padTo 32 (mbx (context 65536 131072 64 1 1 0)).payload) 21 1 / 2 % 2 = 1 then 14 else
      13)).snd) ∧ (queues.ethQ ((if leAt (padTo 32 (mbx (context 65536 131072 64 1 1 0)).payload) 21 1 / 2 % 2 = 1 then
      4096 else 0) + (queues.ptRange (mbx (context 65536 131072 64 1 1 0)).part.toNat (if leAt (padTo 32 (mbx (context
      65536 131072 64 1 1 0)).payload) 21 1 / 2 % 2 = 1 then 14 else 13)).fst + 0) = none) ∧ (∀ (j : Nat), j < 0 →
      (queues.ethQ ((if leAt (padTo 32 (mbx (context 65536 131072 64 1 1 0)).payload) 21 1 / 2 % 2 = 1 then 4096 else 0)
      + (queues.ptRange (mbx (context 65536 131072 64 1 1 0)).part.toNat (if leAt (padTo 32 (mbx (context 65536 131072
      64 1 1 0)).payload) 21 1 / 2 % 2 = 1 then 14 else 13)).fst + j)).isSome = true) ∧ (¬leAt (padTo 32 (mbx (context
      65536 131072 64 1 1 0)).payload) 21 1 / 2 % 2 = 1) ∧ (leAt (padTo 32 (mbx (context 65536 131072 64 1 1
      0)).payload) 20 1 < 2)) ∧
    ((txQueues.mbxFree (mbx (context 65536 131072 64 0 3 192)).part.toNat) ∧ (0 < (txQueues.ptRange (mbx (context 65536
      131072 64 0 3 192)).part.toNat (if leAt (padTo 32 (mbx (context 65536 131072 64 0 3 192)).payload) 21 1 / 2 % 2 =
      1 then 14 else 13)).snd) ∧ (txQueues.ethQ ((if leAt (padTo 32 (mbx (context 65536 131072 64 0 3 192)).payload) 21
      1 / 2 % 2 = 1 then 4096 else 0) + (txQueues.ptRange (mbx (context 65536 131072 64 0 3 192)).part.toNat (if leAt
      (padTo 32 (mbx (context 65536 131072 64 0 3 192)).payload) 21 1 / 2 % 2 = 1 then 14 else 13)).fst + 0) = none) ∧
      (∀ (j : Nat), j < 0 → (txQueues.ethQ ((if leAt (padTo 32 (mbx (context 65536 131072 64 0 3 192)).payload) 21 1 / 2
      % 2 = 1 then 4096 else 0) + (txQueues.ptRange (mbx (context 65536 131072 64 0 3 192)).part.toNat (if leAt (padTo
      32 (mbx (context 65536 131072 64 0 3 192)).payload) 21 1 / 2 % 2 = 1 then 14 else 13)).fst + j)).isSome = true) ∧
      (6 ≤ 6) ∧ (6 ≤ 16) ∧ (leAt (padTo 32 (mbx (context 65536 131072 64 0 3 192)).payload) 16 4 = 2 ^ 6) ∧ (¬(¬leAt
      (padTo 32 (mbx (context 65536 131072 64 0 3 192)).payload) 21 1 / 2 % 2 = 1 ∧ (leAt (padTo 32 (mbx (context 65536
      131072 64 0 3 192)).payload) 20 1 < 2 ∨ 64 < leAt (padTo 32 (mbx (context 65536 131072 64 0 3 192)).payload) 20 1)
      ∨ 4 ≤ leAt (padTo 32 (mbx (context 65536 131072 64 0 3 192)).payload) 21 1 ∨ leAt (padTo 32 (mbx (context 65536
      131072 64 0 3 192)).payload) 26 6 ≠ 0)) ∧ (leAt (padTo 32 (mbx (context 65536 131072 64 0 3 192)).payload) 21 1 /
      2 % 2 = 1 ∧ (192 ≤ leAt (padTo 32 (mbx (context 65536 131072 64 0 3 192)).payload) 22 2 ∨ txQueues.portBt (leAt
      (padTo 32 (mbx (context 65536 131072 64 0 3 192)).payload) 22 2) = none))) ∧
    ((queues.mbxFree (mbx (context 65552 131072 65536 2 1 0)).part.toNat) ∧ (0 < (queues.ptRange (mbx (context 65552 131072
      65536 2 1 0)).part.toNat (if leAt (padTo 32 (mbx (context 65552 131072 65536 2 1 0)).payload) 21 1 / 2 % 2 = 1
      then 14 else 13)).snd) ∧ (queues.ethQ ((if leAt (padTo 32 (mbx (context 65552 131072 65536 2 1 0)).payload) 21 1 /
      2 % 2 = 1 then 4096 else 0) + (queues.ptRange (mbx (context 65552 131072 65536 2 1 0)).part.toNat (if leAt (padTo
      32 (mbx (context 65552 131072 65536 2 1 0)).payload) 21 1 / 2 % 2 = 1 then 14 else 13)).fst + 0) = none) ∧ (∀ (j :
      Nat), j < 0 → (queues.ethQ ((if leAt (padTo 32 (mbx (context 65552 131072 65536 2 1 0)).payload) 21 1 / 2 % 2 = 1
      then 4096 else 0) + (queues.ptRange (mbx (context 65552 131072 65536 2 1 0)).part.toNat (if leAt (padTo 32 (mbx
      (context 65552 131072 65536 2 1 0)).payload) 21 1 / 2 % 2 = 1 then 14 else 13)).fst + j)).isSome = true) ∧ (6 ≤
      16) ∧ (16 ≤ 16) ∧ (leAt (padTo 32 (mbx (context 65552 131072 65536 2 1 0)).payload) 16 4 = 2 ^ 16) ∧ (¬(¬leAt
      (padTo 32 (mbx (context 65552 131072 65536 2 1 0)).payload) 21 1 / 2 % 2 = 1 ∧ (leAt (padTo 32 (mbx (context 65552
      131072 65536 2 1 0)).payload) 20 1 < 2 ∨ 64 < leAt (padTo 32 (mbx (context 65552 131072 65536 2 1 0)).payload) 20
      1) ∨ 4 ≤ leAt (padTo 32 (mbx (context 65552 131072 65536 2 1 0)).payload) 21 1 ∨ leAt (padTo 32 (mbx (context
      65552 131072 65536 2 1 0)).payload) 26 6 ≠ 0)) ∧ (¬(leAt (padTo 32 (mbx (context 65552 131072 65536 2 1
      0)).payload) 21 1 / 2 % 2 = 1 ∧ (192 ≤ leAt (padTo 32 (mbx (context 65552 131072 65536 2 1 0)).payload) 22 2 ∨
      queues.portBt (leAt (padTo 32 (mbx (context 65552 131072 65536 2 1 0)).payload) 22 2) = none))) ∧ (leAt (padTo 32
      (mbx (context 65552 131072 65536 2 1 0)).payload) 0 8 % 32 ≠ 0 ∨ leAt (padTo 32 (mbx (context 65552 131072 65536 2
      1 0)).payload) 8 8 % 4 ≠ 0 ∨ (if (leAt (padTo 32 (mbx (context 65552 131072 65536 2 1 0)).payload) 21 1 % 2 == 1)
      = true then [] else List.filter (fun e => queues.extentOut (mbx (context 65552 131072 65536 2 1 0)).part.toNat
      e.fst e.snd) [(leAt (padTo 32 (mbx (context 65552 131072 65536 2 1 0)).payload) 0 8, 32 * leAt (padTo 32 (mbx
      (context 65552 131072 65536 2 1 0)).payload) 16 4), (leAt (padTo 32 (mbx (context 65552 131072 65536 2 1
      0)).payload) 8 8, 4)]) ≠ [] ∨ (leAt (padTo 32 (mbx (context 65552 131072 65536 2 1 0)).payload) 21 1 % 2 == 1) =
      false ∧ (leAt (padTo 32 (mbx (context 65552 131072 65536 2 1 0)).payload) 0 8 / 2 ^ 56 = 5 ∨ leAt (padTo 32 (mbx
      (context 65552 131072 65536 2 1 0)).payload) 8 8 / 2 ^ 56 = 5) ∨ (leAt (padTo 32 (mbx (context 65552 131072 65536
      2 1 0)).payload) 21 1 % 2 == 1) = true ∧ queues.dnum (ptKey (mbx (context 65552 131072 65536 2 1 0)).part.toNat 2)
      = 0)) ∧
    ((queues.mbxFree (mbx newQ).part.toNat) ∧ (0 < (queues.ptRange (mbx newQ).part.toNat (if leAt (padTo 32 (mbx
      newQ).payload) 21 1 / 2 % 2 = 1 then 14 else 13)).snd) ∧ (queues.ethQ ((if leAt (padTo 32 (mbx newQ).payload) 21 1
      / 2 % 2 = 1 then 4096 else 0) + (queues.ptRange (mbx newQ).part.toNat (if leAt (padTo 32 (mbx newQ).payload) 21 1
      / 2 % 2 = 1 then 14 else 13)).fst + 0) = none) ∧ (∀ (j : Nat), j < 0 → (queues.ethQ ((if leAt (padTo 32 (mbx
      newQ).payload) 21 1 / 2 % 2 = 1 then 4096 else 0) + (queues.ptRange (mbx newQ).part.toNat (if leAt (padTo 32 (mbx
      newQ).payload) 21 1 / 2 % 2 = 1 then 14 else 13)).fst + j)).isSome = true) ∧ (6 ≤ 6) ∧ (6 ≤ 16) ∧ (leAt (padTo 32
      (mbx newQ).payload) 16 4 = 2 ^ 6) ∧ (¬(¬leAt (padTo 32 (mbx newQ).payload) 21 1 / 2 % 2 = 1 ∧ (leAt (padTo 32 (mbx
      newQ).payload) 20 1 < 2 ∨ 64 < leAt (padTo 32 (mbx newQ).payload) 20 1) ∨ 4 ≤ leAt (padTo 32 (mbx newQ).payload)
      21 1 ∨ leAt (padTo 32 (mbx newQ).payload) 26 6 ≠ 0)) ∧ (¬(leAt (padTo 32 (mbx newQ).payload) 21 1 / 2 % 2 = 1 ∧
      (192 ≤ leAt (padTo 32 (mbx newQ).payload) 22 2 ∨ queues.portBt (leAt (padTo 32 (mbx newQ).payload) 22 2) = none)))
      ∧ (¬(leAt (padTo 32 (mbx newQ).payload) 0 8 % 32 ≠ 0 ∨ leAt (padTo 32 (mbx newQ).payload) 8 8 % 4 ≠ 0 ∨ (if (leAt
      (padTo 32 (mbx newQ).payload) 21 1 % 2 == 1) = true then [] else List.filter (fun e => queues.extentOut (mbx
      newQ).part.toNat e.fst e.snd) [(leAt (padTo 32 (mbx newQ).payload) 0 8, 32 * leAt (padTo 32 (mbx newQ).payload) 16
      4), (leAt (padTo 32 (mbx newQ).payload) 8 8, 4)]) ≠ [] ∨ (leAt (padTo 32 (mbx newQ).payload) 21 1 % 2 == 1) =
      false ∧ (leAt (padTo 32 (mbx newQ).payload) 0 8 / 2 ^ 56 = 5 ∨ leAt (padTo 32 (mbx newQ).payload) 8 8 / 2 ^ 56 =
      5) ∨ (leAt (padTo 32 (mbx newQ).payload) 21 1 % 2 == 1) = true ∧ queues.dnum (ptKey (mbx newQ).part.toNat 2) =
      0))) :=
  by and_intros <;> decide +kernel

theorem test_met_EthernetFrames_lldp (h : Config.lpiCap 4 = true) :
    (eth.portBt 0 = some 4 ∧ eth.portUp 0 = true ∧ isLldp (rx lldp).bytes = true ∧ isPfc (rx lldp).bytes = false ∧
      isPause (rx lldp).bytes = false ∧ eth.rxBad (rx lldp) = false ∧ lldpEee ((rx lldp).bytes.take 60) = some (20, 30)) ∧
    eth.lpiCap 0 = true := by
  have b : eth.portBt 0 = some 4 := by decide +kernel
  exact ⟨by decide +kernel, by simp [State.lpiCap, b, h]⟩

end Ethernet

namespace Parse

def eth : State :=
  { ([(0x401001, [2#8]), (0x401201, [2#8]), (0x420101, leBytes 4 0x0000081D)].foldl (fun s e => s.dput e.1 e.2) wit) with
    net := { wit.net with ports := [(0, { up := true })] } }
def framed (b : List Byte) : List Byte := let f := padFrame b; f ++ fcsOf f
def macs : List Byte := List.replicate 6 0xFF#8 ++ List.replicate 6 2#8
def plain : List Byte := framed (macs ++ [0x88#8, 0xB5#8])
def badIp : List Byte := framed (macs ++ [0x08, 0x00, 0x41, 0] ++ List.replicate 30 1#8)
def udp : List Byte := beBytes 2 1000 ++ beBytes 2 2000 ++ beBytes 2 24 ++ beBytes 2 0 ++ List.replicate 16 0x11#8
/-- An IPv4 packet with the UDP datagram, its flags and fragment offset given. -/
def ip (flags : Nat) : List Byte :=
  let h := fun c : Nat =>
    [0x45, 0] ++ beBytes 2 44 ++ beBytes 2 77 ++ beBytes 2 flags ++ [64, 17] ++ beBytes 2 c ++ [10, 0, 0, 1] ++ [10, 0, 0, 2]
  framed (macs ++ [0x08, 0x00] ++ h (65535 - sum16 (h 0)) ++ udp)
def rxFrame (b : List Byte) : RxFrame :=
  { id := 4, port := 0, tick := 0, t := 100, bytes := b, bad := false, bank := 0, ver := 0, beats := 1 }
def pipe (b : List Byte) : State := { eth with net := { eth.net with pipes := [(0, [rxFrame b])] } }
def entry : FragEnt := ⟨(eth.parse 0 (rxFrame (ip 4)).data).1.fragId, 0, { queue := some 3 }⟩
def fragments : State := { pipe (ip 4) with net := { (pipe (ip 4)).net with frags := [entry] } }
def flow (last : Nat) : FlowEnt := ⟨[1], false, 0, 0, last, 5, 1, 1, 0, 0, 0, 0⟩
def aged : State :=
  let fs : List FragEnt := [⟨[1], 0, {}⟩, { entry with at_ := 10 ^ 14 }]
  { eth with net := { eth.net with frags := fs, flows := [flow 0, flow (10 ^ 18)] } }
def atTick (n : Nat) : State := { eth with clk := { eth.clk with tick := n } }
def badRule : State := { atTick 2048 with dict := Tab.put none eth.dict (2 ^ 24 + 0x440005) (some [5#8]) }
def pipeOp : PipeOp := ⟨0, 5, false⟩
def age : AgeOp := ⟨10 ^ 12⟩
def popped (s : State) : State := { s with net := { s.net with pipes := Tab.put [] s.net.pipes 0 [] } }

/-- A valid rule, with a MASK of zeros, and one that is not valid. -/
theorem test_met_RuleChoice : ruleValid (List.replicate 99 0 ++ [1]) = true ∧ leAt (List.replicate 99 0 ++ [1]) 48 48 = 0 ∧
    ruleValid (List.replicate 100 0) = false := by decide +kernel

/-- Pipe 1 holds an older frame of the same port. -/
def outOfOrder : State := { pipe plain with net := { (pipe plain).net with
  pipes := [(0, [rxFrame plain]), (1, [{ rxFrame plain with id := 3 }])] } }
def counted (s : State) : State :=
  { s with net := { s.net with pipes := Tab.put [] s.net.pipes pipeOp.pipe.toNat [] } }.count cPpFrames pipeOp.pipe.toNat 1

/-- A scoring request whose Total Length runs past the frame, on a port of SCORE_EN = 1, under a filter rule that drops every frame. -/
def cutShort : List Byte :=
  let h := fun c : Nat =>
    [0x45, 0] ++ beBytes 2 400 ++ beBytes 2 77 ++ beBytes 2 0 ++ [64, 17] ++ beBytes 2 c ++ [10, 0, 0, 1] ++ [10, 0, 0, 2]
  framed (macs ++ [0x08, 0x00] ++ h (65535 - sum16 (h 0)) ++ udp)
def dropsShort : State :=
  let s := { pipe cutShort with dict := Tab.put none wit.dict 0x441001 (some (List.replicate 98 0 ++ [1, 1] ++ List.replicate 28 0)) }
  [(0x401001, [2#8]), (0x401201, [2#8]), (0x420101, leBytes 4 0x0000081D), (0x500002, leBytes 2 2000),
    (0x430201, leBytes 4 0x41)].foldl (fun s e => s.dput e.1 e.2) s

theorem test_met_Parsing :
    (Tab.get [] eth.net.pipes pipeOp.pipe.toNat = []) ∧
    ((Tab.get [] outOfOrder.net.pipes pipeOp.pipe.toNat = [rxFrame plain]) ∧ (∃ e, e ∈ outOfOrder.net.pipes ∧ e.fst ≠
      pipeOp.pipe.toNat ∧ ∃ g, g ∈ e.snd ∧ g.port = (rxFrame plain).port ∧ g.id < (rxFrame plain).id)) ∧
    ((Tab.get [] (pipe badIp).net.pipes pipeOp.pipe.toNat = [rxFrame badIp]) ∧ (¬∃ e, e ∈ (pipe badIp).net.pipes ∧ e.fst ≠
      pipeOp.pipe.toNat ∧ ∃ g, g ∈ e.snd ∧ g.port = (rxFrame badIp).port ∧ g.id < (rxFrame badIp).id) ∧ (((counted (pipe
      badIp)).parse (rxFrame badIp).port (rxFrame badIp).data).fst.fail ≠ 0)) ∧
    ((Tab.get [] dropsShort.net.pipes pipeOp.pipe.toNat = [rxFrame cutShort]) ∧ (¬∃ e, e ∈ dropsShort.net.pipes ∧ e.fst ≠
      pipeOp.pipe.toNat ∧ ∃ g, g ∈ e.snd ∧ g.port = (rxFrame cutShort).port ∧ g.id < (rxFrame cutShort).id) ∧ (((counted
      dropsShort).parse (rxFrame cutShort).port (rxFrame cutShort).data).fst.fail = 0) ∧ (((counted dropsShort).parse
      (rxFrame cutShort).port (rxFrame cutShort).data).fst.frag = 0) ∧ (((counted dropsShort).parse (rxFrame
      cutShort).port (rxFrame cutShort).data).fst.short.isSome = true ∧ ((counted dropsShort).steer pipeOp.pipe.toNat
      (rxFrame cutShort) ((counted dropsShort).parse (rxFrame cutShort).port (rxFrame cutShort).data).fst ((counted
      dropsShort).parse (rxFrame cutShort).port (rxFrame cutShort).data).snd pipeOp.rangeUe).snd.shot = false)) ∧
    ((Tab.get [] (pipe plain).net.pipes pipeOp.pipe.toNat = [rxFrame plain]) ∧ (¬∃ e, e ∈ (pipe plain).net.pipes ∧ e.fst ≠
      pipeOp.pipe.toNat ∧ ∃ g, g ∈ e.snd ∧ g.port = (rxFrame plain).port ∧ g.id < (rxFrame plain).id) ∧ (((counted (pipe
      plain)).parse (rxFrame plain).port (rxFrame plain).data).fst.fail = 0) ∧ (((counted (pipe plain)).parse (rxFrame
      plain).port (rxFrame plain).data).fst.frag = 0) ∧ (¬(((counted (pipe plain)).parse (rxFrame plain).port (rxFrame
      plain).data).fst.short.isSome = true ∧ ((counted (pipe plain)).steer pipeOp.pipe.toNat (rxFrame plain) ((counted
      (pipe plain)).parse (rxFrame plain).port (rxFrame plain).data).fst ((counted (pipe plain)).parse (rxFrame
      plain).port (rxFrame plain).data).snd pipeOp.rangeUe).snd.shot = false))) ∧
    ((Tab.get [] (pipe (ip 8192)).net.pipes pipeOp.pipe.toNat = [rxFrame (ip 8192)]) ∧ (¬∃ e, e ∈ (pipe (ip 8192)).net.pipes
      ∧ e.fst ≠ pipeOp.pipe.toNat ∧ ∃ g, g ∈ e.snd ∧ g.port = (rxFrame (ip 8192)).port ∧ g.id < (rxFrame (ip 8192)).id)
      ∧ (((counted (pipe (ip 8192))).parse (rxFrame (ip 8192)).port (rxFrame (ip 8192)).data).fst.fail = 0) ∧ (((counted
      (pipe (ip 8192))).parse (rxFrame (ip 8192)).port (rxFrame (ip 8192)).data).fst.frag = 1)) ∧
    ((Tab.get [] (pipe (ip 4)).net.pipes pipeOp.pipe.toNat = [rxFrame (ip 4)]) ∧ (¬∃ e, e ∈ (pipe (ip 4)).net.pipes ∧ e.fst
      ≠ pipeOp.pipe.toNat ∧ ∃ g, g ∈ e.snd ∧ g.port = (rxFrame (ip 4)).port ∧ g.id < (rxFrame (ip 4)).id) ∧ (((counted
      (pipe (ip 4))).parse (rxFrame (ip 4)).port (rxFrame (ip 4)).data).fst.fail = 0) ∧ (((counted (pipe (ip 4))).parse
      (rxFrame (ip 4)).port (rxFrame (ip 4)).data).fst.frag = 2) ∧ (∀ (e : FragEnt), e ∈ ((counted (pipe (ip
      4))).fragExpire ((pipe (ip 4)).clk.edges * 102400 + pipeOp.at_)).net.frags → e.key ≠ ((counted (pipe (ip
      4))).parse (rxFrame (ip 4)).port (rxFrame (ip 4)).data).fst.fragId)) ∧
    ((Tab.get [] fragments.net.pipes pipeOp.pipe.toNat = [rxFrame (ip 4)]) ∧ (¬∃ e, e ∈ fragments.net.pipes ∧ e.fst ≠
      pipeOp.pipe.toNat ∧ ∃ g, g ∈ e.snd ∧ g.port = (rxFrame (ip 4)).port ∧ g.id < (rxFrame (ip 4)).id) ∧ (((counted
      fragments).parse (rxFrame (ip 4)).port (rxFrame (ip 4)).data).fst.fail = 0) ∧ (((counted fragments).parse (rxFrame
      (ip 4)).port (rxFrame (ip 4)).data).fst.frag = 2) ∧ (List.find? (fun e => e.key == ((counted fragments).parse
      (rxFrame (ip 4)).port (rxFrame (ip 4)).data).fst.fragId) ((counted fragments).fragExpire (fragments.clk.edges *
      102400 + pipeOp.at_)).net.frags = some entry)) ∧
    ((pipe plain).now % 1024 = 0) ∧
    ((atTick 2049).now % 1024 ≠ 0) ∧
    ((pipe plain).ruleSwitchCheck = 0) ∧
    (badRule.ruleSwitchCheck ≠ 0) :=
  by and_intros <;> decide +kernel

end Parse

namespace Shot

def eth : State :=
  { ([(0x401001, [2#8]), (0x401201, [2#8]), (0x420101, leBytes 4 0x0000081D)].foldl (fun s e => s.dput e.1 e.2) wit) with
    net := { wit.net with ports := [(0, { up := true })] } }
def rxFrame : RxFrame :=
  { id := 4, port := 0, tick := 0, t := 100, bytes := List.replicate 200 1#8, bad := false, bank := 0, ver := 0, beats := 1 }
def rec0 : ShotRec := { arr := 0 }
def got : ShotReq :=
  { frame := rxFrame, udp := true, tc := 7, lane := 0, dec := 5000, off := 42, ipAt := 14, v4 := true, declared := 100, pad := 0, f16 := false,
    model := 0, layout := 0, nrec := 1, reqId := 3, lag := 0, recs := [rec0] }
def other : ShotReq := { got with lane := 3, frame := { rxFrame with id := 2 } }
def serves (l : List ShotReq) : State := { eth with net := { eth.net with reqs := l }, clk := { eth.clk with tick := 3, edges := 3 } }
def admitted : ShotReq := { got with admitted := some 10 }
def key : RowKey := ⟨0, 0, 0, 3⟩
def ground : ShotRec := { arr := 0, ground := some 10, deadline := 1000, looks := [⟨[0], key, .waiting, some 7⟩] }
def looking : ShotReq := { admitted with recs := [ground] }
def orphan : State := { serves [got] with net := { (serves [got]).net with orphans := [(0, key, 3)] } }
def scoredRec : ShotRec := { ground with looks := [], scored := some 2000, scores := [0x3F800000] }
def scored : ShotReq := { admitted with next := 1, recs := [scoredRec] }
def stopped : ShotReq := { got with status := 3 }
def replyOf (r : ShotReq) : Nat := ((serves [r]).replyDue r).getD 0
def run : ReplyRun := ⟨400000, [], [], 500000⟩
def runEnds : ReplyRun := { run with entries := [List.replicate 16 0#8], fcsAt := 300000 }
def sending (x : ReplyRun) : ShotReq := { scored with reply := some x }
def lane : LaneOp := ⟨0, 50⟩
def grind (upto : Nat) : GrindOp := ⟨0, BitVec.ofNat 14 upto, 50, []⟩
def lookup : LookupOp := ⟨0, 50, 0, 0, 3, {}⟩
def frameEnds (t : Nat) : PortOp := ⟨0, t⟩
def noReqs : List ShotReq := []
def nextUp (r : ShotReq) : ShotReq := { r with next := r.next + 1 }

theorem test_met_ShotDeadlines :
    ((List.map (fun x => x.frame.id) (serves [other, looking]).net.reqs).Nodup) ∧
    (looking.lane = lane.lane.toNat ∧ ground.ground.isSome = true ∧ ground.deadline ≤ (serves [looking]).clk.edges * 102400
      + lane.at_ ∧ ∃ l, l ∈ ground.looks ∧ l.found = Found.waiting) ∧
    (Tab.wf 0 (serves [looking]).ctr = true ∧ looking.hold = false ∧ ground.scored = none ∧ ground.overl = false ∧
      ground.sent = false ∧ looking.cut ((serves [looking]).layout looking.bank looking.layout) 0 = false ∧ ground.arr +
      2 ≤ (serves [looking]).clk.edges) :=
  by and_intros <;> decide +kernel

def early : State := { serves [stopped] with clk := {} }
def cutRec : ShotReq := { admitted with recs := [{ rec0 with overl := true }] }
def strictHold : ShotReq := { got with hold := true }
/-- Table 0 is there, and the bridges have no tokens for its records until long after. -/
def noTokens : State :=
  let s := { serves [looking] with emb := { wit.emb with tables := [(0, some Tables.table0)] } }
  { s with net := { s.net with class2 := [(1, { level := 0, at_ := 10 ^ 9 }), (3, { level := 0, at_ := 10 ^ 9 })] } }
def down (l : List ShotReq) : State := { serves l with net := { (serves l).net with ports := [] } }
def tokens (s : State) : State :=
  ((s.class2Run 307250).class2Take ((s.class2Run 307250).lookupTile key) 307250 ((s.class2Run 307250).lookupLen key)).getD s

/-- A DOT feature, and a layout that has it alone. -/
def dotFeat : FeatDesc := ⟨4, false, false, [0, 1], 2, 0, 0, 0, 0, 0, 0, []⟩
def dotLayout : LayoutDesc := ⟨64, 2, 1, true, [], [dotFeat], []⟩
/-- The port sleeps; a record's reply entry falls due. -/
def asleep : State := (serves [stopped]).setPort 0 { up := true, lpiTx := true }

theorem test_met_ShotRequests :
    ((eth.net.reqs.any fun x => x.lane == lane.lane.toNat && !x.hold && x.admitted.isNone && x.status == 0) = false) ∧
    ((eth.net.reqs.any fun x => x.lane == (grind 50).lane.toNat && !x.hold && x.admitted.isSome && decide (x.next <
      x.recs.length)) = false) ∧
    (((serves [other, got]).net.reqs = [other] ++ [got]) ∧ (([other].any fun x => x.lane == lane.lane.toNat && !x.hold &&
      x.admitted.isNone && x.status == 0) = false) ∧ ((got.lane == lane.lane.toNat && !got.hold && got.admitted.isNone
      && got.status == 0) = true)) ∧
    (((serves [other, cutRec]).net.reqs = [other] ++ [cutRec]) ∧ (([other].any fun x => x.lane == (grind 50).lane.toNat &&
      !x.hold && x.admitted.isSome && decide (x.next < x.recs.length)) = false) ∧ ((cutRec.lane == (grind 50).lane.toNat
      && !cutRec.hold && cutRec.admitted.isSome && decide (cutRec.next < cutRec.recs.length)) = true) ∧
      (cutRec.recs[cutRec.next]? = some { rec0 with overl := true }) ∧ (true = true)) ∧
    (((serves [other, admitted]).net.reqs = [other] ++ [admitted]) ∧ (([other].any fun x => x.lane == (grind
      16383).lane.toNat && !x.hold && x.admitted.isSome && decide (x.next < x.recs.length)) = false) ∧ ((admitted.lane
      == (grind 16383).lane.toNat && !admitted.hold && admitted.admitted.isSome && decide (admitted.next <
      admitted.recs.length)) = true) ∧ (admitted.recs[admitted.next]? = some rec0) ∧ (rec0.overl = false)) ∧
    ((eth.class2Run (eth.clk.edges * 102400 + lookup.at_)).oldestAsk lookup.lane.toNat
      { part := eth.dnum 5242881, table := lookup.table.toNat, shard := lookup.shard, slot := lookup.slot } = none) ∧
    (((noTokens.class2Run (noTokens.clk.edges * 102400 + lookup.at_)).oldestAsk lookup.lane.toNat
      { part := noTokens.dnum 5242881, table := lookup.table.toNat, shard := lookup.shard, slot := lookup.slot } = some
      7) ∧ ((noTokens.class2Run (noTokens.clk.edges * 102400 + lookup.at_)).class2Take ((noTokens.class2Run
      (noTokens.clk.edges * 102400 + lookup.at_)).lookupTile
      { part := noTokens.dnum 5242881, table := lookup.table.toNat, shard := lookup.shard, slot := lookup.slot })
      (noTokens.clk.edges * 102400 + lookup.at_) ((noTokens.class2Run (noTokens.clk.edges * 102400 +
      lookup.at_)).lookupLen
      { part := noTokens.dnum 5242881, table := lookup.table.toNat, shard := lookup.shard, slot := lookup.slot }) =
      none)) ∧
    (((orphan.class2Run (orphan.clk.edges * 102400 + lookup.at_)).oldestAsk lookup.lane.toNat
      { part := orphan.dnum 5242881, table := lookup.table.toNat, shard := lookup.shard, slot := lookup.slot } = some 3)
      ∧ ((orphan.class2Run (orphan.clk.edges * 102400 + lookup.at_)).class2Take ((orphan.class2Run (orphan.clk.edges *
      102400 + lookup.at_)).lookupTile
      { part := orphan.dnum 5242881, table := lookup.table.toNat, shard := lookup.shard, slot := lookup.slot })
      (orphan.clk.edges * 102400 + lookup.at_) ((orphan.class2Run (orphan.clk.edges * 102400 + lookup.at_)).lookupLen
      { part := orphan.dnum 5242881, table := lookup.table.toNat, shard := lookup.shard, slot := lookup.slot }) = some
      (tokens orphan)) ∧ (∀ (w : ShotReq × Nat × Nat × Nat), w ∈ ((tokens orphan).noteEcc 1 lookup.ecc false).waitingFor
      lookup.lane.toNat
      { part := orphan.dnum 5242881, table := lookup.table.toNat, shard := lookup.shard, slot := lookup.slot } →
      w.snd.snd.snd ≠ 3)) ∧
    ((((serves [looking]).class2Run ((serves [looking]).clk.edges * 102400 + lookup.at_)).oldestAsk lookup.lane.toNat
      { part := (serves [looking]).dnum 5242881, table := lookup.table.toNat, shard := lookup.shard, slot := lookup.slot }
      = some 7) ∧ (((serves [looking]).class2Run ((serves [looking]).clk.edges * 102400 + lookup.at_)).class2Take
      (((serves [looking]).class2Run ((serves [looking]).clk.edges * 102400 + lookup.at_)).lookupTile
      { part := (serves [looking]).dnum 5242881, table := lookup.table.toNat, shard := lookup.shard, slot := lookup.slot })
      ((serves [looking]).clk.edges * 102400 + lookup.at_) (((serves [looking]).class2Run ((serves [looking]).clk.edges
      * 102400 + lookup.at_)).lookupLen
      { part := (serves [looking]).dnum 5242881, table := lookup.table.toNat, shard := lookup.shard, slot := lookup.slot })
      = some (tokens (serves [looking]))) ∧ (((tokens (serves [looking])).noteEcc 1 lookup.ecc false).waitingFor
      lookup.lane.toNat
      { part := (serves [looking]).dnum 5242881, table := lookup.table.toNat, shard := lookup.shard, slot := lookup.slot }
      = [] ++ [(looking, 0, 0, 7)]) ∧ (∀ (w : ShotReq × Nat × Nat × Nat), w ∈ [] → w.snd.snd.snd ≠ 7)) ∧
    ((dotLayout.feats[0]? = some dotFeat) ∧ (dotFeat.op = 3 ∨ 4 ≤ dotFeat.op)) ∧
    ((dotLayout.feats[0]? = some dotFeat) ∧ (dotFeat.op = 3 ∨ 4 ≤ dotFeat.op) ∧ (dotFeat.op = 4) ∧ (0 ∈ [0])) ∧
    (looking.recs[0]? = some ground) ∧
    ((eth.net.reqs.any fun (x : ShotReq) => x.frame.port == (frameEnds 5).port && x.reply.isNone) = false) ∧
    ((eth.net.reqs.any fun (x : ShotReq) => x.frame.port == (frameEnds 5).port && x.reply.isSome) = false) ∧
    (((serves [strictHold]).net.reqs = [] ++ [strictHold]) ∧ (([].any fun (x : ShotReq) => x.frame.port == (frameEnds
      500000).port && x.reply.isNone) = false) ∧ ((strictHold.frame.port == (frameEnds 500000).port &&
      strictHold.reply.isNone) = true) ∧ ((serves [strictHold]).replyDue strictHold = none)) ∧
    ((early.net.reqs = [] ++ [stopped]) ∧ (([].any fun (x : ShotReq) => x.frame.port == (frameEnds 0).port &&
      x.reply.isNone) = false) ∧ ((stopped.frame.port == (frameEnds 0).port && stopped.reply.isNone) = true) ∧
      (early.replyDue stopped = some ((early.replyDue stopped).getD 0)) ∧ (early.clk.edges * 102400 + (frameEnds 0).at_
      < (early.replyDue stopped).getD 0)) ∧
    (((down [stopped]).net.reqs = [] ++ [stopped]) ∧ (([].any fun (x : ShotReq) => x.frame.port == (frameEnds 500000).port
      && x.reply.isNone) = false) ∧ ((stopped.frame.port == (frameEnds 500000).port && stopped.reply.isNone) = true) ∧
      ((down [stopped]).replyDue stopped = some (replyOf stopped)) ∧ (¬((down [stopped]).clk.edges * 102400 + (frameEnds
      500000).at_ < replyOf stopped ∨ (down [stopped]).portUp (frameEnds 500000).port = true ∧ ((down
      [stopped]).clk.edges * 102400 + (frameEnds 500000).at_ < ((down [stopped]).port (frameEnds 500000).port).txEnd ∨
      (∃ c, c < 8 ∧ (down [stopped]).pausedAt (frameEnds 500000).port c ((down [stopped]).clk.edges * 102400 +
      (frameEnds 500000).at_) = false ∧ ∃ i, i ∈ (down [stopped]).egress (frameEnds 500000).port c ∧ (stopped.tc < c ∨ c
      = stopped.tc ∧ i.at_ ≤ replyOf stopped)) ∨ (down [stopped]).pausedAt (frameEnds 500000).port stopped.tc ((down
      [stopped]).clk.edges * 102400 + (frameEnds 500000).at_) = true ∨ ((down [stopped]).net.reqs.any fun (x : ShotReq)
      => x.frame.port == (frameEnds 500000).port && x.reply.isSome) = true))) ∧ ((down [stopped]).portUp (frameEnds
      500000).port = false)) ∧
    ((asleep.net.reqs = [] ++ [stopped]) ∧ (([].any fun (x : ShotReq) => x.frame.port == (frameEnds 500000).port &&
      x.reply.isNone) = false) ∧ ((stopped.frame.port == (frameEnds 500000).port && stopped.reply.isNone) = true) ∧
      (asleep.replyDue stopped = some ((asleep.replyDue stopped).getD 0)) ∧ (¬(asleep.clk.edges * 102400 + (frameEnds
      500000).at_ < (asleep.replyDue stopped).getD 0 ∨ asleep.portUp (frameEnds 500000).port = true ∧ (asleep.clk.edges
      * 102400 + (frameEnds 500000).at_ < (asleep.port (frameEnds 500000).port).txEnd ∨ (∃ c, c < 8 ∧ asleep.pausedAt
      (frameEnds 500000).port c (asleep.clk.edges * 102400 + (frameEnds 500000).at_) = false ∧ ∃ i, i ∈ asleep.egress
      (frameEnds 500000).port c ∧ (stopped.tc < c ∨ c = stopped.tc ∧ i.at_ ≤ (asleep.replyDue stopped).getD 0)) ∨
      asleep.pausedAt (frameEnds 500000).port stopped.tc (asleep.clk.edges * 102400 + (frameEnds 500000).at_) = true ∨
      (asleep.net.reqs.any fun (x : ShotReq) => x.frame.port == (frameEnds 500000).port && x.reply.isSome) = true))) ∧
      (asleep.portUp (frameEnds 500000).port = true) ∧ ((asleep.port (frameEnds 500000).port).lpiTx = true)) ∧
    (((serves [stopped]).net.reqs = [] ++ [stopped]) ∧ (([].any fun (x : ShotReq) => x.frame.port == (frameEnds 500000).port
      && x.reply.isNone) = false) ∧ ((stopped.frame.port == (frameEnds 500000).port && stopped.reply.isNone) = true) ∧
      ((serves [stopped]).replyDue stopped = some (replyOf stopped)) ∧ (¬((serves [stopped]).clk.edges * 102400 +
      (frameEnds 500000).at_ < replyOf stopped ∨ (serves [stopped]).portUp (frameEnds 500000).port = true ∧ ((serves
      [stopped]).clk.edges * 102400 + (frameEnds 500000).at_ < ((serves [stopped]).port (frameEnds 500000).port).txEnd ∨
      (∃ c, c < 8 ∧ (serves [stopped]).pausedAt (frameEnds 500000).port c ((serves [stopped]).clk.edges * 102400 +
      (frameEnds 500000).at_) = false ∧ ∃ i, i ∈ (serves [stopped]).egress (frameEnds 500000).port c ∧ (stopped.tc < c ∨
      c = stopped.tc ∧ i.at_ ≤ replyOf stopped)) ∨ (serves [stopped]).pausedAt (frameEnds 500000).port stopped.tc
      ((serves [stopped]).clk.edges * 102400 + (frameEnds 500000).at_) = true ∨ ((serves [stopped]).net.reqs.any fun (x
      : ShotReq) => x.frame.port == (frameEnds 500000).port && x.reply.isSome) = true))) ∧ ((serves [stopped]).portUp
      (frameEnds 500000).port = true) ∧ (((serves [stopped]).port (frameEnds 500000).port).lpiTx = false)) ∧
    (((serves [sending run]).net.reqs = [] ++ [sending run]) ∧ (([].any fun (x : ShotReq) => x.frame.port == (frameEnds
      0).port && x.reply.isSome) = false) ∧ (((sending run).frame.port == (frameEnds 0).port && (sending
      run).reply.isSome) = true) ∧ ((sending run).reply = some run) ∧ ((serves [sending run]).clk.edges * 102400 +
      (frameEnds 0).at_ + txPath ((serves [sending run]).reqBt (sending run)) < run.t0 + run.entries.length * (serves
      [sending run]).replyU (sending run) * (serves [sending run]).reqBt (sending run))) ∧
    (((serves [sending run]).net.reqs = [] ++ [sending run]) ∧ (([].any fun (x : ShotReq) => x.frame.port == (frameEnds
      500000).port && x.reply.isSome) = false) ∧ (((sending run).frame.port == (frameEnds 500000).port && (sending
      run).reply.isSome) = true) ∧ ((sending run).reply = some run) ∧ ((sending run).status = 0) ∧ (run.entries.length <
      (sending run).nrec) ∧ (run.t0 + run.entries.length * (serves [sending run]).replyU (sending run) * (serves
      [sending run]).reqBt (sending run) ≤ (serves [sending run]).clk.edges * 102400 + (frameEnds 500000).at_ + txPath
      ((serves [sending run]).reqBt (sending run))) ∧ ((sending run).recs[run.entries.length]? = some scoredRec) ∧ ((if
      (Option.all (fun t => decide (run.t0 + run.entries.length * (serves [sending run]).replyU (sending run) * (serves
      [sending run]).reqBt (sending run) < t + txPath ((serves [sending run]).reqBt (sending run)))) scoredRec.scored &&
      !(sending run).cut ((serves [sending run]).layout (sending run).bank (sending run).layout) run.entries.length &&
      !scoredRec.overl) = true then (serves [sending run]).overload (sending run).frame.id run.entries.length
      cShotOverload1 ((serves [sending run]).clk.edges * 102400 + (frameEnds 500000).at_) else serves [sending run]).req
      (sending run).frame.id = some (sending run))) ∧
    (((serves [sending run]).net.reqs = [] ++ [sending run]) ∧ (([].any fun (x : ShotReq) => x.frame.port == (frameEnds
      0).port && x.reply.isSome) = false) ∧ (((sending run).frame.port == (frameEnds 0).port && (sending
      run).reply.isSome) = true) ∧ ((sending run).reply = some run) ∧ ((serves [sending run]).clk.edges * 102400 +
      (frameEnds 0).at_ < run.fcsAt)) ∧
    (((down [sending runEnds]).net.reqs = [] ++ [sending runEnds]) ∧ (([].any fun (x : ShotReq) => x.frame.port ==
      (frameEnds 500000).port && x.reply.isSome) = false) ∧ (((sending runEnds).frame.port == (frameEnds 500000).port &&
      (sending runEnds).reply.isSome) = true) ∧ ((sending runEnds).reply = some runEnds) ∧ (runEnds.fcsAt ≤ (down
      [sending runEnds]).clk.edges * 102400 + (frameEnds 500000).at_) ∧ ((sending runEnds).status = 0 → (sending
      runEnds).nrec ≤ runEnds.entries.length) ∧ ((down [sending runEnds]).portUp (frameEnds 500000).port = false)) ∧
    (((serves [sending runEnds]).net.reqs = [] ++ [sending runEnds]) ∧ (([].any fun (x : ShotReq) => x.frame.port ==
      (frameEnds 500000).port && x.reply.isSome) = false) ∧ (((sending runEnds).frame.port == (frameEnds 500000).port &&
      (sending runEnds).reply.isSome) = true) ∧ ((sending runEnds).reply = some runEnds) ∧ (runEnds.fcsAt ≤ (serves
      [sending runEnds]).clk.edges * 102400 + (frameEnds 500000).at_) ∧ ((sending runEnds).status = 0 → (sending
      runEnds).nrec ≤ runEnds.entries.length) ∧ ((serves [sending runEnds]).portUp (frameEnds 500000).port = true)) :=
  by and_intros <;> decide +kernel

end Shot

namespace Trees

def eth : State :=
  { ([(0x401001, [2#8]), (0x401201, [2#8]), (0x420101, leBytes 4 0x0000081D)].foldl (fun s e => s.dput e.1 e.2) wit) with
    net := { wit.net with ports := [(0, { up := true })] } }
def rxFrame : RxFrame :=
  { id := 4, port := 0, tick := 0, t := 100, bytes := List.replicate 200 1#8, bad := false, bank := 0, ver := 0, beats := 1 }
def rec0 : ShotRec := { arr := 0, ground := some 10, deadline := 1000, ready := some 100 }
def request (x : ShotRec) : ShotReq :=
  { frame := rxFrame, udp := true, tc := 7, lane := 0, dec := 5000, off := 42, ipAt := 14, v4 := true, declared := 100, pad := 0, f16 := false,
    model := 0, layout := 0, nrec := 1, reqId := 3, lag := 0, admitted := some 10, next := 1, recs := [x] }
def serves (x : ShotRec) : State :=
  { eth with net := { eth.net with reqs := [request x] }, clk := { eth.clk with tick := 3, edges := 3 } }
def ready : State := serves { rec0 with inBuf := true }
def readyList : List (ShotReq × Nat × ShotRec) := (ready.fillBuf 0 (3 * 102400 + 5000)).readyRecs 0
def first : ShotReq × Nat × ShotRec := readyList.getD 0 (request rec0, 0, rec0)
def group : TreeGroup := ⟨0, 100, 5, 0, 0, [(4, 0)]⟩
def formed : TreeGroup := ⟨0, 312200, ready.groupTime 0 (ready.reqModel (request rec0)), 0, 0, [(4, 0)]⟩
def walking : State :=
  { serves { rec0 with group := true } with net := { (serves { rec0 with group := true }).net with groups := [group] } }
def bankChange : State := { eth with bank := { eth.bank with mode := 1 }, dap := { eth.dap with busy := some ⟨none, []⟩ } }
def writing : State := { eth with bank := { eth.bank with mode := 2 } }
def lane : LaneOp := ⟨0, 5000⟩
def ends : TreeEndOp := ⟨0, 7000, 2, []⟩
def outcome (b : Bool) : BankEndOp := ⟨b, 1⟩
def noGroups : List TreeGroup := []
/-- A node: its feature, threshold, left child, children and flags. -/
def node (th feat lo n d : Nat) : Nat := feat + th * 2 ^ 12 + lo * 2 ^ 44 + n * 2 ^ 52 + d * 2 ^ 60
def root : Nat := node 0x40000000 0 0 1 0
def nodes : List (Nat × Byte) := (leBytes 8 root ++ leBytes 8 (node 0x3F800000 1 0 2 1)).zipIdx.map (fun e => (e.2, e.1))
def twoNodes : State := { wit with tree := nodes.filter (fun e => e.2 != 0#8) }
def feats (x y : Nat) (i : Nat) : Feature := .fp (if i = 0 then x else y)

/-- A tree of three leaves that an input leaves at leaf 2, and whose root every input with 0 goes left of. -/
theorem test_met_TreeExit : twoNodes.exitLeaf 0 3 (feats 0x40400000 0x40400000) = some 2 ∧
    twoNodes.exitLeaf 0 3 (feats 0 0) = some 0 ∧ (0x7FC00000 / 2 ^ 23 % 256 = 255 ∧ 0x7FC00000 % 2 ^ 23 ≠ 0) ∧
    root / 2 ^ 12 % 2 ^ 32 = 0x40000000 := by decide +kernel

def busyLane : State := { ready with net := { ready.net with groups := [{ group with start := 312000 }] } }
def empty : State := { eth with clk := { eth.clk with tick := 3, edges := 3 } }

theorem test_met_TreeEngine :
    (∃ g, g ∈ busyLane.net.groups ∧ g.lane = lane.lane.toNat ∧ busyLane.clk.edges * 102400 + lane.at_ < g.start + 64 * g.q)
      ∧
    ((¬∃ g, g ∈ empty.net.groups ∧ g.lane = lane.lane.toNat ∧ empty.clk.edges * 102400 + lane.at_ < g.start + 64 * g.q) ∧
      (List.filter (fun e => e.snd.snd.inBuf) ((empty.fillBuf lane.lane.toNat (empty.clk.edges * 102400 +
      lane.at_)).readyRecs lane.lane.toNat) = [])) ∧
    ((¬∃ g, g ∈ ready.net.groups ∧ g.lane = lane.lane.toNat ∧ ready.clk.edges * 102400 + lane.at_ < g.start + 64 * g.q) ∧
      (List.filter (fun e => e.snd.snd.inBuf) ((ready.fillBuf lane.lane.toNat (ready.clk.edges * 102400 +
      lane.at_)).readyRecs lane.lane.toNat) = [first])) ∧
    (∀ (g : TreeGroup), g ∈ ready.net.groups → g.lane ≠ ends.lane.toNat) ∧
    ((walking.net.groups = [] ++ [group]) ∧ (∀ (x : TreeGroup), x ∈ [] → x.lane ≠ ends.lane.toNat) ∧ (group.lane =
      ends.lane.toNat) ∧ (0 * 102400 + 0 < group.start + 64 * (group.q + 56))) ∧
    ((walking.net.groups = [] ++ [group]) ∧ (∀ (x : TreeGroup), x ∈ [] → x.lane ≠ ends.lane.toNat) ∧ (group.lane =
      ends.lane.toNat) ∧ (group.start + 64 * (group.q + 56) ≤ walking.clk.edges * 102400 + ends.at_)) ∧
    ((walking.anyReq 4 = some (request { rec0 with group := true })) ∧ ((request { rec0 with group := true }).recs[0]? =
      some { rec0 with group := true })) ∧
    (¬(6 ≤ eth.boot.state ∧ eth.boot.state < 9 ∧ Variant.t ≠ Variant.t)) ∧
    ((6 ≤ ready.boot.state ∧ ready.boot.state < 9 ∧ ready.variant ≠ Variant.t) ∧ (ready.bank.mode = 0) ∧ (ready.treeDma =
      false)) ∧
    ((6 ≤ writing.boot.state ∧ writing.boot.state < 9 ∧ writing.variant ≠ Variant.t) ∧ (writing.bank.mode ≠ 0)) ∧
    (ready.bank.mode ≠ 1) ∧
    (bankChange.bank.mode = 1) ∧
    ((bankChange.bank.mode = 1) ∧ (bankChange.dap.busy = some { work := none, items := [] }) ∧ (bankChange.dap.queue = []) ∧
      (bankChange.bankChecks (1 - bankChange.bank.active) (outcome false).flag = 0)) ∧
    ((bankChange.bank.mode = 1) ∧ (bankChange.dap.busy = some { work := none, items := [] }) ∧ (bankChange.dap.queue = []) ∧
      (bankChange.bankChecks (1 - bankChange.bank.active) (outcome true).flag ≠ 0)) :=
  by and_intros <;> decide +kernel

end Trees

namespace HostSide

def hq : EthQ := { ring := 0, tailAt := 0, entries := 64, bufKib := 2, host := true, port := 0, part := 0 }
def hqBusy : EthQ := { hq with flight := some none }
def host : State :=
  { wit with host := { wit.host with mbx := [(0, {})] }, net := { wit.net with queues := [(5, some hqBusy), (4096, some hq)] } }
def idleQ : State := { host with net := { wit.net with queues := [(5, some hq)] } }
def txOwned : State := host.dput 0x31000E (leBytes 4 (16 * 2 ^ 16))
def held (r : Bool) : State :=
  { idleQ with
    host := { host.host with
      hold := [(5, { running := true, raised := r })]
      qirq := [(5, { vector := 3, en := true, holdoff := 4 })] } }
def masked : State := { host with host := { host.host with msix := [(7, { pending := true, addr := 8#64 })] } }
def busy : State := { host with host := { host.host with mbx := [(0, { busy := true })] } }
def bell (n : Nat) : DoorbellOp := ⟨0, BitVec.ofNat 12 n⟩
def scPost : ScPostOp := ⟨0, 3, 77⟩
def scPost255 : ScPostOp := ⟨0, 255, 77⟩
def others0 : State := host.dput 0x310003 (leBytes 32 0)
def small : State := { host with variant := .s }
def watch : WatchOp := ⟨0, 1, 0x1803⟩
def hcq : HcqOp := ⟨0, 2, 0x00051003⟩
def vectorOp : VectorOp := ⟨0, 7⟩
def expiry : HoldoffOp := ⟨5⟩
def mbx : MbxOp := ⟨0⟩
/-- BAR4 in use, with bytes in T1 of partition 0. -/
def memory : State := { (wit.dput 0x310002 [1#8]) with t1 := [(0x1000, 7), (0x1003, 9)] }
def endpoint : State :=
  { memory with host := { memory.host with endpts := [(1, { up := true, bme := true, rate := 5, width := 8 })] } }
def bad : State := { memory with mem := { memory.mem with poison := [⟨⟨1, 0x1000⟩, 1, false, false, false, false⟩] } }
def clearing : State := { memory with host := { memory.host with pt := [(0, .clearing)] } }
def inFlight : State := memory.setQ 5 (some hqBusy)
def readOp (a : Nat) : Bar4ReadOp := ⟨0, a, 4, {}⟩
def writeOp (a : Nat) : Bar4WriteOp := ⟨0, a, [1, 0, 3]⟩
def queueOp : CplOp := ⟨5, false⟩
def linkTo (b : Bool) : HostLinkOp := ⟨1, 5, 16, b⟩
def reset (b : Bool) : HostResetOp := .endpoint 1 b

/-- A granule of T1 is under repair, and reads wait for it. -/
def mending : State :=
  { memory.dput 0x700001 [1#8] with mem := { memory.mem with poison := [⟨⟨1, 0x1000⟩, 3, false, true, false, false⟩] } }
def disabled : State := { host with host := { host.host with pt := [] } }
/-- Partition 1 is enabled, and has the receive queues and the cores. -/
def shared : State :=
  let s := ((host.dput 0x31000D (leBytes 4 0)).dput 0x32000D (leBytes 4 (256 * 2 ^ 16))).dput 0x310003 (leBytes 32 0)
  { s with host := { s.host with pt := [(0, .enabled), (1, .enabled)] } }
def unarmed : WatchOp := ⟨0, 1, 0x1003⟩
def beyond : WatchOp := ⟨0, 15, 0xFFFF⟩
def taken : State := { busy with dap := { busy.dap with busy := some ⟨none, []⟩ }, host := { busy.host with mbx := [(0, {})] } }
def gone : State := { held true with net := { wit.net with queues := [] } }
def hostOnly : EthQ := { hq with host := false }
def deviceRing : State := { host with net := { wit.net with queues := [(5, some hostOnly)] } }

/-- PERST of port 0 asserted; partition 0 disabled, its BAR4 still there; enabled by the dictionary's word. -/
def perst : State := { endpoint with host := { endpoint.host with perst := 1 } }
def closedPart : State := { memory with host := { memory.host with pt := [] } }
def emptying : State := { clearing with host := { clearing.host with zones := [(0, [.chan 0])] },
                                        chans := [(0, { ({} : Chan) with mode := .running })] }
/-- A queue in host memory, of a partition whose endpoint is reset. -/
def hqHost : EthQ := { hq with host := true, part := 0 }
def hostQueue : State := endpoint.setQ 5 (some hqHost)
def txQueue : State := memory.setQ 4096 (some hq)

theorem test_met_HostMemory :
    (Tab.wf none hostQueue.net.queues = true ∧ hostQueue.ethQ 5 = some hqHost ∧ hqHost.host = true ∧ hostQueue.boundPart 1 =
      some hqHost.part) ∧
    (Tab.wf none hostQueue.net.queues = true ∧ hostQueue.ethQ 6 = none) ∧
    (((writeOp 4097).part = (readOp 4093).part) ∧ (¬(0 < (readOp 4093).len ∧ (readOp 4093).off % 4096 + (readOp 4093).len ≤
      4096))) ∧
    (((writeOp 8190).part = (readOp 4096).part) ∧ (¬(0 < (writeOp 8190).bytes.length ∧ (writeOp 8190).off % 4096 + (writeOp
      8190).bytes.length ≤ 4096))) ∧
    (((writeOp 4097).part = (readOp 4096).part) ∧ (closedPart.ptEnabled (readOp 4096).part.toNat = false)) ∧
    (((writeOp 4097).part = (readOp 4096).part) ∧ (0 < (readOp 4096).len ∧ (readOp 4096).off % 4096 + (readOp 4096).len ≤
      4096) ∧ (closedPart.ptEnabled (readOp 4096).part.toNat = false)) ∧
    (((writeOp 4097).part = (readOp 4096).part) ∧ (0 < (readOp 4096).len ∧ (readOp 4096).off % 4096 + (readOp 4096).len ≤
      4096) ∧ (mending.ptEnabled (readOp 4096).part.toNat = true) ∧ ((readOp 4096).off + (readOp 4096).len ≤
      (mending.ptT1 (readOp 4096).part.toNat).snd) ∧ ((mending.noteEcc 1 (readOp 4096).ecc false).mustWait 1
      ((mending.ptT1 (readOp 4096).part.toNat).fst + (readOp 4096).off) (readOp 4096).len = true)) ∧
    (((writeOp 4097).part = (readOp 4096).part) ∧ (0 < (readOp 4096).len ∧ (readOp 4096).off % 4096 + (readOp 4096).len ≤
      4096) ∧ (memory.ptEnabled (readOp 4096).part.toNat = true) ∧ ((readOp 4096).off + (readOp 4096).len ≤ (memory.ptT1
      (readOp 4096).part.toNat).snd) ∧ ((memory.noteEcc 1 (readOp 4096).ecc false).mustWait 1 ((memory.ptT1 (readOp
      4096).part.toNat).fst + (readOp 4096).off) (readOp 4096).len = false)) ∧
    (((writeOp 4097).part = (readOp 4096).part) ∧ (0 < (readOp 4096).len ∧ (readOp 4096).off % 4096 + (readOp 4096).len ≤
      4096) ∧ (bad.ptEnabled (readOp 4096).part.toNat = true) ∧ ((readOp 4096).off + (readOp 4096).len ≤ (bad.ptT1
      (readOp 4096).part.toNat).snd) ∧ ((bad.noteEcc 1 (readOp 4096).ecc false).mustWait 1 ((bad.ptT1 (readOp
      4096).part.toNat).fst + (readOp 4096).off) (readOp 4096).len = false)) ∧
    (((writeOp 4097).part = (readOp 1073741824).part) ∧ (0 < (readOp 1073741824).len ∧ (readOp 1073741824).off % 4096 +
      (readOp 1073741824).len ≤ 4096) ∧ (memory.ptEnabled (readOp 1073741824).part.toNat = true) ∧ ((memory.ptT1 (readOp
      1073741824).part.toNat).snd < (readOp 1073741824).off + (readOp 1073741824).len)) ∧
    (((writeOp 4097).part = (readOp 4096).part) ∧ (0 < (writeOp 4097).bytes.length ∧ (writeOp 4097).off % 4096 + (writeOp
      4097).bytes.length ≤ 4096) ∧ (memory.ptEnabled (readOp 4096).part.toNat = true) ∧ ((writeOp 4097).off + (writeOp
      4097).bytes.length ≤ (memory.ptT1 (readOp 4096).part.toNat).snd)) ∧
    (((writeOp 4097).part = (readOp 4096).part) ∧ (0 < (writeOp 4097).bytes.length ∧ (writeOp 4097).off % 4096 + (writeOp
      4097).bytes.length ≤ 4096) ∧ (memory.ptEnabled (readOp 4096).part.toNat = true) ∧ ((writeOp 4097).off + (writeOp
      4097).bytes.length ≤ (memory.ptT1 (readOp 4096).part.toNat).snd) ∧ (memory.memOk = true) ∧ (memory.mem.poison =
      [])) ∧
    (((writeOp 1073741824).part = (readOp 4096).part) ∧ (0 < (writeOp 1073741824).bytes.length ∧ (writeOp 1073741824).off %
      4096 + (writeOp 1073741824).bytes.length ≤ 4096) ∧ (memory.ptEnabled (readOp 4096).part.toNat = true) ∧
      ((memory.ptT1 (readOp 4096).part.toNat).snd < (writeOp 1073741824).off + (writeOp 1073741824).bytes.length)) ∧
    ({ memory with variant := Variant.s }.endpointOk (7) = false) ∧
    ((endpoint.endpointOk (1) = true) ∧ (Tab.wf { } endpoint.host.endpts = true)) ∧
    (endpoint.boundPart 1 = some 0) ∧
    (endpoint.boundPart 2 = none) ∧
    (perst.host.perst / 2 ^ 0 % 2 = 1) ∧
    (¬endpoint.host.perst / 2 ^ 0 % 2 = 1) ∧
    ((¬endpoint.host.perst / 2 ^ 1 % 2 = 1) ∧ (Tab.wf { } endpoint.host.endpts = true)) ∧
    (¬(memory.endpointOk (1) = true ∧ ¬memory.host.perst / 2 ^ ((1 - 1) / 2) % 2 = 1 ∧ memory.linkFits (1) (9) (16) = true))
      ∧
    ((wit.endpointOk (linkTo true).ep.toNat = true ∧ ¬wit.host.perst / 2 ^ (((linkTo true).ep.toNat - 1) / 2) % 2 = 1 ∧
      wit.linkFits (linkTo true).ep.toNat (BitVec.toNat (linkTo true).rate) (BitVec.toNat (linkTo true).width) = true) ∧
      (wit.boundPart (linkTo true).ep.toNat = none)) ∧
    ((memory.endpointOk (linkTo true).ep.toNat = true ∧ ¬memory.host.perst / 2 ^ (((linkTo true).ep.toNat - 1) / 2) % 2 = 1
      ∧ memory.linkFits (linkTo true).ep.toNat (BitVec.toNat (linkTo true).rate) (BitVec.toNat (linkTo true).width) =
      true) ∧ (memory.boundPart (linkTo true).ep.toNat = some 0)) ∧
    (memory.ethQ queueOp.queue = none) ∧
    (((memory.setQ 5 (some hq)).ethQ queueOp.queue = some hq) ∧ (¬(hq.host = true ∧ if queueOp.buffer = true then 4096 ≤
      queueOp.queue else hq.flight.isSome = true))) ∧
    ((txQueue.ethQ 4096 = some hq) ∧ (hq.host = true ∧ if true = true then 4096 ≤ 4096 else hq.flight.isSome = true) ∧ (true
      = true)) ∧
    ((inFlight.ethQ queueOp.queue = some hqBusy) ∧ (hqBusy.host = true ∧ if queueOp.buffer = true then 4096 ≤ queueOp.queue
      else hqBusy.flight.isSome = true) ∧ (queueOp.buffer = false)) ∧
    (memory.ptState (0) ≠ PtState.clearing) ∧
    ((Zone.chan 0 ∈ Tab.get [] emptying.host.zones (0)) ∧ ((emptying.chan 0).mode ≠ ChanMode.idle)) ∧
    (clearing.ptState (0) = PtState.clearing) ∧
    ((0 < 4) ∧ (Tab.wf none closedPart.dict = true) ∧ (Tab.wf PtState.disabled closedPart.host.pt = true) ∧
      (closedPart.running = true) ∧ (closedPart.dnum (ptKey 0 1) = 0)) ∧
    ((0 < 4) ∧ (Tab.wf none memory.dict = true) ∧ (Tab.wf PtState.disabled memory.host.pt = true) ∧ (memory.ptEnabled 0 =
      true) ∧ (Tab.wf [] memory.host.zones = true) ∧ (memory.memOk = true)) :=
  by and_intros <;> decide +kernel

/-- Of the zones of a partition to clear, none is a channel at work. -/
theorem test_met_HostMemory_clear : ¬∃ ch, Zone.chan ch ∈ Tab.get [] clearing.host.zones 0 ∧ (clearing.chan ch).mode ≠ .idle := by
  rintro ⟨ch, h, _⟩
  have e : Tab.get [] clearing.host.zones 0 = [] := by decide +kernel
  rw [e] at h
  cases h

/-- Source 5's held message, whose vector is its own and unmasked; a message that waited for source 5 while its vector was masked. -/
def coalesced : State := { held true with host := { (held true).host with
  msix := [(3, { masked := false })], hold := [(5, { running := true, raised := true, vec := 3 }), (6, { running := true, raised := true, vec := 3 })] } }
def maskedWaits : State := { masked with host := { masked.host with msix := [(7, { pending := true, waits := [(5, 4)] })] } }

theorem test_met_HostCommands :
    ((disabled.ptEnabled (bell 5).part.toNat = false) ∧ (scPost.part = (bell 5).part) ∧ (watch.part = (bell 5).part) ∧
      (hcq.part = (bell 5).part) ∧ (vectorOp.part = (bell 5).part) ∧ (Instr.qRxDoorbell (bell 5) ∈ [Instr.qRxDoorbell
      (bell 5), Instr.qTxDoorbell (bell 5), Instr.scPost scPost, Instr.fenceWatchArm watch, Instr.hcqEnable hcq,
      Instr.msixUnmask vectorOp])) ∧
    ((disabled.ptEnabled (bell 5).part.toNat = false) ∧ (scPost.part = (bell 5).part) ∧ (watch.part = (bell 5).part) ∧
      (hcq.part = (bell 5).part) ∧ (vectorOp.part = (bell 5).part) ∧ (Instr.msixUnmask vectorOp ∈ [Instr.qRxDoorbell
      (bell 5), Instr.qTxDoorbell (bell 5), Instr.scPost scPost, Instr.fenceWatchArm watch, Instr.hcqEnable hcq,
      Instr.msixUnmask vectorOp])) ∧
    ((host.ptEnabled (bell 6).part.toNat = true) ∧ ((Instr.qRxDoorbell (bell 6), 6, 96) ∈ [(Instr.qRxDoorbell (bell 6),
      (bell 6).queue.toNat, 16 * (bell 6).queue.toNat), (Instr.qTxDoorbell (bell 6), 4096 + (bell 6).queue.toNat % 1024,
      65536 + 16 * (4096 + (bell 6).queue.toNat % 1024 - 4096))]) ∧ (host.queueIn (bell 6).part.toNat 6 = true) ∧
      (host.ethQ 6 = none)) ∧
    ((host.ptEnabled (bell 5).part.toNat = true) ∧ ((Instr.qRxDoorbell (bell 5), 5, 80) ∈ [(Instr.qRxDoorbell (bell 5),
      (bell 5).queue.toNat, 16 * (bell 5).queue.toNat), (Instr.qTxDoorbell (bell 5), 4096 + (bell 5).queue.toNat % 1024,
      65536 + 16 * (4096 + (bell 5).queue.toNat % 1024 - 4096))]) ∧ (host.queueIn (bell 5).part.toNat 5 = true) ∧
      (host.ethQ 5 = some hqBusy) ∧ (hqBusy.flight.isSome = true)) ∧
    ((idleQ.ptEnabled (bell 5).part.toNat = true) ∧ ((Instr.qRxDoorbell (bell 5), 5, 80) ∈ [(Instr.qRxDoorbell (bell 5),
      (bell 5).queue.toNat, 16 * (bell 5).queue.toNat), (Instr.qTxDoorbell (bell 5), 4096 + (bell 5).queue.toNat % 1024,
      65536 + 16 * (4096 + (bell 5).queue.toNat % 1024 - 4096))]) ∧ (idleQ.queueIn (bell 5).part.toNat 5 = true) ∧
      (idleQ.ethQ 5 = some hq) ∧ (hq.flight = none) ∧ (hq.host = true)) ∧
    ((txOwned.ptEnabled (bell 1024).part.toNat = true) ∧ ((Instr.qTxDoorbell (bell 1024), 4096, 65536) ∈ [(Instr.qRxDoorbell
      (bell 1024), (bell 1024).queue.toNat, 16 * (bell 1024).queue.toNat), (Instr.qTxDoorbell (bell 1024), 4096 + (bell
      1024).queue.toNat % 1024, 65536 + 16 * (4096 + (bell 1024).queue.toNat % 1024 - 4096))]) ∧ (txOwned.queueIn (bell
      1024).part.toNat 4096 = true) ∧ (txOwned.ethQ 4096 = some hq) ∧ (hq.flight = none) ∧ (hq.host = true)) ∧
    ((deviceRing.ptEnabled (bell 5).part.toNat = true) ∧ ((Instr.qRxDoorbell (bell 5), 5, 80) ∈ [(Instr.qRxDoorbell (bell
      5), (bell 5).queue.toNat, 16 * (bell 5).queue.toNat), (Instr.qTxDoorbell (bell 5), 4096 + (bell 5).queue.toNat %
      1024, 65536 + 16 * (4096 + (bell 5).queue.toNat % 1024 - 4096))]) ∧ (deviceRing.queueIn (bell 5).part.toNat 5 =
      true) ∧ (deviceRing.ethQ 5 = some hostOnly) ∧ (hostOnly.flight = none) ∧ (hostOnly.host = false)) ∧
    ((shared.ptEnabled (bell 5).part.toNat = true) ∧ ((Instr.qRxDoorbell (bell 5), 5, 80) ∈ [(Instr.qRxDoorbell (bell 5),
      (bell 5).queue.toNat, 16 * (bell 5).queue.toNat), (Instr.qTxDoorbell (bell 5), 4096 + (bell 5).queue.toNat % 1024,
      65536 + 16 * (4096 + (bell 5).queue.toNat % 1024 - 4096))]) ∧ (shared.queueIn (bell 5).part.toNat 5 = false) ∧ (∃
      m, m < 4 ∧ shared.ptEnabled m = true ∧ shared.queueIn m 5 = true)) ∧
    ((idleQ.ptEnabled (bell 4095).part.toNat = true) ∧ ((Instr.qRxDoorbell (bell 4095), 4095, 65520) ∈ [(Instr.qRxDoorbell
      (bell 4095), (bell 4095).queue.toNat, 16 * (bell 4095).queue.toNat), (Instr.qTxDoorbell (bell 4095), 4096 + (bell
      4095).queue.toNat % 1024, 65536 + 16 * (4096 + (bell 4095).queue.toNat % 1024 - 4096))]) ∧ (idleQ.queueIn (bell
      4095).part.toNat 4095 = false) ∧ (¬∃ m, m < 4 ∧ idleQ.ptEnabled m = true ∧ idleQ.queueIn m 4095 = true)) ∧
    ((idleQ.ptEnabled scPost.part.toNat = true) ∧ (watch.part = scPost.part) ∧ (hcq.part = scPost.part) ∧ (idleQ.coreOk
      scPost.core.toNat = true) ∧ (idleQ.coreOwner scPost.core.toNat = some scPost.part.toNat)) ∧
    ((others0.ptEnabled scPost.part.toNat = true) ∧ (watch.part = scPost.part) ∧ (hcq.part = scPost.part) ∧ (others0.coreOk
      scPost.core.toNat = true) ∧ (others0.coreOwner scPost.core.toNat ≠ some scPost.part.toNat)) ∧
    ((small.ptEnabled scPost255.part.toNat = true) ∧ (watch.part = scPost255.part) ∧ (hcq.part = scPost255.part) ∧
      (small.coreOk scPost255.core.toNat = false)) ∧
    (((wit.dput 3211276 (leBytes 4 0)).ptEnabled scPost.part.toNat = true) ∧ (beyond.part = scPost.part) ∧ (hcq.part =
      scPost.part) ∧ (BitVec.toNat beyond.ctrl / 2048 % 2 = 1) ∧ (¬(inRange ((wit.dput 3211276 (leBytes 4 0)).ptRange
      scPost.part.toNat 12) (BitVec.toNat beyond.ctrl % 1024) = true ∧ BitVec.toNat beyond.ctrl / 1024 % 2 < (wit.dput
      3211276 (leBytes 4 0)).variant.tiles))) ∧
    ((idleQ.ptEnabled scPost.part.toNat = true) ∧ (watch.part = scPost.part) ∧ (hcq.part = scPost.part) ∧ (inRange
      (idleQ.ptRange scPost.part.toNat 12) (BitVec.toNat watch.ctrl % 1024) = true ∧ BitVec.toNat watch.ctrl / 1024 % 2
      < idleQ.variant.tiles)) ∧
    ((idleQ.ptEnabled scPost.part.toNat = true) ∧ (unarmed.part = scPost.part) ∧ (hcq.part = scPost.part) ∧ (¬BitVec.toNat
      unarmed.ctrl / 2048 % 2 = 1)) ∧
    ((masked.ptEnabled vectorOp.part.toNat = true) ∧ (Tab.wf { } masked.host.msix = true)) ∧
    ((Tab.get { } maskedWaits.host.msix 7).pending = true ∧ Tab.wf { } maskedWaits.host.hold = true ∧ (5, 4) ∈ (Tab.get { }
      maskedWaits.host.msix 7).waits) ∧
    ((Tab.get { } idleQ.host.hold expiry.source).running = false) ∧
    (((Tab.get { } (held false).host.hold expiry.source).running = true) ∧ ((Tab.get { } (held false).host.hold
      expiry.source).raised = false)) ∧
    (((Tab.get { } (held true).host.hold expiry.source).running = true) ∧ ((Tab.get { } (held true).host.hold
      expiry.source).raised = true) ∧ ((held true).intSource expiry.source = some (0, 3, 4, true))) ∧
    (((Tab.get { } gone.host.hold expiry.source).running = true) ∧ (gone.intSource expiry.source = none)) ∧
    (((Tab.get { } coalesced.host.hold expiry.source).running = true) ∧ ((Tab.get { } coalesced.host.hold
      expiry.source).raised = true) ∧ (coalesced.intSource expiry.source = some (0, 3, 4, true)) ∧ ((Tab.get { }
      coalesced.host.msix (2048 * 0 + 3 % 2048)).masked = false) ∧ (Tab.wf { } coalesced.host.hold = true)) ∧
    (disabled.mbxLive mbx.who.toNat = false) ∧
    ((busy.mbxLive mbx.who.toNat = true) ∧ ((Tab.get { } busy.host.mbx mbx.who.toNat).busy = true)) ∧
    ((idleQ.mbxLive mbx.who.toNat = true) ∧ ((Tab.get { } idleQ.host.mbx mbx.who.toNat).busy = false) ∧ (idleQ.mcBusy =
      false)) ∧
    ((taken.mbxLive mbx.who.toNat = true) ∧ ((Tab.get { } taken.host.mbx mbx.who.toNat).busy = false) ∧ (taken.mcBusy =
      true)) :=
  by and_intros <;> decide +kernel

end HostSide

namespace Dap

def framed (b : List Byte) : List Byte := let f := padFrame b; f ++ fcsOf f
def macs : List Byte := List.replicate 6 0xFF#8 ++ List.replicate 6 2#8
/-- A frame for UDP port 6409 of this module. -/
def dgram (m : List Byte) : List Byte :=
  let udp := beBytes 2 1000 ++ beBytes 2 (wit.dnum 0xA00001) ++ beBytes 2 (8 + m.length) ++ beBytes 2 0 ++ m
  let h := fun c : Nat => [0x45, 0] ++ beBytes 2 (20 + udp.length) ++ beBytes 2 77 ++ beBytes 2 0x4000 ++ [64, 17] ++
    beBytes 2 c ++ [10, 0, 0, 1] ++ [10, 0, 0, 2]
  framed (macs ++ [0x08, 0x00] ++ h (65535 - sum16 (h 0)) ++ udp)
/-- A DAP message for index 0x1000, subindex 1, with an authentication field. -/
def message (op key auth : Nat) : List Byte :=
  let m := [1#8] ++ beBytes 1 op ++ [0#8, 0#8] ++ beBytes 2 key ++ beBytes 2 0 ++ beBytes 8 5 ++ beBytes 2 0x1000 ++
    [1#8] ++ List.replicate 13 0#8
  m ++ beBytes 16 auth
/-- MG is UP and key slot 0 holds KEY_ID 7. -/
def mg : State :=
  { ((wit.dput 0x4201C1 (leBytes 4 1)).dput 0xA10001 (leBytes 2 7 ++ [1#8] ++ List.replicate 13 0#8)) with
    net := { wit.net with ports := [(192, { up := true })] } }
def busy : State := { mg with dap := { mg.dap with busy := some ⟨none, []⟩ } }
def marked : State := { mg with dap := { mg.dap with marks := [(0, (6, 0))] } }
/-- A data port in Ethernet, without DAP_INBAND. -/
def inband : State :=
  let es := [(0x401001, [2#8]), (0x401201, [2#8]), (0x420101, leBytes 4 0x0000081D), (0xA00002, [0#8])]
  { es.foldl (fun s e => s.dput e.1 e.2) mg with
    net := { mg.net with ports := [(0, { up := true })] } }
def read : List Byte := message 1 7 0x5A0A90E1D6FB6011C92A72A8194209E1
def dap (port : Nat) (m : List Byte) : DapOp := ⟨port, 0, 3, dgram m⟩
def parsed (s : State) (m : List Byte) : Parsed × List Byte := (s.dapMessage 192 (dgram m)).getD ({}, [])
def who : Who := ⟨2, 7, none, none, none, 0, 0, 0⟩
def req (op key : Nat) : Req :=
  { op := op, key := key, dtype := 0, staged := false, last := true, offset := 0, total := 0, value := [] }
def entry : EntryRow := (entryInfo 0x100001).getD ⟨0, 0, 0, 0, 0, 0, 0, 0, 0, false⟩
def entry2 : EntryRow := (entryInfo 0x310001).getD entry
def run : CommitRun := ⟨none, []⟩

/-- The MAC has handed a frame of DAP to the controller. -/
def heard (s : State) (m : List Byte) : State := { s with net := { s.net with toMc := [(0, 3, dgram m)] } }
def msgs (n : Nat) : List DapWork := List.replicate n (.msg 192 3 [])
def fullQueue : State := { mg with dap := { mg.dap with busy := some ⟨none, []⟩, queue := msgs 32 } }
def stopping : State := { mg with boot := { mg.boot with state := 3 } }
def write : List Byte := message 2 7 0
/-- Holders of the write role, a partition's credential and a mailbox. -/
def tenant : Who := ⟨4, 7, some 0, none, none, 0, 0, 0⟩
def mailbox : Who := ⟨1, 7, none, some 1, some 1, 0, 0, 0⟩

/-- A signed READ of the first counter of group 0x9200; its digest is that of FIPS 198-1 under the slot's key. -/
def counterRead : List Byte :=
  [1#8] ++ beBytes 1 1 ++ [0#8, 0#8] ++ beBytes 2 7 ++ beBytes 2 0 ++ beBytes 8 5 ++ beBytes 2 0x9200 ++ [1#8] ++
    List.replicate 13 0#8 ++ beBytes 16 0x43B95ADD51E9AFFB2E521D15AEF6F65C
/-- KEY_ID 7's last request was the READ, with its answer. -/
def repeats : State := { mg with dap := { mg.dap with marks := [(0, (5, 0))], prev := [(0, some (read, [1#8]))] } }
/-- A failed signature was reported at tick 0, and 1,023 tick edges have passed. -/
def justReported : State := { mg with evLast := [(0xA001 * 65536, 1)], clk := { mg.clk with edges := 1023 } }
def setting (op key ty : Nat) (v : List Byte) : Req := { req op key with dtype := ty, value := v, total := v.length }
def rowOf (k : Nat) : EntryRow := (entryInfo k).getD entry
/-- KEY_ID 7 has staged a value. -/
def holding (k : Nat) (v : List Byte) : State :=
  { mg with dap := { mg.dap with reqs := [(7, { items := [(k, some v)] })] } }
/-- What a commit of it checks, and what of it is live. -/
def emptied (k : Nat) (v : List Byte) : State := (holding k v).setOwn who { (holding k v).own who with items := [] }

set_option maxRecDepth 100000 in
theorem test_met_DapRequests :
    (¬((dap 0 read).port = 192 ∨ ((dap 0 read).port, (dap 0 read).tc.toNat, (dap 0 read).bytes) ∈ inband.net.toMc)) ∧
    ((192 = 192) ∧ (mg.dapMessage 192 [1] = none)) ∧
    (((dap 192 write).port = 192) ∧ (mg.dapMessage (dap 192 write).port (dap 192 write).bytes = some ((parsed mg write).fst,
      write)) ∧ ((if 1 ≤ beAt write 1 1 ∧ beAt write 1 1 ≤ 6 then beAt write 1 1 else 7) ≠ 1)) ∧
    (((dap 192 read).port = 192) ∧ (stopping.dapMessage (dap 192 read).port (dap 192 read).bytes = some ((parsed mg
      read).fst, read)) ∧ ((if 1 ≤ beAt read 1 1 ∧ beAt read 1 1 ≤ 6 then beAt read 1 1 else 7) = 1) ∧ (¬(6 ≤
      stopping.boot.state ∧ stopping.boot.state ≤ 9))) ∧
    ((((dap 0 read).port, (dap 0 read).tc.toNat, (dap 0 read).bytes) ∈ (heard inband read).net.toMc) ∧ ((heard inband
      read).dapMessage (dap 0 read).port (dap 0 read).bytes = some ((((heard inband read).dapMessage 0 (dgram
      read)).getD ({ }, [])).fst, read)) ∧ ((if 1 ≤ beAt read 1 1 ∧ beAt read 1 1 ≤ 6 then beAt read 1 1 else 7) = 1) ∧
      (6 ≤ (heard inband read).boot.state ∧ (heard inband read).boot.state ≤ 9) ∧ (¬((dap 0 read).port = 192 ∨ (heard
      inband read).dnum 10485762 = 1))) ∧
    (((dap 192 read).port = 192) ∧ (mg.dapMessage (dap 192 read).port (dap 192 read).bytes = some ((parsed mg read).fst,
      read)) ∧ ((if 1 ≤ beAt read 1 1 ∧ beAt read 1 1 ≤ 6 then beAt read 1 1 else 7) = 1) ∧ (6 ≤ mg.boot.state ∧
      mg.boot.state ≤ 9) ∧ ((dap 192 read).port = 192 ∨ mg.dnum 10485762 = 1) ∧ (mg.mcBusy = false)) ∧
    (((dap 192 read).port = 192) ∧ (fullQueue.dapMessage (dap 192 read).port (dap 192 read).bytes = some ((parsed mg
      read).fst, read)) ∧ ((if 1 ≤ beAt read 1 1 ∧ beAt read 1 1 ≤ 6 then beAt read 1 1 else 7) = 1) ∧ (6 ≤
      fullQueue.boot.state ∧ fullQueue.boot.state ≤ 9) ∧ ((dap 192 read).port = 192 ∨ fullQueue.dnum 10485762 = 1) ∧
      (fullQueue.mcBusy = true) ∧ (32 ≤ ((List.filter (fun x => x.isMsg) fullQueue.dap.queue).length + if Option.any
      (fun c => Option.any (fun x => x.isMsg) c.work) fullQueue.dap.busy = true then 1 else 0) + if Option.any (fun x =>
      x.isMsg) fullQueue.dap.sample = true then 1 else 0)) ∧
    (((dap 192 read).port = 192) ∧ (busy.dapMessage (dap 192 read).port (dap 192 read).bytes = some ((parsed mg read).fst,
      read)) ∧ ((if 1 ≤ beAt read 1 1 ∧ beAt read 1 1 ≤ 6 then beAt read 1 1 else 7) = 1) ∧ (6 ≤ busy.boot.state ∧
      busy.boot.state ≤ 9) ∧ ((dap 192 read).port = 192 ∨ busy.dnum 10485762 = 1) ∧ (busy.mcBusy = true) ∧
      ((((List.filter (fun x => x.isMsg) busy.dap.queue).length + if Option.any (fun c => Option.any (fun x => x.isMsg)
      c.work) busy.dap.busy = true then 1 else 0) + if Option.any (fun x => x.isMsg) busy.dap.sample = true then 1 else
      0) < 32)) ∧
    ((mg.dapHeld (dgram (List.drop 1 read)) = some ((parsed mg (List.drop 1 read)).fst, List.drop 1 read)) ∧ (Tab.wf 0
      mg.ctr = true) ∧ (¬(48 ≤ (List.drop 1 read).length ∧ beAt (List.drop 1 read) 20 2 ≤ 1024 ∧ (List.drop 1
      read).length = 48 + beAt (List.drop 1 read) 20 2 ∧ beAt (List.drop 1 read) 0 1 = 1))) ∧
    ((mg.dapHeld (dgram (message 1 9 0)) = some ((parsed mg (message 1 9 0)).fst, message 1 9 0)) ∧ (Tab.wf 0 mg.ctr = true)
      ∧ (48 ≤ (message 1 9 0).length ∧ beAt (message 1 9 0) 20 2 ≤ 1024 ∧ (message 1 9 0).length = 48 + beAt (message 1
      9 0) 20 2 ∧ beAt (message 1 9 0) 0 1 = 1) ∧ (mg.credSlot (beAt (message 1 9 0) 4 2) = none)) ∧
    ((mg.dapHeld (dgram (message 1 7 0)) = some ((parsed mg (message 1 7 0)).fst, message 1 7 0)) ∧ (Tab.wf 0 mg.ctr = true)
      ∧ (48 ≤ (message 1 7 0).length ∧ beAt (message 1 7 0) 20 2 ≤ 1024 ∧ (message 1 7 0).length = 48 + beAt (message 1
      7 0) 20 2 ∧ beAt (message 1 7 0) 0 1 = 1) ∧ (mg.credSlot (beAt (message 1 7 0) 4 2) = some 0) ∧ (¬List.take 16
      (hmacSha256 (mg.credKey 0) (List.take (32 + beAt (message 1 7 0) 20 2) (message 1 7 0))) = List.drop (32 + beAt
      (message 1 7 0) 20 2) (message 1 7 0))) ∧
    (Tab.get 0 mg.evLast (40961 * 65536) = 0 ∧ Tab.wf 0 mg.evLast = true) ∧
    (¬(Tab.get 0 justReported.evLast (40961 * 65536) = 0 ∨ Tab.get 0 justReported.evLast (40961 * 65536) + 1024 ≤
      justReported.clk.edges + 1)) ∧
    ((repeats.dapHeld (dgram read) = some ((parsed repeats read).fst, read)) ∧ (Tab.wf 0 repeats.ctr = true) ∧ (48 ≤
      read.length ∧ beAt read 20 2 ≤ 1024 ∧ read.length = 48 + beAt read 20 2 ∧ beAt read 0 1 = 1) ∧ (repeats.credSlot
      (beAt read 4 2) = some 0) ∧ (List.take 16 (hmacSha256 (repeats.credKey 0) (List.take (32 + beAt read 20 2) read))
      = List.drop (32 + beAt read 20 2) read) ∧ (beAt read 8 8 = (Tab.get (0, 0) repeats.dap.marks 0).fst) ∧ (Tab.get
      none repeats.dap.prev 0 = some (read, [1#8]))) ∧
    ((marked.dapHeld (dgram read) = some ((parsed marked read).fst, read)) ∧ (Tab.wf 0 marked.ctr = true) ∧ (48 ≤
      read.length ∧ beAt read 20 2 ≤ 1024 ∧ read.length = 48 + beAt read 20 2 ∧ beAt read 0 1 = 1) ∧ (marked.credSlot
      (beAt read 4 2) = some 0) ∧ (List.take 16 (hmacSha256 (marked.credKey 0) (List.take (32 + beAt read 20 2) read)) =
      List.drop (32 + beAt read 20 2) read) ∧ (beAt read 8 8 ≤ (Tab.get (0, 0) marked.dap.marks 0).fst) ∧ (Tab.get none
      marked.dap.prev 0 = none)) ∧
    ((entryInfo (req 1 9568257).key = some (rowOf 9568257)) ∧ ((req 1 9568257).op = 1) ∧ ((req 1 9568257).value = []) ∧
      ((req 1 9568257).offset = 0) ∧ ((req 1 9568257).staged = false) ∧ (mg.sampled who (req 1 9568257) = true)) ∧
    ((entryInfo (req 1 1048577).key = some (rowOf 1048577)) ∧ ((req 1 1048577).op = 1) ∧ ((req 1 1048577).value = []) ∧
      ((req 1 1048577).offset = 0) ∧ ((req 1 1048577).staged = false) ∧ (mg.sampled who (req 1 1048577) = false)) ∧
    ((entryInfo (req 2 3211265).key = some (rowOf 3211265)) ∧ ((req 2 3211265).op = 2) ∧ (mg.mayWrite mailbox (req 2
      3211265).key = false) ∧ (mailbox.viol = some 1)) ∧
    ((entryInfo (req 3 1048577).key = some (rowOf 1048577)) ∧ ((req 3 1048577).op = 3) ∧ (mg.mayWrite tenant (req 3
      1048577).key = false) ∧ (tenant.viol = none) ∧ (ptResource (req 3 1048577).key = false)) ∧
    ((entryInfo (req 2 3211265).key = some (rowOf 3211265)) ∧ ((req 2 3211265).op = 2) ∧ (mg.mayWrite who (req 2
      3211265).key = false) ∧ (who.viol = none) ∧ (ptResource (req 2 3211265).key = true) ∧ (who.part = none) ∧ (partOf
      (req 2 3211265).key = some 0)) ∧
    ((entryInfo (req 2 3211265).key = some (rowOf 3211265)) ∧ ((req 2 3211265).op = 2) ∧ (mg.mayWrite tenant (req 2
      3211265).key = false) ∧ (tenant.viol = none) ∧ (ptResource (req 2 3211265).key = true) ∧ (tenant.part = some 0)) ∧
    ((entryInfo (setting 2 9765105 4 (leBytes 4 5)).key = some (rowOf 9765105)) ∧ ((setting 2 9765105 4 (leBytes 4 5)).op =
      2) ∧ (mg.mayWrite who (setting 2 9765105 4 (leBytes 4 5)).key = true) ∧ (mg.boot.state = 9 → faultWrite (setting 2
      9765105 4 (leBytes 4 5)).key = true) ∧ (mg.entryAbsent (setting 2 9765105 4 (leBytes 4 5)).key = false) ∧ ((rowOf
      9765105).acc = 3) ∧ ((setting 2 9765105 4 (leBytes 4 5)).dtype = (rowOf 9765105).ty) ∧ ((setting 2 9765105 4
      (leBytes 4 5)).offset = 0 ∧ (setting 2 9765105 4 (leBytes 4 5)).total = (setting 2 9765105 4 (leBytes 4
      5)).value.length ∧ (setting 2 9765105 4 (leBytes 4 5)).last = true ∧ (rowOf 9765105).lenOk (setting 2 9765105 4
      (leBytes 4 5)).value.length = true) ∧ ((setting 2 9765105 4 (leBytes 4 5)).key ≠ 2097154) ∧ ((setting 2 9765105 4
      (leBytes 4 5)).key ≠ 2097158) ∧ ((setting 2 9765105 4 (leBytes 4 5)).key ≠ 2097159)) ∧
    ((entryInfo (setting 3 8388611 3 (leBytes 2 1000)).key = some (rowOf 8388611)) ∧ ((setting 3 8388611 3 (leBytes 2
      1000)).op = 3) ∧ (mg.mayWrite who (setting 3 8388611 3 (leBytes 2 1000)).key = true) ∧ (mg.boot.state ≠ 9) ∧
      (lacks mg.variant (setting 3 8388611 3 (leBytes 2 1000)).key = false) ∧ (3 ≤ (rowOf 8388611).acc) ∧ ((rowOf
      8388611).acc ≤ 6) ∧ ((setting 3 8388611 3 (leBytes 2 1000)).dtype = (rowOf 8388611).ty) ∧ ((setting 3 8388611 3
      (leBytes 2 1000)).offset = 0 ∧ (setting 3 8388611 3 (leBytes 2 1000)).total = (setting 3 8388611 3 (leBytes 2
      1000)).value.length ∧ (setting 3 8388611 3 (leBytes 2 1000)).last = true ∧ (rowOf 8388611).lenOk (setting 3
      8388611 3 (leBytes 2 1000)).value.length = true) ∧ ((setting 3 8388611 3 (leBytes 2 1000)).key ≠ 2097158) ∧
      ((setting 3 8388611 3 (leBytes 2 1000)).key ≠ 2097159)) ∧
    (((req 4 0).op = 4) ∧ ((req 4 0).value = []) ∧ ((holding 8388611 (leBytes 2 0)).boot.state = 9 → List.map (fun e =>
      (e.fst, e.snd.getD [])) ((holding 8388611 (leBytes 2 0)).own who).items = []) ∧ (((emptied 8388611 (leBytes 2
      0)).commitCheck (List.map (fun e => (e.fst, e.snd.getD [])) ((holding 8388611 (leBytes 2 0)).own who).items)).snd
      ≠ 0)) ∧
    (((req 4 0).op = 4) ∧ ((req 4 0).value = []) ∧ ((holding 8388611 (leBytes 2 1000)).boot.state = 9 → List.map (fun e =>
      (e.fst, e.snd.getD [])) ((holding 8388611 (leBytes 2 1000)).own who).items = []) ∧ (((emptied 8388611 (leBytes 2
      1000)).commitCheck (List.map (fun e => (e.fst, e.snd.getD [])) ((holding 8388611 (leBytes 2 1000)).own
      who).items)).snd = 0) ∧ (itemOn ((emptied 8388611 (leBytes 2 1000)).liveItems (List.map (fun e => (e.fst,
      e.snd.getD [])) ((holding 8388611 (leBytes 2 1000)).own who).items)) 5373953 = false)) ∧
    (((req 4 0).op = 4) ∧ ((req 4 0).value = []) ∧ ((holding 5373953 [1#8]).boot.state = 9 → List.map (fun e => (e.fst,
      e.snd.getD [])) ((holding 5373953 [1#8]).own who).items = []) ∧ (((emptied 5373953 [1#8]).commitCheck (List.map
      (fun e => (e.fst, e.snd.getD [])) ((holding 5373953 [1#8]).own who).items)).snd = 0) ∧ (itemOn ((emptied 5373953
      [1#8]).liveItems (List.map (fun e => (e.fst, e.snd.getD [])) ((holding 5373953 [1#8]).own who).items)) 5373953 =
      true) ∧ ((holding 5373953 [1#8]).bank.mode = 0) ∧ ((holding 5373953 [1#8]).treeDma = false)) ∧
    ((entryInfo (req 3 10066329).key = none) ∧ (1 ≤ (req 3 10066329).op) ∧ ((req 3 10066329).op ≤ 3)) ∧
    (5 < (req 6 0).op) ∧
    (((req 5 0).op = 5) ∧ ((req 5 0).value = [])) :=
  by and_intros <;> decide +kernel

/-- A value that is committed again, in a state that has it. -/
def again : List (Nat × List Byte) := [(0x800003, leBytes 2 1000)]
def hasIt : State := mg.putItems again

theorem test_met_DapRequests_items : (again.map (·.1)).Nodup ∧ Tab.wf none hasIt.dict = true ∧
    ∀ e ∈ again, e.1 < 2 ^ 24 ∧ actsOnly e.1 = false ∧ e.1 ≠ 0x600008 ∧ ∀ n, n < 4 → e.1 ≠ ptKey n 1 := by
  and_intros <;> decide +kernel

theorem test_met_DapRequests_ports (p : Nat) : (hasIt.putItems again).portBt p = hasIt.portBt p := by
  have e : hasIt.putItems again = hasIt := by decide +kernel
  rw [e]

end Dap

namespace Mc

def framed (b : List Byte) : List Byte := let f := padFrame b; f ++ fcsOf f
def macs : List Byte := List.replicate 6 0xFF#8 ++ List.replicate 6 2#8
/-- MG is UP with IPv4 address 10.0.0.2, and key slot 0 holds KEY_ID 7. -/
def mg : State :=
  let s := [(0x4201C1, leBytes 4 1), (0xA10001, leBytes 2 7 ++ [1#8] ++ List.replicate 13 0#8),
    (0xA00006, [2#8, 0#8, 0#8, 10#8])].foldl (fun s e => s.dput e.1 e.2) wit
  { s with net := { s.net with ports := [(192, { up := true })] } }
def key : KeyOp := ⟨7⟩
def staged : State := { mg with dap := { mg.dap with reqs := [(7, { items := [(3, some [1])] })] } }
def request : List Byte := framed (macs ++
  [0x08, 0x00, 0x45, 0, 0, 48, 0, 0, 0x40, 0, 64, 17, 0, 0, 10, 0, 0, 1, 10, 0, 0, 2, 3, 0xE8, 0x18, 9, 0, 28, 0, 0] ++
  List.replicate 20 0#8)
def sub : Subscr :=
  { keyId := 7, addr := List.replicate 16 0#8, udp := 5, port := 192, mask := 1, telem := false, life := 5, seq := 3,
    waiting := [⟨5, 0xFF, 1, 2, 3⟩], dropped := 2, frame := request, tc := 3 }
def subscribed : State := { mg with dap := { mg.dap with subs := [sub] } }
def tick1024 : State := { mg with clk := { mg.clk with tick := 1024 } }
def counted : State := { mg with ctr := [(5, 3)] }
def subOp : SubOp := ⟨0⟩
def telemetry : TelemetryOp := ⟨3, 4, 5⟩
def clear : StatsOp := ⟨0, none⟩
def frameOp (b : List Byte) : DapOp := ⟨192, 0, 0, b⟩
def arp : List Byte := framed (macs ++ [8, 6, 0, 1, 8, 0, 6, 4, 0, 1] ++ List.replicate 6 2#8 ++ [10, 0, 0, 9] ++
  List.replicate 6 0#8 ++ beBytes 4 (mg.dnum 0xA00006))
def solicit : List Byte := framed (macs ++ [0x86, 0xDD, 0x60, 0, 0, 0, 0, 24, 0x3A, 0xFF] ++ [0xFE, 0x80] ++
  List.replicate 13 0#8 ++ [9] ++ mg.linkLocal ++ [0x87, 0, 0, 0, 0, 0, 0, 0] ++ mg.linkLocal)

def dropped : State := { mg with dap := { mg.dap with subs := [{ sub with keyId := 8 }] } }
def quiet : Subscr := { sub with waiting := [], dropped := 0 }
def nothingNew : State := { mg with dap := { mg.dap with subs := [quiet] } }
def tick1023 : State := { mg with clk := { mg.clk with tick := 1023 } }
def clearGroup : StatsOp := ⟨0x9200, none⟩
def clearUnknown : StatsOp := ⟨65536, none⟩
/-- A solicitation from the unspecified address. -/
def probe : List Byte := framed (macs ++ [0x86, 0xDD, 0x60, 0, 0, 0, 0, 24, 0x3A, 0xFF] ++
  List.replicate 16 0#8 ++ mg.linkLocal ++ [0x87, 0, 0, 0, 0, 0, 0, 0] ++ mg.linkLocal)

/-- STATS_CLEAR of every group by partition 1. -/
def clearOwn : StatsOp := ⟨0, some 1⟩

set_option maxRecDepth 100000 in
theorem test_met_McServices :
    (((Tab.get { } mg.dap.reqs (BitVec.toNat key.keyId)).items = []) ∧ ((Tab.get { } mg.dap.reqs (BitVec.toNat
      key.keyId)).block = none)) ∧
    ((Tab.get { } staged.dap.reqs (BitVec.toNat key.keyId)).items ≠ []) ∧
    (mg.dap.subs[subOp.place]? = none) ∧
    ((nothingNew.dap.subs[subOp.place]? = some quiet) ∧ (quiet.waiting = []) ∧ (quiet.dropped = 0)) ∧
    ((dropped.dap.subs[subOp.place]? = some { sub with keyId := 8 }) ∧ (sub.waiting ≠ []) ∧ (dropped.credSlot 8 = none)) ∧
    ((subscribed.dap.subs[subOp.place]? = some sub) ∧ (sub.dropped ≠ 0) ∧ (subscribed.credSlot sub.keyId = some 0)) ∧
    (tick1023.now % 1024 ≠ 0) ∧
    ((tick1024.now % 1024 = 0) ∧ (4 ≤ tick1024.boot.state) ∧ (tick1024.boot.state ≤ 9)) ∧
    (¬(6 ≤ counted.boot.state ∧ counted.boot.state < 9 ∧ (BitVec.toNat clearUnknown.value = 0 ∨ BitVec.toNat
      clearUnknown.value < 65536 ∧ ∃ g, g ∈ ctrGroups ∧ g.fst = BitVec.toNat clearUnknown.value))) ∧
    (6 ≤ counted.boot.state ∧ counted.boot.state < 9 ∧ (BitVec.toNat clear.value = 0 ∨ BitVec.toNat clear.value < 65536 ∧ ∃
      g, g ∈ ctrGroups ∧ g.fst = BitVec.toNat clear.value)) ∧
    (BitVec.toNat clear.value = 0 ∧ clear.part = none) ∧
    (6 ≤ counted.boot.state ∧ counted.boot.state < 9 ∧ (BitVec.toNat clearGroup.value = 0 ∨ BitVec.toNat clearGroup.value <
      65536 ∧ ∃ g, g ∈ ctrGroups ∧ g.fst = BitVec.toNat clearGroup.value)) ∧
    (clearGroup.part = none ∧ BitVec.toNat clearGroup.value ≠ 0) ∧
    (6 ≤ counted.boot.state ∧ counted.boot.state < 9 ∧ (BitVec.toNat clearOwn.value = 0 ∨ BitVec.toNat clearOwn.value <
      65536 ∧ ∃ g, g ∈ ctrGroups ∧ g.fst = BitVec.toNat clearOwn.value)) ∧
    (Option.map (fun x => x.toNat) clearOwn.part = some 1) ∧
    (¬((6 ≤ mg.boot.state ∧ mg.boot.state ≤ 9 ∧ (frameOp solicit).port = 192 ∧ mg.portUp 192 = true ∧ mg.addrPasses 192
      (frameOp solicit).bytes = true) ∧ mg.dnum 10485766 ≠ 0 ∧ beAt (List.take ((frameOp solicit).bytes.length - 4)
      (frameOp solicit).bytes) 12 10 = 37889612617670589677569 ∧ List.take 4 (List.drop 38 (List.take ((frameOp
      solicit).bytes.length - 4) (frameOp solicit).bytes)) = beBytes 4 (mg.dnum 10485766))) ∧
    (¬((6 ≤ mg.boot.state ∧ mg.boot.state ≤ 9 ∧ (frameOp arp).port = 192 ∧ mg.portUp 192 = true ∧ mg.addrPasses 192 (frameOp
      arp).bytes = true) ∧ beAt (List.take ((frameOp arp).bytes.length - 4) (frameOp arp).bytes) 12 2 = 34525 ∧ beAt
      (List.take ((frameOp arp).bytes.length - 4) (frameOp arp).bytes) 20 2 = 15103 ∧ beAt (List.take ((frameOp
      arp).bytes.length - 4) (frameOp arp).bytes) 54 2 = 34560 ∧ 78 ≤ (List.take ((frameOp arp).bytes.length - 4)
      (frameOp arp).bytes).length ∧ List.take 16 (List.drop 62 (List.take ((frameOp arp).bytes.length - 4) (frameOp
      arp).bytes)) = mg.linkLocal)) ∧
    ((6 ≤ mg.boot.state ∧ mg.boot.state ≤ 9 ∧ (frameOp arp).port = 192 ∧ mg.portUp 192 = true ∧ mg.addrPasses 192 (frameOp
      arp).bytes = true) ∧ (mg.dnum 10485766 ≠ 0 ∧ beAt (List.take ((frameOp arp).bytes.length - 4) (frameOp arp).bytes)
      12 10 = 37889612617670589677569 ∧ List.take 4 (List.drop 38 (List.take ((frameOp arp).bytes.length - 4) (frameOp
      arp).bytes)) = beBytes 4 (mg.dnum 10485766)) ∧ (42 ≤ (List.take ((frameOp arp).bytes.length - 4) (frameOp
      arp).bytes).length)) ∧
    ((6 ≤ mg.boot.state ∧ mg.boot.state ≤ 9 ∧ (frameOp solicit).port = 192 ∧ mg.portUp 192 = true ∧ mg.addrPasses 192
      (frameOp solicit).bytes = true) ∧ (beAt (List.take ((frameOp solicit).bytes.length - 4) (frameOp solicit).bytes)
      12 2 = 34525 ∧ beAt (List.take ((frameOp solicit).bytes.length - 4) (frameOp solicit).bytes) 20 2 = 15103 ∧ beAt
      (List.take ((frameOp solicit).bytes.length - 4) (frameOp solicit).bytes) 54 2 = 34560 ∧ 78 ≤ (List.take ((frameOp
      solicit).bytes.length - 4) (frameOp solicit).bytes).length ∧ List.take 16 (List.drop 62 (List.take ((frameOp
      solicit).bytes.length - 4) (frameOp solicit).bytes)) = mg.linkLocal)) ∧
    ((6 ≤ mg.boot.state ∧ mg.boot.state ≤ 9 ∧ (frameOp probe).port = 192 ∧ mg.portUp 192 = true ∧ mg.addrPasses 192 (frameOp
      probe).bytes = true) ∧ (beAt (List.take ((frameOp probe).bytes.length - 4) (frameOp probe).bytes) 12 2 = 34525 ∧
      beAt (List.take ((frameOp probe).bytes.length - 4) (frameOp probe).bytes) 20 2 = 15103 ∧ beAt (List.take ((frameOp
      probe).bytes.length - 4) (frameOp probe).bytes) 54 2 = 34560 ∧ 78 ≤ (List.take ((frameOp probe).bytes.length - 4)
      (frameOp probe).bytes).length ∧ List.take 16 (List.drop 62 (List.take ((frameOp probe).bytes.length - 4) (frameOp
      probe).bytes)) = mg.linkLocal)) ∧
    (List.take 16 (List.drop 22 (List.take ((frameOp solicit).bytes.length - 4) (frameOp solicit).bytes)) ≠ List.replicate
      16 0#8) ∧
    (List.take 16 (List.drop 22 (List.take ((frameOp probe).bytes.length - 4) (frameOp probe).bytes)) = List.replicate 16
      0#8) :=
  by and_intros <;> decide +kernel

end Mc

namespace Boot

def unstarted : State := { State.reset with boot := { State.reset.boot with state := 0 }, power := .off }
def noRecord : State := { unstarted with boot := { unstarted.boot with
  fw0 := ⟨[], some 5⟩, record := { unstarted.boot.record with signed := false } } }
def inState (n : Nat) : State := { State.reset with boot := { State.reset.boot with state := n } }
def start (b : Bool) : StartOp := ⟨b⟩
def bringup (n : Option (Fin 8)) (b : Bool) : BringupOp := ⟨n, b⟩
def rail (n : Nat) : RailOp := ⟨n⟩
def bytes : BytesOp := ⟨List.replicate 65536 0#8⟩
def recover (b : List Byte) : RecoveryOp := ⟨5, b⟩
def chunk : List Byte := leBytes 4 32768 ++ List.replicate 32768 0#8
def verified : State := { wit with boot := { wit.boot with fw1 := ⟨[], some 5⟩ } }
def recovery : State := { State.reset with boot := { State.reset.boot with state := 10, fw0 := ⟨[], some 5⟩ } }
def recoveryBoot : RecoveryBootOp := ⟨5, true⟩
def slotOne : State := { wit.dput 0xA01004 [1#8, 0#8, 0#8, 0#8] with boot := { wit.boot with fwActive := 1 } }

def lastBlock : State := verified.dput 0xA01004 (leBytes 4 512)

/-- A slot with a firmware that verifies, off. -/
def good : State := { unstarted with boot := { unstarted.boot with fw0 := ⟨[], some 5⟩ } }

set_option maxRecDepth 100000 in
theorem test_met_StartupAndFirmware :
    (wit.unstarted = false) ∧
    (unstarted.unstarted = true) ∧
    (good.unstarted = true) ∧
    (noRecord.unstarted = true) ∧
    (¬(good.boot.fw0.verify = none ∧ good.boot.fw1.verify = none) ∧ good.boot.fwPref ≤ 1 ∧ (start false).puf = false ∧
      (start true).puf = true) ∧
    (¬(noRecord.boot.fw0.verify = none ∧ noRecord.boot.fw1.verify = none) ∧ ¬noRecord.boot.record.signed = true) ∧
    (wit.boot.state ≠ 4) ∧
    (((inState 4).boot.state = 4) ∧ ((bringup (some 3) false).hbm = some 3)) ∧
    (((inState 4).boot.state = 4) ∧ ((bringup none true).hbm = none) ∧ ((bringup none true).cxl = true)) ∧
    (((inState 4).boot.state = 4) ∧ ((bringup none false).hbm = none) ∧ ((bringup none false).cxl = false)) ∧
    (((inState 4).boot.state = 4) ∧ ((bringup none false).hbm = none) ∧ ((bringup none false).cxl = false) ∧ ((inState
      4).boot.slots = [])) ∧
    (143 < BitVec.toNat (rail 144).monitor) ∧
    ((unstarted.unstarted = true) ∧ (BitVec.toNat (rail 138).monitor = 138)) ∧
    ((unstarted.unstarted = true) ∧ (113 ≤ BitVec.toNat (rail 143).monitor) ∧ (BitVec.toNat (rail 143).monitor ≤ 143) ∧
      (BitVec.toNat (rail 143).monitor ≠ 137) ∧ (BitVec.toNat (rail 143).monitor ≠ 138)) ∧
    (wit.boot.saving = none) ∧
    (¬(6 ≤ (inState 4).boot.state ∧ (inState 4).boot.state ≤ 9)) ∧
    (512 ≤ lastBlock.dnum 10489860) ∧
    ((6 ≤ slotOne.boot.state ∧ slotOne.boot.state ≤ 9) ∧ (bytes.bytes.length = 65536) ∧ (slotOne.dnum 10489860 < 512)) ∧
    ((6 ≤ verified.boot.state ∧ verified.boot.state ≤ 9) ∧ (bytes.bytes.length = 65536) ∧ (verified.dnum 10489860 < 512)) ∧
    ((6 ≤ verified.boot.state ∧ verified.boot.state ≤ 9) ∧ (verified.fwOther.verify = some 5)) ∧
    (verified.boot.state ≠ 10) ∧
    ((recovery.boot.state = 10) ∧ ((recover chunk).payload.length = 32772 ∧ leAt (recover chunk).payload 0 4 % 32768 = 0 ∧
      leAt (recover chunk).payload 0 4 < 2 ^ 25)) ∧
    ((recovery.boot.state = 10) ∧ (¬((recover [1, 2]).payload.length = 32772 ∧ leAt (recover [1, 2]).payload 0 4 % 32768 = 0
      ∧ leAt (recover [1, 2]).payload 0 4 < 2 ^ 25))) ∧
    ((recovery.boot.state = 10) ∧ (recovery.boot.fw0.verify = some 5)) :=
  by and_intros <;> decide +kernel

/-- No slot has a firmware that verifies. -/
def noFirmware : State := { unstarted with boot := { unstarted.boot with fw0 := ⟨[], none⟩, fw1 := ⟨[], none⟩ } }
theorem test_met_StartupAndFirmware_none (h : Config.fwVerify [] = none) :
    noFirmware.unstarted = true ∧ noFirmware.boot.fw0.verify = none ∧ noFirmware.boot.fw1.verify = none :=
  ⟨by decide +kernel, h, h⟩

theorem test_met_StartupAndFirmware_refused (h : Config.fwVerify [] = none) :
    (6 ≤ wit.boot.state ∧ wit.boot.state ≤ 9 ∧ wit.fwOther.verify = none) ∧
      ((inState 10).boot.state = 10 ∧ ({ (inState 10).boot.fw0 with version := none } : FwSlot).verify = none) :=
  ⟨⟨by decide +kernel, by decide +kernel, h⟩, by decide +kernel, h⟩

end Boot

namespace Config

def inBoot (n : Nat) : State := { wit with boot := { wit.boot with state := n } }
def saved : Saving := ⟨1, 5, [1#8, 2#8]⟩
def saving : State := { inBoot 7 with boot := { (inBoot 7).boot with saving := some saved } }
def resets : State := { inBoot 7 with boot := { (inBoot 7).boot with reset := true } }
def resetSaves : State := { saving with boot := { saving.boot with reset := true } }
/-- An image without records: header, trailer and CRC. -/
def noRecords : List Byte :=
  leBytes 12 0x10001000149434652 ++ leBytes 52 5 ++ leBytes 16 0x7C6112980000000000000005444E4552
def loads : State := { inBoot 7 with boot := { (inBoot 7).boot with slots := [(0, noRecords)] } }
def outcome (b : Bool) : OutcomeOp := ⟨b⟩
def image (n : Nat) : ValueOp := ⟨BitVec.ofNat 32 n⟩
def resetStart : StartOp := ⟨true⟩
def flag : FlagOp := ⟨true⟩

def cleanTrip (cool : Nat) : State :=
  { resets with boot := { resets.boot with state := 9, fault := 13 }, health := { wit.health with cool := cool } }

/-- The reference has not run for 10 ms; the reset of a trip by the input's own monitor, its input masked. -/
def earlyReset : State := { inBoot 7 with health := { wit.health with refRan := 9765 } }
def maskedTrip : State := { inBoot 9 with
  boot := { (inBoot 9).boot with fault := 13, monitor := 194 }, health := { wit.health with masked := 16 } }

set_option maxRecDepth 100000 in
theorem test_met_Configuration :
    (wit.boot.saving = none) ∧
    (saving.boot.saving = some saved) ∧
    ((6 ≤ (inBoot 7).boot.state ∧ (inBoot 7).boot.state < 9) ∧ (((inBoot 7).commitCheck [(2097154, if flag.value = true then
      [1#8] else [0#8])]).snd = 0)) ∧
    (((inBoot 8).commitCheck [(2097154, if flag.value = true then [1#8] else [0#8])]).snd ≠ 0) ∧
    ((6 ≤ (inBoot 7).boot.state ∧ (inBoot 7).boot.state < 9) ∧ (((inBoot 7).commitCheck [(2097155, [1#8])]).snd = 0)) ∧
    (¬(6 ≤ (inBoot 5).boot.state ∧ (inBoot 5).boot.state < 9)) ∧
    (¬(BitVec.toNat (image 2).value < 2 ∧ ((inBoot 7).boot.state = 6 ∨ (inBoot 7).boot.state = 7))) ∧
    ((BitVec.toNat (image 0).value < 2 ∧ (loads.boot.state = 6 ∨ loads.boot.state = 7)) ∧ ((loads.slotCheck (BitVec.toNat
      (image 0).value)).fst = 0)) ∧
    ((BitVec.toNat (image 1).value < 2 ∧ ((inBoot 7).boot.state = 6 ∨ (inBoot 7).boot.state = 7)) ∧ (((inBoot 7).slotCheck
      (BitVec.toNat (image 1).value)).fst ≠ 0)) ∧
    ((inBoot 7).boot.saving = none) ∧
    (6 ≤ (inBoot 7).boot.state ∧ (inBoot 7).boot.state ≤ 9 ∧ (image 38464).value = 38464#32 ∧ ¬((inBoot 7).health.refRan <
      9766 ∨ (inBoot 7).boot.state = 9 ∧ (inBoot 7).boot.fault = 13 ∧ (inBoot 7).boot.monitor = 194 ∧ (inBoot
      7).health.masked / 16 % 2 = 1)) ∧
    (¬(6 ≤ (inBoot 7).boot.state ∧ (inBoot 7).boot.state ≤ 9 ∧ (image 0).value = 38464#32 ∧ ¬((inBoot 7).health.refRan <
      9766 ∨ (inBoot 7).boot.state = 9 ∧ (inBoot 7).boot.fault = 13 ∧ (inBoot 7).boot.monitor = 194 ∧ (inBoot
      7).health.masked / 16 % 2 = 1))) ∧
    (¬(6 ≤ earlyReset.boot.state ∧ earlyReset.boot.state ≤ 9 ∧ (image 38464).value = 38464#32 ∧ ¬(earlyReset.health.refRan <
      9766 ∨ earlyReset.boot.state = 9 ∧ earlyReset.boot.fault = 13 ∧ earlyReset.boot.monitor = 194 ∧
      earlyReset.health.masked / 16 % 2 = 1))) ∧
    (¬(6 ≤ maskedTrip.boot.state ∧ maskedTrip.boot.state ≤ 9 ∧ (image 38464).value = 38464#32 ∧ ¬(maskedTrip.health.refRan <
      9766 ∨ maskedTrip.boot.state = 9 ∧ maskedTrip.boot.fault = 13 ∧ maskedTrip.boot.monitor = 194 ∧
      maskedTrip.health.masked / 16 % 2 = 1))) ∧
    (¬(resetSaves.boot.reset = true ∧ resetSaves.boot.saving = none ∧ ¬(resetSaves.health.refRan < 9766 ∨
      resetSaves.boot.state = 9 ∧ resetSaves.boot.fault = 13 ∧ resetSaves.boot.monitor = 194 ∧ resetSaves.health.masked
      / 16 % 2 = 1) ∧ (resetSaves.boot.state = 9 ∧ resetSaves.boot.fault = 13 → 128 ≤ resetSaves.health.cool))) ∧
    (¬((cleanTrip 127).boot.reset = true ∧ (cleanTrip 127).boot.saving = none ∧ ¬((cleanTrip 127).health.refRan < 9766 ∨
      (cleanTrip 127).boot.state = 9 ∧ (cleanTrip 127).boot.fault = 13 ∧ (cleanTrip 127).boot.monitor = 194 ∧ (cleanTrip
      127).health.masked / 16 % 2 = 1) ∧ ((cleanTrip 127).boot.state = 9 ∧ (cleanTrip 127).boot.fault = 13 → 128 ≤
      (cleanTrip 127).health.cool))) ∧
    (resets.boot.reset = true ∧ resets.boot.saving = none ∧ ¬(resets.health.refRan < 9766 ∨ resets.boot.state = 9 ∧
      resets.boot.fault = 13 ∧ resets.boot.monitor = 194 ∧ resets.health.masked / 16 % 2 = 1) ∧ (resets.boot.state = 9 ∧
      resets.boot.fault = 13 → 128 ≤ resets.health.cool)) ∧
    ((cleanTrip 128).boot.reset = true ∧ (cleanTrip 128).boot.saving = none ∧ ¬((cleanTrip 128).health.refRan < 9766 ∨
      (cleanTrip 128).boot.state = 9 ∧ (cleanTrip 128).boot.fault = 13 ∧ (cleanTrip 128).boot.monitor = 194 ∧ (cleanTrip
      128).health.masked / 16 % 2 = 1) ∧ ((cleanTrip 128).boot.state = 9 ∧ (cleanTrip 128).boot.fault = 13 → 128 ≤
      (cleanTrip 128).health.cool)) :=
  by and_intros <;> decide +kernel

end Config

namespace Health

def atTick (t : Nat) : State := { wit with clk := { wit.clk with tick := t } }
def aux : State := { atTick 8 with power := .aux }
def readings (hot : Int) : List Int := (List.range 200).map (fun i => if i = 0 then hot else if i = 112 then 500 else if i = 192 then 1000 else 20)
def sample (hot : Int) : SampleOp := ⟨readings hot⟩
def inputs (masked : Nat) : State := { atTick 8 with health := { wit.health with inputs := 8, masked := masked } }
def level (n : Fin 5) (b : Bool) : InputOp := ⟨n, b, 3⟩
def input (n : Fin 5) : InputNumOp := ⟨n⟩
def heartbeat : HeartbeatOp := ⟨1, 33⟩

def off : State := { atTick 8 with power := .off }

/-- The monitors that a sample finds powered, and the state once each is sampled. -/
def live (s : State) : List Nat := (List.range 195).filter (fun m => s.monOk m && (s.power == .on || auxMon m))
def sampled (s : State) (o : SampleOp) : State := (live s).foldl (fun y m => y.sampleMon o m) s
/-- A step of ACLK waits on tile 0: down from 1,300 MHz, or up to it. -/
def steps (mhz target dir : Nat) : State :=
  { atTick 8 with health := { wit.health with clk := [(0, { ({} : CtClk) with mhz := mhz, next := some (target, dir), slow := true })] } }

theorem test_met_HealthAndInputs :
    ((atTick 9).now % 8 ≠ 0) ∧
    (((atTick 8).now % 8 = 0) ∧ ((atTick 8).power ≠ Power.off) ∧ (Tab.wf 0 (atTick 8).health.level = true) ∧ (Tab.wf 0
      (atTick 8).health.reading = true)) ∧
    ((atTick 8).power = Power.on ∧ (atTick 8).monOk 192 = true ∧ (sample 1900).readings[192]? = some 1000 ∧ Tab.wf 0 (atTick
      8).health.reading = true ∧ Tab.wf { } (atTick 8).health.clk = true) ∧
    (aux.power = Power.aux ∧ aux.now % 8 = 0 ∧ Tab.wf 0 aux.health.level = true ∧ Tab.wf 0 aux.health.reading = true) ∧
    (0 ∈ live (atTick 8) ∧ Tab.get 0 (atTick 8).health.level 0 < 3 ∧ Tab.get 0 (sampled (atTick 8) (sample
      1900)).health.level 0 = 3) ∧
    (0 ∈ live aux ∧ Tab.get 0 aux.health.level 0 < 3 ∧ Tab.get 0 (sampled aux (sample 1900)).health.level 0 = 3) ∧
    (∀ (m : Nat), m ∈ List.range 195 → ¬(m ∈ live (atTick 8) ∧ Tab.get 0 (atTick 8).health.level m < 3 ∧ Tab.get 0 (sampled
      (atTick 8) (sample 40)).health.level m = 3)) ∧
    (∀ (m : Nat), m ∈ List.range 195 → ¬(m ∈ live aux ∧ Tab.get 0 aux.health.level m < 3 ∧ Tab.get 0 (sampled aux (sample
      40)).health.level m = 3)) ∧
    (¬(off.power = Power.on ∧ heartbeat.tile.toNat < off.variant.tiles ∧ off.health.failed / 2 ^ heartbeat.tile.toNat % 2 =
      0)) ∧
    ((atTick 8).power = Power.on ∧ heartbeat.tile.toNat < (atTick 8).variant.tiles ∧ (atTick 8).health.failed / 2 ^
      heartbeat.tile.toNat % 2 = 0) ∧
    (off.power = Power.off) ∧
    ((atTick 8).power = Power.on) ∧
    (aux.power = Power.aux) ∧
    ((Tab.wf { } (steps 1300 1200 1).health.clk = true) ∧ (Tab.wf 0 (steps 1300 1200 1).ctr = true) ∧ (0 < 65536)) ∧
    ((Tab.wf { } (steps 1200 1300 2).health.clk = true) ∧ (Tab.wf 0 (steps 1200 1300 2).ctr = true) ∧ (0 < 65536)) ∧
    (((input 3).input = (level 3 true).input) ∧ (off.inputLive ↑(level 3 true).input = false)) ∧
    (((input 3).input = (level 3 true).input) ∧ (¬(atTick 8).health.inputs / 2 ^ (level 3 true).input.val % 2 = 1)) ∧
    (((input 3).input = (level 3 true).input) ∧ ((inputs 8).health.masked / 2 ^ (level 3 true).input.val % 2 = 1)) ∧
    (((input 3).input = (level 3 true).input) ∧ ((atTick 8).inputLive ↑(level 3 true).input = true) ∧ ((level 3 true).active
      = true) ∧ (¬(atTick 8).health.inputs / 2 ^ (level 3 true).input.val % 2 = 1) ∧ (↑(level 3 true).input ≠ 1) ∧
      (↑(level 3 true).input ≠ 2)) ∧
    (((input 1).input = (level 1 true).input) ∧ ((atTick 8).inputLive ↑(level 1 true).input = true) ∧ ((level 1 true).active
      = true) ∧ (¬(atTick 8).health.inputs / 2 ^ (level 1 true).input.val % 2 = 1) ∧ (↑(level 1 true).input = 1)) ∧
    (((input 3).input = (level 3 true).input) ∧ ((inputs 0).inputLive ↑(level 3 true).input = true) ∧ ((level 3 true).active
      = true ↔ (inputs 0).health.inputs / 2 ^ (level 3 true).input.val % 2 = 1)) ∧
    (((input 3).input = (level 3 false).input) ∧ ((inputs 8).inputLive ↑(level 3 false).input = true) ∧ ((level 3
      false).active = false) ∧ ((inputs 8).health.inputs / 2 ^ (level 3 false).input.val % 2 = 1)) ∧
    (((input 3).input = (level 3 true).input) ∧ ((inputs 0).inputLive ↑(level 3 true).input = true) ∧ ((inputs
      0).health.inputs / 2 ^ (level 3 true).input.val % 2 = 1) ∧ (¬(inputs 0).health.masked / 2 ^ (level 3
      true).input.val % 2 = 1)) :=
  by and_intros <;> decide +kernel

end Health

/-! ### The block -/

theorem test_met_StepRunsFront : (State.reset.pending = []) ∧
    ((({ State.reset with pending := [Instr.configSave] } : State)).pending = Instr.configSave :: []) := by decide +kernel

theorem test_met_NoStepStops : State.reset.pending = [] := by decide +kernel

theorem test_met_MemoryStaysCanonical : State.reset.memOk = true ∧ ∃ t : State, step State.reset = .next t :=
  ⟨by decide +kernel, State.reset, rfl⟩

theorem test_met_MemoryReadAfterWrite : Memory.wf [(3, 7#8), (5, 1#8)] = true := by decide +kernel

theorem test_met_HardwiredRegisters : (State.reset = State.reset) ∧
    (∀ u ∈ [Config.resets, Config.cleanTrip 128], u.boot.reset = true ∧ u.boot.saving = none ∧ refReady ≤ u.health.refRan ∧
    ¬(u.boot.state = 9 ∧ u.boot.fault = 13 ∧ (u.health.cool < 128 ∨ u.boot.monitor = 194 ∧ u.health.masked / 16 % 2 = 1))) ∧
    (∃ t : State, exec (.deviceResetStart Config.resetStart) Config.resets = .next t) ∧
    ∃ t : State, exec (.deviceResetStart Config.resetStart) (Config.cleanTrip 128) = .next t :=
  ⟨rfl, by decide +kernel, ⟨_, rfl⟩, ⟨_, rfl⟩⟩

end Sys2Proof.Tests
end

/-! ## The hardwired registers of a steward core, and its registers at a device reset (R131) -/

namespace Sys2Proof.Machine

/-! ### x0 and p0 -/

@[simp] theorem Core.getP_zero (c : Core) : c.getP 0#3 = BitVec.allOnes 64 := by simp [Core.getP]

@[simp] theorem Core.setP_zero (c : Core) (w : Word64) : c.setP 0#3 w = c := by simp [Core.setP]

/-! ### A core as at reset -/

@[simp] theorem Core.getX_reset (r : BitVec 5) : ({} : Core).getX r = 0#64 := by simp [Core.getX]

@[simp] theorem Core.getV_reset (r : BitVec 5) : ({} : Core).getV r = 0#512 := by simp [Core.getV]

@[simp] theorem Core.getP_reset (r : BitVec 3) :
    ({} : Core).getP r = if r = 0#3 then BitVec.allOnes 64 else 0#64 := by simp [Core.getP]

/-- Where the table of cores is empty, every core is as at reset. -/
theorem State.core_of_cores_nil {s : State} (h : s.cores = []) (k : Nat) : s.core k = {} := by
  rw [State.core, h, Tab.get]

/-! ### The startup sequence and the cores -/

@[simp] theorem State.restart_cores (s : State) : s.restart.cores = [] := rfl

@[simp] theorem State.identify_cores (s : State) : s.identify.cores = s.cores := rfl

@[simp] theorem State.enterFault_cores (s : State) (reason arg : Nat) : (s.enterFault reason arg).cores = s.cores := by
  simp [State.enterFault]

@[simp] theorem State.bootFirmware_cores (s : State) : s.bootFirmware.cores = s.cores := by
  simp only [State.bootFirmware]
  split
  case h_1 => rfl
  case h_2 =>
    split
    · rw [State.raiseDev_cores]
    · rfl

@[simp] theorem State.startup_cores (s : State) (puf : Bool) : (s.startup puf).cores = s.cores := by
  simp only [State.startup]
  split
  · exact State.bootFirmware_cores s
  · split
    · rw [State.enterFault_cores, State.bootFirmware_cores]
    · split
      · rw [State.enterFault_cores, State.identify_cores, State.bootFirmware_cores]
      · exact State.bootFirmware_cores s

/-! ### Device reset -/

/-- What holds a reset back: REFCLK has run too briefly (R512), or the module tripped on a PWR_FAULT_N that is masked (R516). -/
theorem State.resetBlocked_iff (s : State) : s.resetBlocked = true ↔ s.health.refRan < refReady ∨
    s.boot.state = 9 ∧ s.boot.fault = 13 ∧ s.boot.monitor = 194 ∧ s.health.masked / 16 % 2 = 1 := by
  simp [State.resetBlocked, bit, and_assoc]

/-- A reset that was asked for may start (R482, R493, R512, R516). -/
theorem State.resetReady_of {s : State} (hreset : s.boot.reset = true) (hsave : s.boot.saving = none)
    (href : refReady ≤ s.health.refRan) (htrip : ¬(s.boot.state = 9 ∧ s.boot.fault = 13 ∧
      (s.health.cool < 128 ∨ s.boot.monitor = 194 ∧ s.health.masked / 16 % 2 = 1))) : s.resetReady = true := by
  have hfree : s.resetBlocked = false := by
    rw [Bool.eq_false_iff, ne_eq, State.resetBlocked_iff]
    rintro (hran | ⟨hstate, hfault, hmasked⟩)
    · omega
    · exact htrip ⟨hstate, hfault, .inr hmasked⟩
  have hcool : (¬s.boot.state = 9 ∨ ¬s.boot.fault = 13) ∨ 128 ≤ s.health.cool := by omega
  simpa [State.resetReady, hreset, hsave, hfree] using hcool

/-- What the command DEVICE_RESET_START does. -/
theorem exec_deviceResetStart (o : StartOp) (s : State) : exec (.deviceResetStart o) s = .next (deviceResetStart o s) := rfl

/-- A device reset leaves every core as at reset, in whichever state the startup sequence ends. -/
theorem deviceResetStart_cores {s : State} (o : StartOp) (h : s.resetReady = true) : (deviceResetStart o s).cores = [] := by
  simp only [deviceResetStart, h]
  split
  · contradiction
  · rw [State.startup_cores]
    split
    · rw [State.count_cores, State.restart_cores]
    · exact State.restart_cores s

/-! ### The statement -/

/-- Settles O6: reads after writes by the register laws, and a device reset empties the table of cores. -/
theorem hardwiredRegisters : Obligations.HardwiredRegisters := by
  unfold Obligations.HardwiredRegisters
  constructor
  · intro c r q p g w v
    exact ⟨c.getX_zero, c.setX_zero w, c.getP_zero, c.setP_zero w, c.getX_setX r q w, c.getV_setV r q v, c.getP_setP p g w⟩
  · intro s k c hreset
    have hcores : s.cores = [] := by
      rcases hreset with rfl | ⟨u, o, hasked, hsave, href, htrip, hstep⟩
      · rfl
      · rw [exec_deviceResetStart] at hstep
        obtain rfl := Host.Outcome.next.inj hstep
        exact deviceResetStart_cores o (State.resetReady_of hasked hsave href htrip)
    have hc : c = {} := State.core_of_cores_nil hcores k
    rw [hc]
    exact ⟨fun r => ⟨Core.getX_reset r, Core.getV_reset r⟩, Core.getP_reset,
      rfl, rfl, rfl, rfl, rfl, rfl, rfl, rfl, rfl⟩

end Sys2Proof.Machine

/-! ## The rule that applies to a key (R330) -/

namespace Sys2Proof.Machine

/-! ### One rule and a key -/

/-- A rule matches when it is valid and (key AND MASK) equals (VALUE AND MASK). -/
theorem ruleMatches_iff (r key : List Byte) : ruleMatches r key = true ↔
    ruleValid r = true ∧ leNat key &&& leAt r 48 48 = leAt r 0 48 &&& leAt r 48 48 := by
  rw [ruleMatches, Bool.and_eq_true, beq_iff_eq]

/-- A valid rule whose MASK is zero matches every key. -/
theorem ruleMatches_of_mask_zero {r : List Byte} (key : List Byte) (hvalid : ruleValid r = true) (hmask : leAt r 48 48 = 0) :
    ruleMatches r key = true := by
  rw [ruleMatches_iff, hmask, Nat.and_zero, Nat.and_zero]
  exact ⟨hvalid, rfl⟩

/-! ### The choice, with one more rule at the end -/

section Choice

variable {key r : List Byte} {rs : List (Nat × List Byte)} {x : Nat × List Byte}

/-- A rule at the end displaces the choice among those before it when it matches and has a lower PRIORITY, or nothing else
matched. -/
theorem bestRule_concat (key : List Byte) (rs : List (Nat × List Byte)) (x : Nat × List Byte) : bestRule key (rs ++ [x]) =
    if ruleMatches x.2 key = true then
      (bestRule key rs).elim (some x.2) (fun r => if leAt x.2 96 2 < leAt r 96 2 then some x.2 else some r)
    else bestRule key rs := by
  by_cases hx : ruleMatches x.2 key = true
  · generalize hbest : bestRule key rs = best
    rw [bestRule] at hbest ⊢
    rw [List.foldl_append, hbest]
    cases best <;> simp [hx]
  · simp [bestRule, hx]

/-! ### The rule that R330 names -/

/-- R330's choice, without the order of its evaluation: `r` stands in the list and matches, each matching rule of a lower index
has a higher PRIORITY, and none of a higher index has a lower one. -/
def RuleApplies (key : List Byte) (rs : List (Nat × List Byte)) (r : List Byte) : Prop :=
  ∃ (a b : List (Nat × List Byte)) (n : Nat), rs = a ++ (n, r) :: b ∧ ruleMatches r key = true ∧
    (∀ x ∈ a, ruleMatches x.2 key = true → leAt r 96 2 < leAt x.2 96 2) ∧
    (∀ x ∈ b, ruleMatches x.2 key = true → leAt r 96 2 ≤ leAt x.2 96 2)

/-- The rule that applies is one of the matching rules. -/
theorem RuleApplies.exists_matches (h : RuleApplies key rs r) : ∃ x ∈ rs, ruleMatches x.2 key = true := by
  obtain ⟨a, b, n, rfl, hr, -, -⟩ := h
  exact ⟨(n, r), by simp, hr⟩

/-- No matching rule has a lower PRIORITY than the one that applies. -/
theorem RuleApplies.priority_le (h : RuleApplies key rs r) (hx : x ∈ rs) (hmatch : ruleMatches x.2 key = true) :
    leAt r 96 2 ≤ leAt x.2 96 2 := by
  obtain ⟨a, b, n, rfl, -, hbefore, hafter⟩ := h
  rcases List.mem_append.1 hx with hxa | hxb
  · exact Nat.le_of_lt (hbefore x hxa hmatch)
  · rcases List.mem_cons.1 hxb with rfl | hxb
    · exact Nat.le_refl _
    · exact hafter x hxb hmatch

/-- A rule at the end does not displace the one that applies, unless it matches and has a lower PRIORITY. -/
theorem RuleApplies.concat (h : RuleApplies key rs r) (hx : ruleMatches x.2 key = true → leAt r 96 2 ≤ leAt x.2 96 2) :
    RuleApplies key (rs ++ [x]) r := by
  obtain ⟨a, b, n, rfl, hr, hbefore, hafter⟩ := h
  refine ⟨a, b ++ [x], n, by simp, hr, hbefore, fun y hy => ?_⟩
  rcases List.mem_append.1 hy with hyb | hyx
  · exact hafter y hyb
  · rwa [List.mem_singleton.1 hyx]

/-- A matching rule at the end applies when every matching rule before it has a higher PRIORITY. -/
theorem ruleApplies_concat_self (hx : ruleMatches x.2 key = true)
    (hrs : ∀ y ∈ rs, ruleMatches y.2 key = true → leAt x.2 96 2 < leAt y.2 96 2) : RuleApplies key (rs ++ [x]) x.2 :=
  ⟨rs, [], x.1, rfl, hx, hrs, by simp⟩

/-- A rule and the one that applies from its place on stand at the same place: were `r'` later, `r` would need a PRIORITY both
at most that of `r'`, as none after `r` is lower, and above it, as each before `r'` is higher. -/
theorem eq_of_rule_split {a b l : List (Nat × List Byte)} {n n' : Nat} {r r' : List Byte}
    (hsplit : (n, r) :: a = l ++ (n', r') :: b) (hr : ruleMatches r key = true) (hr' : ruleMatches r' key = true)
    (hafter : ∀ x ∈ a, ruleMatches x.2 key = true → leAt r 96 2 ≤ leAt x.2 96 2)
    (hbefore : ∀ x ∈ l, ruleMatches x.2 key = true → leAt r' 96 2 < leAt x.2 96 2) : r = r' := by
  cases l with
  | nil => exact (Prod.mk.inj (List.cons.inj hsplit).1).2
  | cons y l =>
    obtain ⟨rfl, rfl⟩ := List.cons.inj hsplit
    have hle : leAt r 96 2 ≤ leAt r' 96 2 := hafter (n', r') (by simp) hr'
    have hlt : leAt r' 96 2 < leAt r 96 2 := hbefore (n, r) (by simp) hr
    omega

/-- At most one rule applies. -/
theorem RuleApplies.unique {r' : List Byte} (h : RuleApplies key rs r) (h' : RuleApplies key rs r') : r = r' := by
  obtain ⟨a, b, n, rfl, hr, hbefore, hafter⟩ := h
  obtain ⟨a', b', n', hsplit, hr', hbefore', hafter'⟩ := h'
  rcases List.append_eq_append_iff.1 hsplit with ⟨l, rfl, hl⟩ | ⟨l, rfl, hl⟩
  · exact eq_of_rule_split hl hr hr' hafter fun x hx => hbefore' x (List.mem_append_right a hx)
  · exact (eq_of_rule_split hl hr' hr hafter' fun x hx => hbefore x (List.mem_append_right a' hx)).symm

/-! ### The choice is R330's -/

/-- The choice either finds no matching rule or gives the one that applies. -/
theorem bestRule_spec (key : List Byte) (rs : List (Nat × List Byte)) :
    (bestRule key rs = none ∧ ∀ x ∈ rs, ¬ruleMatches x.2 key = true) ∨
      ∃ r, bestRule key rs = some r ∧ RuleApplies key rs r := by
  rw [← rs.reverse_reverse]
  induction rs.reverse with
  | nil => exact .inl ⟨rfl, by simp⟩
  | cons x l ih =>
    rw [List.reverse_cons]
    generalize l.reverse = rs at ih ⊢
    by_cases hx : ruleMatches x.2 key = true
    · right
      rcases ih with ⟨hnone, hfree⟩ | ⟨r, hsome, hr⟩
      · exact ⟨x.2, by simp [bestRule_concat, hx, hnone],
          ruleApplies_concat_self hx fun y hy hmatch => absurd hmatch (hfree y hy)⟩
      · by_cases hlower : leAt x.2 96 2 < leAt r 96 2
        · exact ⟨x.2, by simp [bestRule_concat, hx, hsome, hlower],
            ruleApplies_concat_self hx fun y hy hmatch => Nat.lt_of_lt_of_le hlower (hr.priority_le hy hmatch)⟩
        · exact ⟨r, by simp [bestRule_concat, hx, hsome, hlower], hr.concat fun _ => Nat.not_lt.1 hlower⟩
    · rw [bestRule_concat, if_neg hx]
      rcases ih with ⟨hnone, hfree⟩ | ⟨r, hsome, hr⟩
      · refine .inl ⟨hnone, fun y hy => ?_⟩
        rcases List.mem_append.1 hy with hyrs | hyx
        · exact hfree y hyrs
        · rwa [List.mem_singleton.1 hyx]
      · exact .inr ⟨r, hsome, hr.concat fun hmatch => absurd hmatch hx⟩

theorem bestRule_eq_some_iff : bestRule key rs = some r ↔ RuleApplies key rs r := by
  rcases bestRule_spec key rs with ⟨hnone, hfree⟩ | ⟨r', hsome, hr'⟩
  · rw [hnone]
    refine iff_of_false (by simp) fun hr => ?_
    obtain ⟨x, hx, hmatch⟩ := hr.exists_matches
    exact hfree x hx hmatch
  · rw [hsome, Option.some_inj]
    exact ⟨fun heq => heq ▸ hr', hr'.unique⟩

theorem bestRule_eq_none_iff : bestRule key rs = none ↔ ∀ x ∈ rs, ¬ruleMatches x.2 key = true := by
  rcases bestRule_spec key rs with ⟨hnone, hfree⟩ | ⟨r, hsome, hr⟩
  · exact iff_of_true hnone hfree
  · rw [hsome]
    refine iff_of_false (by simp) fun hfree => ?_
    obtain ⟨x, hx, hmatch⟩ := hr.exists_matches
    exact hfree x hx hmatch

end Choice

/-! ### The statement -/

/-- Settles O49: the fold over the rules is R330's choice, by induction on the list from its end. -/
theorem ruleChoice : Obligations.RuleChoice := by
  unfold Obligations.RuleChoice
  refine ⟨fun r key hvalid => ⟨?_, ruleMatches_of_mask_zero key hvalid⟩, fun r key hinvalid => ?_, fun key r rs => ?_⟩
  · rw [ruleMatches_iff, and_iff_right hvalid]
  · rw [ruleMatches, hinvalid, Bool.false_and]
  · exact ⟨bestRule_eq_some_iff, bestRule_eq_none_iff⟩

end Sys2Proof.Machine
